-- ==== Sys2Proof/Word.lean ====
section
/-! DEFINITION. The number types of the manual and its rounding operators (00_scope.md, Conventions). -/

namespace Sys2Proof

/-- One character of a serial line, 8 data bits. -/
abbrev Byte := BitVec 8

/-- The least position (00_scope.md, Numbers). -/
def posMin : Int := -8388608

/-- The greatest position (00_scope.md, Numbers). -/
def posMax : Int := 8388607

/-- The position range of 00_scope.md, both ends included. -/
def inPosRange (x : Int) : Bool := decide (posMin ≤ x) && decide (x ≤ posMax)

/-- floor of `x / d` for a positive divisor (Table 0-5). -/
def floorDiv (x d : Int) : Int := Int.fdiv x d

/-- trunc of `x / d`: rounded toward zero (Table 0-5). -/
def truncDiv (x d : Int) : Int := Int.tdiv x d

/-- round of `x / d` for a positive divisor: to nearest, halves away from zero (Table 0-5). -/
def roundDiv (x d : Int) : Int :=
  if x < 0 then - Int.fdiv (2 * (-x) + d) (2 * d) else Int.fdiv (2 * x + d) (2 * d)

/-- Saturation to `[lo, hi]` (00_scope.md, Arithmetic). -/
def sat (lo hi x : Int) : Int := if x < lo then lo else if hi < x then hi else x

end Sys2Proof
end

