-- ==== Sys2Proof/Config.lean ====
section
/-! DEFINITION. What the manual fixes for every part (Table 0-2 and the limits of the chapters). The manual leaves no value of
this part open to an implementation, so no opaque value stands here. -/

namespace Sys2Proof.Config

/-- Blocks of the key store (R74). -/
def blocks : Nat := 2048
/-- Key slots of a block (R74). -/
def slots : Nat := 16
/-- Entries of the move directory (R79). -/
def moves : Nat := 32
/-- Entries of the mark table (R129). -/
def marks : Nat := 64
/-- Entries of the zone table (R56). -/
def zones : Nat := 8
/-- Steps of the cue list (R154). -/
def cueSteps : Nat := 48
/-- Entries of the trigger table (R168). -/
def triggers : Nat := 8
/-- Places of a key FIFO: a player's (R107) and the Recorder's (R144). -/
def fifoDepth : Nat := 8
/-- Places of the console request queue (R196). -/
def queueDepth : Nat := 4
/-- Entries of the refusal list (R198). -/
def refusalDepth : Nat := 8
/-- The greatest payload of a console frame (R195). -/
def maxPayload : Nat := 240
/-- The greatest key time (Table 4-1). -/
def maxTime : Nat := 16777215
/-- The frame number wraps to 0 at this count (R19). -/
def frameWrap : Nat := 4294967296
/-- Steps the cue may execute at one publication (R160). -/
def cueBudget : Nat := 16
/-- The greatest skipped count of the Recorder (R145). -/
def maxSkipped : Nat := 65535
/-- The greatest miss count of an axis (R181). -/
def maxMiss : Nat := 15
/-- The greatest replaced count of the status reports (R192). -/
def maxReplaced : Nat := 255
/-- The interlock threshold of a channel with no bound axis, and the deadband of a channel demand (R10, R15). -/
def freeDeadband : Nat := 64

end Sys2Proof.Config
end

