-- ==== Sys2Proof/Syntax.lean ====
section
/-! DEFINITION. The commands of the block: one constructor per row of spec/opcode_table.json, with the row's operands as
they travel on its line. An operand is the NUMBER that the line carries, so a value that a rule refuses can be written. -/

namespace Sys2Proof

/-- The loop current found at the STOP line when a reset reads it (R68, Table 0-3). -/
inductive LoopCurrent
  | belowTwo      -- below 2 mA, or a broken wire: the stop chain is open
  | between       -- between 2 and 5 mA
  | aboveFive     -- above 5 mA: the stop chain is closed
deriving DecidableEq, Repr

/-- What the error-correcting check of a key finds when the key is read (R75). -/
inductive KeyCheck
  | good
  | corrected
  | damaged
deriving DecidableEq, Repr

/-- The four blocks a publication reaches, in no order among themselves (R25). -/
inductive Sink
  | driveLine
  | recorder
  | cue
  | noticeUnit
deriving DecidableEq, Repr

/-- The order in which the two players are asked for their positions, which R22 leaves open. -/
inductive PlayerOrder
  | aFirst
  | bFirst
deriving DecidableEq, Repr

/-- What may come about at the Stick Port while an output frame is in progress (R12): a panel frame is completed, or the
stale timer expires. -/
inductive StickEvent
  | frame (seq : Nat) (samples : List Int) (codes : List Nat) (check : Nat)
  | expiry
deriving DecidableEq, Repr

/-- How the requests of an output frame fall (R12, R22, R113, R114, R123): the order in which the players are asked, what comes
about at the Stick Port between the two players' answers, and what comes about there between the second one's and the Blend
Engine's request. The three lists of accesses are those that complete at the key store port before the first player's answer,
between the two and after the second's, each with what its check finds; `faults` is the order in which the players take the
DAMAGED outcomes among them after the publication. -/
structure PlayerTurns where
  order : PlayerOrder
  mid : List StickEvent := []
  late : List StickEvent := []
  accesses : List KeyCheck := []
  midAccesses : List KeyCheck := []
  lateAccesses : List KeyCheck := []
  faults : PlayerOrder := .aFirst
deriving DecidableEq, Repr

/-- A key record as PUT_KEYS carries it (Table 11-2). -/
structure WireKey where
  time : Nat
  shape : Nat
  positions : List Int
deriving DecidableEq, Repr

/-- A cue step as PUT_CUE carries it: the kind byte and four operand bytes (Note 1 to Table 11-5). -/
structure WireStep where
  kind : Nat
  op0 : Nat
  op1 : Nat
  op2 : Nat
  op3 : Nat
deriving DecidableEq, Repr

/-- The fields of Table 9-1 as SET_AXIS carries them, in the table's order. -/
structure WireAxis where
  softMin : Int
  softMax : Int
  band : Nat
  vmax : Nat
  amax : Nat
  vstick : Nat
  channel : Option Nat
  invert : Nat
  deadband : Nat
  curve : Nat
  mode : Nat
  trimMax : Nat
  feLimit : Nat
  tipScaled : Nat
  missLimit : Option Nat
deriving DecidableEq, Repr

/-- A bound of a zone as SET_ZONE carries it: lo and hi, or absent (R57). -/
abbrev WireBound := Option (Int × Int)

/-- The commands. A name is the list of its character codes; a mask, an enumeration and a boolean are the byte sent (R199).
The docstring of a constructor names the row's rule. -/
inductive Instr
  /-- R99: main power is applied; the reset finds `loop` at the STOP line. -/
  | powerOn (loop : LoopCurrent)
  /-- R3: the receiver completes a panel frame with these fields and check byte. -/
  | panelFrame (seq : Nat) (samples : List Int) (codes : List Nat) (check : Nat)
  /-- R1: more than 100 µs pass between two panel bytes. -/
  | panelGapTimeout
  /-- R7: the stale timer expires. -/
  | staleTimeout
  /-- R22: the Frame Timer expires; `order` is the order in which the four blocks take the publication, `players` how the
  demand requests of the frame fall. -/
  | outputFrame (order : List Sink) (players : PlayerTurns)
  /-- R36: the fade count of an axis has reached F. -/
  | fadeComplete (axis : Nat)
  /-- R181: the miss count of an axis has reached miss_limit. -/
  | driveSilent (axis : Nat)
  /-- R150: frames since start has reached 16,777,215. -/
  | recorderTimeLimit
  /-- R162: frames remaining has reached 0. -/
  | waitFramesExpired
  /-- R192: the divider count has reached N. -/
  | statusReportDue
  /-- R82: the access in progress completes; `check` is what the key's check finds if it is a read. -/
  | keyAccessComplete (check : KeyCheck)
  /-- R180: a reply arrives on the drive line. -/
  | driveReply (address sequence : Nat) (actual : Int) (status code check : Nat)
  /-- R68: the STOP line goes ASSERTED. -/
  | stopLineAssert
  /-- R68: the STOP line goes RELEASED. -/
  | stopLineRelease
  /-- R196: the framer completes a console frame with these fields and check. -/
  | requestFrame (kind tag : Nat) (payload : List Byte) (check : Nat)
  /-- R195: more than 200 µs pass between two console bytes. -/
  | consoleGapTimeout
  /-- R200: the frame being sent has been sent; `loop` and `check` serve the reset of a RESTART that this completes. -/
  | transmitDone (loop : LoopCurrent) (check : KeyCheck)
  /-- R201. -/
  | ident
  /-- R202. -/
  | restart
  /-- R8. -/
  | setPanel (timeout : Nat)
  /-- R9. -/
  | getPanel
  /-- R20. -/
  | setFrame (period : Nat)
  /-- R21. -/
  | getFrame
  /-- R37 to R41. -/
  | fade (mask target len : Nat)
  /-- R44. -/
  | takeOver
  /-- R42. -/
  | getBlend (axis : Nat)
  /-- R30. -/
  | setGeometry (rBase rRef rMin releaseFrames : Nat)
  /-- R30. -/
  | getGeometry
  /-- R57. -/
  | setZone (index : Nat) (swing lift reach track : WireBound)
  /-- R58. -/
  | clearZone (index : Nat)
  /-- R59. -/
  | zoneOn (index : Nat)
  /-- R60. -/
  | zoneOff (index : Nat)
  /-- R61. -/
  | getZone (index : Nat)
  /-- R69. -/
  | stopAll
  /-- R71. -/
  | resumeAll
  /-- R90. -/
  | openMove (id : Nat) (name : List Nat) (mask : Nat)
  /-- R91, R92. -/
  | putKeys (id : Nat) (keys : List WireKey)
  /-- R93. -/
  | closeMove (id : Nat)
  /-- R94. -/
  | readKeys (id first count : Nat)
  /-- R95. -/
  | deleteMove (id : Nat)
  /-- R96. -/
  | protectMove (id on : Nat)
  /-- R97. -/
  | getMove (id : Nat)
  /-- R97. -/
  | listMoves
  /-- R104. -/
  | load (channel id rate : Nat)
  /-- R110. -/
  | run (channel : Nat)
  /-- R111. -/
  | pause (channel : Nat)
  /-- R121, R124. -/
  | stop (channel : Nat)
  /-- R112. -/
  | setRate (channel rate : Nat) (binding : Option (Nat × Nat))
  /-- R127. -/
  | getPlayer (channel : Nat)
  /-- R130. -/
  | setMark (index : Nat) (name : List Nat) (mask : Nat) (positions : List Int)
  /-- R131. -/
  | storeMark (index : Nat) (name : List Nat) (mask : Nat)
  /-- R132. -/
  | clearMark (index : Nat)
  /-- R133. -/
  | getMark (index : Nat)
  /-- R135, R136. -/
  | goTo (channel mark frames : Nat)
  /-- R142. -/
  | recordStart (id : Nat) (name : List Nat) (mask decimation shape onTrigger : Nat)
  /-- R147. -/
  | recordStop
  /-- R152. -/
  | getRecorder
  /-- R156. -/
  | putCue (first : Nat) (steps : List WireStep)
  /-- R157. -/
  | readCue (first count : Nat)
  /-- R157. -/
  | getCue
  /-- R158. -/
  | cueStart (step : Nat)
  /-- R159. -/
  | cueStop
  /-- R168. -/
  | putTrigger (index code action : Nat)
  /-- R168. -/
  | getTriggers
  /-- R173. -/
  | setAxis (axis : Nat) (fields : WireAxis)
  /-- R174. -/
  | releaseAxis (axis : Nat)
  /-- R176, R177. -/
  | enableAxis (mask : Nat)
  /-- R178. -/
  | disableAxis (mask : Nat)
  /-- R184. -/
  | clearFault (axis : Nat)
  /-- R185. -/
  | getAxis (axis : Nat)
  /-- R189. -/
  | setNotices (enables multi : Nat)
  /-- R189. -/
  | getNotices
  /-- R191. -/
  | readLog
  /-- R191. -/
  | clearLog
  /-- R193. -/
  | setStatus (interval : Nat)
  /-- R193. -/
  | getStatus
  /-- R1: a byte arrives on the panel line, with or without a framing error. -/
  | panelByte (byte : Byte) (framingError : Bool)
  /-- R195: a byte arrives on the console link, with or without a framing error. -/
  | consoleByte (byte : Byte) (framingError : Bool)
  /-- R98. -/
  | mainPowerLoss
  /-- R99. -/
  | retentionSupplyLoss
deriving DecidableEq, Repr

end Sys2Proof
end

