-- ==== Sys2Proof/Machine/State.lean ====
section
/-! DEFINITION. The state of the ZK-880: every register, table, FIFO, flag and mode the manual names, as plain data, and
its value after a power-on that finds the retention supply lost. -/

namespace Sys2Proof.Machine

/-- No command of this part stops it with a fault: every event and request has an outcome in the manual (a request that
fails its checks is answered with a result code). The type has no constructor. -/
inductive Fault
deriving DecidableEq, Repr

/-- Why a command has no meaning. -/
inductive Refusal
  /-- Raised by `exec`'s arm of a command that has no meaning yet (none is left); safe. -/
  | notModelled (mnemonic : String)
deriving DecidableEq, Repr

/-- Result codes (Table 11-3), in the order of their codes. -/
inductive Result
  | ok | unknownKind | badLength | badValue | wrongState | busy | inUse | notFound | storeFull
  | badOrder | zoneConflict | outsideLimits | protectedMove | queueFull | axisNotInMove | damaged | locked
deriving DecidableEq, Repr

/-- An axis mask: bit `i` names axis `i` (R199). -/
abbrev Mask := BitVec 8

/-- The two players (R102). -/
inductive PlayerId
  | a | b
deriving DecidableEq, Repr

/-! ### Keys and moves -/

/-- Segment shapes (Table 4-1). -/
inductive Shape
  | linear | ease | step
deriving DecidableEq, Repr

/-- A key record (Table 4-1): one position per axis of the move's mask, in ascending axis index. -/
structure Key where
  time : Nat
  shape : Shape
  positions : List Int
deriving DecidableEq, Repr

/-- A key slot of the key store: the key and what its check has last found (R75). -/
structure Slot where
  key : Key
  health : KeyCheck
deriving DecidableEq, Repr

/-- What a slot that nothing has written reads as (R74: its contents have no meaning). -/
def Slot.blank : Slot := { key := { time := 0, shape := .linear, positions := [] }, health := .good }

/-- Classes of a block (Table 4-2). -/
inductive BlockClass
  | free | chained | bad
deriving DecidableEq, Repr

/-- A block map entry (Table 4-2). -/
structure BlockEntry where
  cls : BlockClass
  link : Option Nat
  suspect : Bool
deriving DecidableEq, Repr

/-- The entry of a FREE block (R76). -/
def BlockEntry.blank : BlockEntry := { cls := .free, link := none, suspect := false }

/-- Stages of a move's life (Table 4-3). -/
inductive EntryState
  | empty | writing | ready
deriving DecidableEq, Repr

/-- Who is writing a move (Table 4-3). -/
inductive Writer
  | console | recorder
deriving DecidableEq, Repr

/-- Flags of a directory entry, in the order of Table 4-3. -/
structure MoveFlags where
  isProtected : Bool
  damaged : Bool
  truncated : Bool
  gapped : Bool
  storeFull : Bool
deriving DecidableEq, Repr

/-- No flags. -/
def MoveFlags.none : MoveFlags :=
  { isProtected := false, damaged := false, truncated := false, gapped := false, storeFull := false }

/-- A directory entry (Table 4-3). -/
structure Entry where
  state : EntryState
  name : Option (List Nat)
  mask : Option Mask
  keys : Nat
  endTime : Option Nat
  first : Option Nat
  last : Option Nat
  writer : Option Writer
  flags : MoveFlags
  users : Nat
deriving DecidableEq, Repr

/-- An EMPTY entry (R79). -/
def Entry.blank : Entry :=
  { state := .empty, name := none, mask := none, keys := 0, endTime := none, first := none, last := none, writer := none,
    flags := MoveFlags.none, users := 0 }

/-- The index of a directory entry: move id minus 1. -/
abbrev MoveIx := Fin 32

/-- The Move Library's retained tables (R98). `keyStore` and `blockMap` list, in strictly rising order, the slots and
blocks that differ from `Slot.blank` and `BlockEntry.blank`; slot `n` of block `b` has address `16 b + n`. -/
structure Library where
  dir : Vector Entry 32
  blockMap : List (Nat × BlockEntry)
  freeList : List Nat
  badSet : List Nat
  keyStore : List (Nat × Slot)
deriving DecidableEq, Repr

/-- The library after the initialisation of a lost store (R99). -/
def Library.initial : Library :=
  { dir := Vector.replicate 32 Entry.blank, blockMap := [], freeList := List.range 2048, badSet := [], keyStore := [] }

/-- An access of one key at the key store port (Table 4-5). -/
inductive Access
  | fetch (player : PlayerId) (move : MoveIx) (index block slot : Nat)
  | recorderWrite (move : MoveIx) (key : Key)
  | consoleWrite (move : MoveIx) (key : Key)
  | consoleRead (move : MoveIx) (index block slot : Nat)
deriving DecidableEq, Repr

/-- The access being served. `wanted` clears when its player has become IDLE meanwhile (R84, R109); `released` sets when
the entry it reads has become EMPTY meanwhile (R84). -/
structure Serving where
  access : Access
  wanted : Bool
  released : Bool
deriving DecidableEq, Repr

/-- The key store port (R82): FREE when nothing is served; one waiting request per requester. -/
structure KeyPort where
  serving : Option Serving
  waitA : Option Access
  waitB : Option Access
  waitRecorder : Option Access
  waitConsole : Option Access
deriving DecidableEq, Repr

/-- The port after a reset (Table 4-8). -/
def KeyPort.idle : KeyPort :=
  { serving := none, waitA := none, waitB := none, waitRecorder := none, waitConsole := none }

/-- Where the reply of a request goes: to the queue place that holds the request, or, for a request command given with no
frame in the queue, straight to the transmitter's readiness order under tag 0. -/
inductive Via
  | place (slot : Nat)
  | direct (kind : Nat)
deriving DecidableEq, Repr

/-- The work left of a console transaction (R92, R94). -/
inductive TxnWork
  | put (left : List Key) (stored : Nat)
  | read (index left : Nat) (got : List Key)
deriving DecidableEq, Repr

/-- A console transaction (R89). -/
structure Txn where
  via : Via
  move : MoveIx
  work : TxnWork
deriving DecidableEq, Repr

/-! ### Stick Port -/

/-- Port states (Table 1-2). -/
inductive PortState
  | stale | live
deriving DecidableEq, Repr

/-- Interlock states of a channel (section 1.4). -/
inductive ChannelState
  | centredWait | live
deriving DecidableEq, Repr

/-- The Stick Port (Table 1-4). `receiver` is the frame under assembly, none while HUNTING; `elapsed` is the stale timer in
milliseconds. -/
structure StickPort where
  receiver : Option (List Byte)
  port : PortState
  elapsed : Nat
  timeout : Nat
  seq : Option Nat
  held : Vector Int 8
  channels : Vector ChannelState 8
deriving DecidableEq, Repr

/-- The Stick Port after a reset (Table 1-4). -/
def StickPort.reset : StickPort :=
  { receiver := none, port := .stale, elapsed := 0, timeout := 50, seq := none, held := Vector.replicate 8 0,
    channels := Vector.replicate 8 .centredWait }

/-! ### Axes -/

/-- Axis states (Table 9-2). -/
inductive AxisState
  | unconfigured | disabled | active | stopping | held | fault
deriving DecidableEq, Repr

/-- Curves (Table 9-1). -/
inductive Curve
  | linear | square | mixed
deriving DecidableEq, Repr

/-- Stick modes (Table 9-1). -/
inductive StickMode
  | liveOnly | trim
deriving DecidableEq, Repr

/-- Sources of an axis position (Table 2-2). -/
inductive Source
  | live | playA | playB
deriving DecidableEq, Repr

/-- Causes of an axis fault (R183). -/
inductive FaultCause
  | driveSilent | driveReported | following
deriving DecidableEq, Repr

/-- A drive's own condition, with its code when it is FAULT (Table 9-4). -/
inductive DriveStatus
  | ok | warn | fault (code : Nat)
deriving DecidableEq, Repr

/-- The axis configuration record (Table 9-1). -/
structure AxisConfig where
  softMin : Int
  softMax : Int
  band : Nat
  vmax : Nat
  amax : Nat
  vstick : Nat
  channel : Option (Fin 8)
  invert : Bool
  deadband : Nat
  curve : Curve
  mode : StickMode
  trimMax : Nat
  feLimit : Nat
  tipScaled : Bool
  missLimit : Nat
deriving DecidableEq, Repr

/-- Clamp flags, in the order of Table 3-1. -/
structure ClampFlags where
  accel : Bool
  velocity : Bool
  band : Bool
  soft : Bool
  zone : Bool
  stop : Bool
  trimSat : Bool
  tipClamp : Bool
deriving DecidableEq, Repr

/-- No clamp flags. -/
def ClampFlags.none : ClampFlags :=
  { accel := false, velocity := false, band := false, soft := false, zone := false, stop := false, trimSat := false,
    tipClamp := false }

/-- A blend record (Table 2-2): `len` is F, `live` is L, `trim` is T. -/
structure Blend where
  fromSrc : Source
  toSrc : Source
  k : Nat
  len : Option Nat
  live : Int
  trim : Int
  mode : StickMode
deriving DecidableEq, Repr

/-- A blend record after a reset (Table 2-9). -/
def Blend.reset : Blend :=
  { fromSrc := .live, toSrc := .live, k := 0, len := none, live := 0, trim := 0, mode := .liveOnly }

/-- The open reply window of a drive (R179): the exchange it belongs to, and whether a valid reply was taken in it. -/
structure Window where
  seq : Nat
  setpoint : Int
  enable : Bool
  answered : Bool
deriving DecidableEq, Repr

/-- The exchange before the one of the open window (R179). -/
structure PrevExchange where
  setpoint : Int
  enable : Bool
deriving DecidableEq, Repr

/-- One axis: what Axis Control (Table 9-5), the Limit Stage (Table 3-1) and the Blend Engine (Table 2-2) hold of it. -/
structure Axis where
  state : AxisState
  cfg : Option AxisConfig
  cause : Option FaultCause
  miss : Nat
  actual : Option Int
  drive : Option DriveStatus
  nextSeq : Nat
  window : Option Window
  prev : Option PrevExchange
  out : Int
  vPrev : Int
  flags : ClampFlags
  blend : Blend
deriving DecidableEq, Repr

/-- An axis after a reset (Tables 2-9, 3-5, 9-5). -/
def Axis.reset : Axis :=
  { state := .unconfigured, cfg := none, cause := none, miss := 0, actual := none, drive := none, nextSeq := 0,
    window := none, prev := none, out := 0, vPrev := 0, flags := ClampFlags.none, blend := Blend.reset }

/-- An exchange as sent on the drive line (Table 9-4). -/
structure Exchange where
  address : Fin 8
  seq : Nat
  enable : Bool
  setpoint : Int
  feedForward : Int
deriving DecidableEq, Repr

/-- The state of the STOP line, as Axis Control holds it (R68). -/
inductive StopLine
  | asserted | released
deriving DecidableEq, Repr

/-! ### Frame Timer, geometry and zones -/

/-- The Frame Timer (R18 to R20): the period as last set, the length of the interval in progress and the milliseconds of it
that have passed, and the frame number. -/
structure FrameTimer where
  period : Nat
  interval : Nat
  elapsed : Nat
  number : Nat
deriving DecidableEq, Repr

/-- The Frame Timer after a reset (Table 2-9). -/
def FrameTimer.reset : FrameTimer := { period := 2, interval := 2, elapsed := 0, number := 0 }

/-- The crane geometry record (R30). -/
structure Geometry where
  rBase : Nat
  rRef : Nat
  rMin : Nat
  releaseFrames : Nat
deriving DecidableEq, Repr

/-- The geometry record after a reset (R30). -/
def Geometry.reset : Geometry := { rBase := 100000, rRef := 100000, rMin := 10000, releaseFrames := 50 }

/-- A zone entry (Table 3-3). -/
structure Zone where
  swing : WireBound
  lift : WireBound
  reach : WireBound
  track : WireBound
  enabled : Bool
  holding : Bool
deriving DecidableEq, Repr

/-- An undefined, disabled zone (R99). -/
def Zone.blank : Zone := { swing := none, lift := none, reach := none, track := none, enabled := false, holding := false }

/-! ### Players -/

/-- Player states (Table 5-2). -/
inductive PlayerState
  | idle | loaded | running | paused | starved | ended | releasing | faulted
deriving DecidableEq, Repr

/-- A key with its index in the move. -/
structure PlayerKey where
  index : Nat
  key : Key
deriving DecidableEq, Repr

/-- A rate binding (R112). -/
structure Binding where
  channel : Fin 8
  span : Nat
deriving DecidableEq, Repr

/-- The fetch cursor (Table 5-1): `index` is the next index. -/
structure Cursor where
  block : Nat
  slot : Nat
  index : Nat
deriving DecidableEq, Repr

/-- A player record (Table 5-1). `arrived` is the key index of a DAMAGED outcome delivered while an output frame is in progress,
which the player takes after its publication (R123). -/
structure Player where
  state : PlayerState
  move : Option MoveIx
  mark : Option (Fin 64)
  mask : Option Mask
  keyCount : Option Nat
  rate : Nat
  binding : Option Binding
  time : Nat
  startKey : Option PlayerKey
  endKey : Option PlayerKey
  filled : Bool
  fifo : List PlayerKey
  cursor : Option Cursor
  outstanding : Bool
  published : Option (List Int)
  faultKey : Option Nat
  arrived : Option Nat
deriving DecidableEq, Repr

/-- A player after a reset (Table 5-6). -/
def Player.reset : Player :=
  { state := .idle, move := none, mark := none, mask := none, keyCount := none, rate := 256, binding := none, time := 0,
    startKey := none, endKey := none, filled := false, fifo := [], cursor := none, outstanding := false, published := none,
    faultKey := none, arrived := none }

/-! ### Marks -/

/-- A SET mark (Table 6-1). -/
structure MarkData where
  name : List Nat
  mask : Mask
  positions : List Int
deriving DecidableEq, Repr

/-- A mark entry: EMPTY when absent (R129). -/
abbrev Mark := Option MarkData

/-! ### Recorder -/

/-- Recorder states (Table 7-2). -/
inductive RecState
  | idle | armed | recording | closing
deriving DecidableEq, Repr

/-- Causes of the close of a take (R152). -/
inductive CloseCause
  | stopped | storeFull | timeLimit
deriving DecidableEq, Repr

/-- The recorder record (Table 7-1). `cause` is the cause a CLOSING take will report (R148); `outs` the outs of the last
publication the Recorder has taken, which it keeps for a final key (R147); `awaiting` is set from a publication until the
Recorder has taken it (R166). -/
structure Recorder where
  state : RecState
  move : Option MoveIx
  mask : Option Mask
  decimation : Nat
  shape : Shape
  frames : Option Nat
  lastQueued : Option Nat
  fifo : List Key
  outstanding : Bool
  skipped : Nat
  cause : CloseCause
  outs : Vector (Option Int) 8
  awaiting : Bool
deriving DecidableEq, Repr

/-- The Recorder after a reset (Table 7-4). -/
def Recorder.reset : Recorder :=
  { state := .idle, move := none, mask := none, decimation := 1, shape := .linear, frames := none, lastQueued := none,
    fifo := [], outstanding := false, skipped := 0, cause := .stopped, outs := Vector.replicate 8 none, awaiting := false }

/-! ### Cue list, cue record and triggers -/

/-- Cue steps (Table 8-1), in the table's order. -/
inductive CueStep
  | load (player : PlayerId) (move : MoveIx) (rate : Nat)
  | goTo (player : PlayerId) (mark : Fin 64) (frames : Nat)
  | run (player : PlayerId)
  | fade (mask : Mask) (target : Source) (len : Nat)
  | stopPlay (player : PlayerId)
  | record (move : MoveIx) (mask : Mask) (decimation : Nat)
  | endRec
  | waitTrigger (code : Nat)
  | waitFrames (n : Nat)
  | waitEnd (player : PlayerId)
  | waitAt (mark : Fin 64) (window : Nat)
  | loop (target : Fin 48) (count : Nat)
  | note (value : Nat)
  | finish
deriving DecidableEq, Repr

/-- Cue states (Table 8-2). -/
inductive CueState
  | idle | running | waiting | halted | done
deriving DecidableEq, Repr

/-- Causes of a halt (Table 8-2). -/
inductive HaltCause
  | stopped | refused
deriving DecidableEq, Repr

/-- The cue record (Table 8-2). `triggerMet` is set between the CUE_GO that meets a WAIT_TRIGGER and the publication that
counts that step among its 16, and `pastEnd` too when that step is step 47, so that no step is left to execute (R163). -/
structure Cue where
  state : CueState
  current : Fin 48
  counters : Vector (Option Nat) 48
  remaining : Option Nat
  haltCause : Option HaltCause
  haltCode : Option Result
  haltAxis : Option (Fin 8)
  triggerMet : Bool
  pastEnd : Bool
deriving DecidableEq, Repr

/-- The cue record after a reset (Table 8-6). -/
def Cue.reset : Cue :=
  { state := .idle, current := 0, counters := Vector.replicate 48 none, remaining := none, haltCause := none,
    haltCode := none, haltAxis := none, triggerMet := false, pastEnd := false }

/-- Trigger actions (Table 8-4). -/
inductive TriggerAction
  | none | cueGo | pauseAll | resumePlay | takeOver | report
deriving DecidableEq, Repr

/-- A trigger entry (Table 8-4). -/
structure Trigger where
  code : Nat
  action : TriggerAction
deriving DecidableEq, Repr

/-- A trigger entry of a lost store (R168). -/
def Trigger.blank : Trigger := { code := 0, action := .none }

/-! ### Notices, fault log and status reports -/

/-- Kinds of a fault report (Table 10-2). -/
inductive FaultKind
  | driveSilent | driveReported | following | keyDamaged | keyCorrected
deriving DecidableEq, Repr

/-- Causes of an AXIS notice (Table 10-1). -/
inductive AxisCause
  | driveSilent | driveReported | following | stopLineAsserted | stopLineReleased | stopAll | allHeld
deriving DecidableEq, Repr

/-- Discard causes of a LINK notice (Note 3 to Table 10-1). -/
inductive LinkCause
  | framing | gap | length | check | kind | overrun
deriving DecidableEq, Repr

/-- What a player holds: a library move or the mark of a go-to move. -/
inductive MoveSource
  | move (id : MoveIx)
  | mark (index : Fin 64)
deriving DecidableEq, Repr

/-- Notice classes, in the priority order of Table 10-1. -/
inductive NoticeClass
  | fault | axis | zone | player | record | cue | stick | store | button | link
deriving DecidableEq, Repr

/-- The detail of a notice (Table 10-1), besides the frame number. -/
inductive Detail
  | fault (kind : FaultKind) (axis : Option (Fin 8)) (player : Option PlayerId) (captured multiple : Bool)
  | axis (cause : AxisCause) (axis : Option (Fin 8)) (code : Option Nat)
  | zone (index : Fin 8) (swing lift reach track : Int)
  | player (channel : PlayerId) (entered : PlayerState) (source : Option MoveSource) (time : Nat) (faultKey : Option Nat)
  | recordStarted (move : MoveIx)
  | recordClosed (move : MoveIx) (cause : CloseCause) (state : EntryState) (stored : Nat) (endTime : Option Nat) (skipped : Nat)
  | cueNote (step : Fin 48) (value : Nat)
  | cueDone (step : Fin 48)
  | cueHalted (step : Fin 48) (code : Result) (axis : Option (Fin 8))
  | stick (port : PortState) (seq : Option Nat)
  | storeRead (outcome : KeyCheck) (move : MoveIx) (index block : Nat)
  | storeRetired (move : MoveIx) (retired : Nat)
  | button (code : Nat) (entry : Fin 8)
  | link (cause : LinkCause)
deriving DecidableEq, Repr

/-- A detail record: the detail and the frame number it was stamped with (R19). -/
structure Stamped where
  frame : Nat
  detail : Detail
deriving DecidableEq, Repr

/-- The state of a notice class (R187). -/
structure NoticeSlot where
  enabled : Bool
  pending : Bool
  coalesced : Bool
  detail : Option Stamped
deriving DecidableEq, Repr

/-- The ten classes, in priority order, and the multi_notice flag (R187, R190). -/
structure NoticeUnit where
  slots : Vector NoticeSlot 10
  multi : Bool
deriving DecidableEq, Repr

/-- The notice classes after a reset (Table 10-4): all enabled but BUTTON, the ninth. -/
def NoticeUnit.reset : NoticeUnit :=
  { slots := (Vector.replicate 10 { enabled := true, pending := false, coalesced := false, detail := none }).set 8
      { enabled := false, pending := false, coalesced := false, detail := none },
    multi := false }

/-- A fault log record (Table 10-2). -/
structure FaultRecord where
  kind : FaultKind
  axis : Option (Fin 8)
  player : Option PlayerId
  frame : Nat
  setpoint : Option Int
  actual : Option Int
  code : Option Nat
  move : Option MoveIx
  index : Option Nat
deriving DecidableEq, Repr

/-- The fault log (R190): LOCKED exactly when `locked`. `later` lists the later kinds in the order of Table 10-2. -/
structure FaultLog where
  locked : Bool
  record : Option FaultRecord
  multiple : Bool
  later : List FaultKind
deriving DecidableEq, Repr

/-- The fault log after a reset (Table 10-4). -/
def FaultLog.reset : FaultLog := { locked := false, record := none, multiple := false, later := [] }

/-- The part of a status report about one configured axis (Table 10-3). -/
structure AxisReport where
  index : Fin 8
  state : AxisState
  out : Int
  actual : Option Int
  fromSrc : Source
  toSrc : Source
  weight : Nat
  trim : Int
  flags : ClampFlags
deriving DecidableEq, Repr

/-- The part of a status report about one player (Table 10-3). -/
structure PlayerReport where
  state : PlayerState
  source : Option MoveSource
  time : Nat
  rate : Nat
deriving DecidableEq, Repr

/-- A status report (Table 10-3). -/
structure StatusReport where
  frame : Nat
  replaced : Nat
  axes : List AxisReport
  playerA : PlayerReport
  playerB : PlayerReport
  recorder : RecState
  cue : CueState
  step : Fin 48
deriving DecidableEq, Repr

/-- The status report divider and the report holder (R192). -/
structure StatusUnit where
  interval : Nat
  count : Nat
  held : Option StatusReport
  replaced : Nat
deriving DecidableEq, Repr

/-- The divider and holder after a reset (Table 10-4). -/
def StatusUnit.reset : StatusUnit := { interval := 0, count := 0, held := none, replaced := 0 }

/-! ### Console Link -/

/-- The state of a request in its queue place (section 11.2). -/
inductive PlaceState
  | waiting
  | held
  | answered (reply : List Byte)
deriving DecidableEq, Repr

/-- An occupied place of the request queue (R196); `slot` tells the four places apart. -/
structure Place where
  slot : Nat
  kind : Nat
  tag : Nat
  payload : List Byte
  state : PlaceState
deriving DecidableEq, Repr

/-- A ready reply (R197): of a queue place, of an entry of the refusal list (R198), or of a request command given with no
frame in the queue. -/
inductive Ready
  | place (slot : Nat)
  | refusal (kind tag : Nat)
  | direct (kind : Nat) (reply : List Byte)
deriving DecidableEq, Repr

/-- A frame being sent (Table 11-1): its kind, tag and payload. -/
structure TxFrame where
  kind : Nat
  tag : Nat
  payload : List Byte
deriving DecidableEq, Repr

/-- The Console Link (Table 11-5a). `framer` is the frame under assembly, none while HUNTING; `places` lists the occupied
places in arrival order; `ready` is the readiness order; `delivering` clears when a RESTART has been delivered; `sending`
is the frame the transmitter sends, none while IDLE. -/
structure Link where
  framer : Option (List Byte)
  places : List Place
  ready : List Ready
  delivering : Bool
  sending : Option TxFrame
deriving DecidableEq, Repr

/-- The Console Link after a reset (Table 11-5a). -/
def Link.reset : Link := { framer := none, places := [], ready := [], delivering := true, sending := none }

/-- Main power, the latch of the retention supply monitor, and the RETENTION_LOST flag (R99). -/
structure Power where
  on : Bool
  monitorLoss : Bool
  retentionLost : Bool
deriving DecidableEq, Repr

/-- The state of the ZK-880, and the queue of commands that wait for it (`pending`, the model's own). -/
structure State where
  power : Power
  stick : StickPort
  timer : FrameTimer
  geometry : Geometry
  axes : Vector Axis 8
  zones : Vector Zone 8
  stopLine : StopLine
  lib : Library
  port : KeyPort
  txn : Option Txn
  playerA : Player
  playerB : Player
  marks : Vector Mark 64
  recorder : Recorder
  cue : Cue
  cueList : Vector CueStep 48
  triggers : Vector Trigger 8
  notices : NoticeUnit
  log : FaultLog
  status : StatusUnit
  link : Link
  outputSet : Vector (Option Int) 8
  exchanges : List Exchange
  pending : List Instr
deriving DecidableEq, Repr

/-- The machine right after the power-on that finds the retention supply lost, with the STOP line read RELEASED: every block
at its table of values after reset, the retained tables initialised (R99). -/
def State.reset : State :=
  { power := { on := true, monitorLoss := false, retentionLost := true },
    stick := StickPort.reset, timer := FrameTimer.reset, geometry := Geometry.reset,
    axes := Vector.replicate 8 Axis.reset, zones := Vector.replicate 8 Zone.blank, stopLine := .released,
    lib := Library.initial, port := KeyPort.idle, txn := none, playerA := Player.reset, playerB := Player.reset,
    marks := Vector.replicate 64 none, recorder := Recorder.reset, cue := Cue.reset,
    cueList := Vector.replicate 48 .finish, triggers := Vector.replicate 8 Trigger.blank,
    notices := NoticeUnit.reset, log := FaultLog.reset, status := StatusUnit.reset, link := Link.reset,
    outputSet := Vector.replicate 8 none, exchanges := [], pending := [] }

end Sys2Proof.Machine
end

