-- ==== Sys2Proof/Machine/Ops.lean ====
section
/-! DEFINITION. Named operations over the state: the axes, the players, the directory, the block map, the key store, masks,
the notice classes and the fault log. -/

namespace Sys2Proof.Machine

/-! ### Sparse tables: lists of (address, value) in strictly rising order, no value equal to the default -/

/-- The value at address `i`; `d` where nothing is listed. -/
def sparseGet {β : Type} (d : β) : List (Nat × β) → Nat → β
  | [], _ => d
  | (k, v) :: t, i => if i = k then v else sparseGet d t i

/-- Lists `v` at address `i`. -/
def sparseInsert {β : Type} (i : Nat) (v : β) : List (Nat × β) → List (Nat × β)
  | [] => [(i, v)]
  | (k, w) :: t =>
    if i < k then (i, v) :: (k, w) :: t
    else if i = k then (i, v) :: t
    else (k, w) :: sparseInsert i v t

/-- Removes the entry at address `i`, if there is one. -/
def sparseRemove {β : Type} (i : Nat) : List (Nat × β) → List (Nat × β)
  | [] => []
  | (k, w) :: t => if i = k then t else (k, w) :: sparseRemove i t

/-- Writes `v` at address `i`, keeping the canonical form. -/
def sparseSet {β : Type} [DecidableEq β] (d : β) (i : Nat) (v : β) (m : List (Nat × β)) : List (Nat × β) :=
  if v = d then sparseRemove i m else sparseInsert i v m

/-- Every address listed lies above `low`. -/
def sparseAbove {β : Type} (low : Nat) : List (Nat × β) → Bool
  | [] => true
  | (k, _) :: t => decide (low < k) && sparseAbove low t

/-- Addresses strictly rise. -/
def sparseRising {β : Type} : List (Nat × β) → Bool
  | [] => true
  | (k, _) :: t => sparseAbove k t && sparseRising t

/-- No value listed equals the default. -/
def sparseNoDefault {β : Type} [DecidableEq β] (d : β) : List (Nat × β) → Bool
  | [] => true
  | (_, v) :: t => decide (v ≠ d) && sparseNoDefault d t

/-- The canonical form of a sparse table. -/
def sparseWf {β : Type} [DecidableEq β] (d : β) (m : List (Nat × β)) : Bool := sparseRising m && sparseNoDefault d m

/-- The canonical form of the key store and of the block map. -/
def Library.wf (l : Library) : Bool := sparseWf Slot.blank l.keyStore && sparseWf BlockEntry.blank l.blockMap

/-! ### Axes and masks -/

/-- The axis indices in ascending order. -/
def allAxes : List (Fin 8) := [0, 1, 2, 3, 4, 5, 6, 7]

/-- The index of SWING (Table 0-1). -/
def swing : Fin 8 := 0
/-- The index of LIFT (Table 0-1). -/
def lift : Fin 8 := 1
/-- The index of REACH (Table 0-1). -/
def reach : Fin 8 := 2
/-- The index of TRACK (Table 0-1). -/
def track : Fin 8 := 3

/-- SWING, LIFT, REACH and TRACK are geometric (Table 0-1). -/
def geometric (i : Fin 8) : Bool := decide (i.val < 4)

/-- Axis `i` of the state. -/
def State.axis (s : State) (i : Fin 8) : Axis := s.axes[i]

/-- Replaces axis `i`. -/
def State.setAxis (s : State) (i : Fin 8) (a : Axis) : State := { s with axes := s.axes.set i a }

/-- Changes axis `i` by `f`. -/
def State.modAxis (s : State) (i : Fin 8) (f : Axis → Axis) : State := s.setAxis i (f (s.axis i))

/-- Changes every axis by `f`. -/
def State.mapAxes (s : State) (f : Fin 8 → Axis → Axis) : State :=
  { s with axes := Vector.ofFn fun i => f i (s.axis i) }

/-- An axis with a configuration record (Table 0-4). -/
def Axis.configured (a : Axis) : Bool := decide (a.state ≠ .unconfigured)

/-- ACTIVE, STOPPING or HELD: the states whose exchanges carry the enable flag (Table 9-2). -/
def Axis.enabled (a : Axis) : Bool := decide (a.state = .active ∨ a.state = .stopping ∨ a.state = .held)

/-- ACTIVE or STOPPING. -/
def Axis.moving (a : Axis) : Bool := decide (a.state = .active ∨ a.state = .stopping)

/-- Some axis satisfies `p`. -/
def State.anyAxis (s : State) (p : Axis → Bool) : Bool := allAxes.any fun i => p (s.axis i)

/-- Axis `i` is in the mask. -/
def Mask.has (m : Mask) (i : Fin 8) : Bool := BitVec.getLsbD m i.val

/-- The axes of the mask in ascending index. -/
def Mask.axes (m : Mask) : List (Fin 8) := allAxes.filter fun i => Mask.has m i

/-- The number of axes in the mask. -/
def Mask.count (m : Mask) : Nat := (Mask.axes m).length

/-- How many axes of the mask lie below `i`: the place of axis `i` among the positions of a key. -/
def Mask.rank (m : Mask) (i : Fin 8) : Nat := ((Mask.axes m).filter fun j => decide (j < i)).length

/-- The position for axis `i` among positions listed by a mask. -/
def positionFor (m : Mask) (ps : List Int) (i : Fin 8) : Int := ps.getD (Mask.rank m i) 0

/-! ### Geometry of zones -/

/-- A point of the geometric axes. -/
structure Point where
  swing : Int
  lift : Int
  reach : Int
  track : Int
deriving DecidableEq, Repr

/-- What axis `i` contributes to a point where no rule says otherwise: its out, 0 while unconfigured (R49, R59). -/
def State.geoOut (s : State) (i : Fin 8) : Int := if (s.axis i).configured then (s.axis i).out else 0

/-- The point whose coordinate on each geometric axis `f` gives. -/
def pointOf (f : Fin 8 → Int) : Point := { swing := f swing, lift := f lift, reach := f reach, track := f track }

/-- The present out point (R59). -/
def State.outPoint (s : State) : Point := pointOf s.geoOut

/-- The coordinate lies within the bound, both ends included; an absent bound is not tested (R56). -/
def boundHolds : WireBound → Int → Bool
  | none, _ => true
  | some (lo, hi), x => decide (lo ≤ x) && decide (x ≤ hi)

/-- The point lies inside the zone's box (R56). -/
def Zone.contains (z : Zone) (q : Point) : Bool :=
  boundHolds z.swing q.swing && boundHolds z.lift q.lift && boundHolds z.reach q.reach && boundHolds z.track q.track

/-- A zone with at least one bound present (Note 1 to Table 3-3). -/
def Zone.isDefined (z : Zone) : Bool := z.swing.isSome || z.lift.isSome || z.reach.isSome || z.track.isSome

/-- The point lies inside an enabled zone. -/
def State.inEnabledZone (s : State) (q : Point) : Bool := s.zones.toList.any fun z => z.enabled && z.contains q

/-! ### Players, directory, block map and key store -/

/-- The record of a player. -/
def State.player (s : State) : PlayerId → Player
  | .a => s.playerA
  | .b => s.playerB

/-- Replaces the record of a player. -/
def State.setPlayer (s : State) (p : PlayerId) (r : Player) : State :=
  match p with
  | .a => { s with playerA := r }
  | .b => { s with playerB := r }

/-- The source a player gives (Table 2-2). -/
def PlayerId.source : PlayerId → Source
  | .a => .playA
  | .b => .playB

/-- The player a source names. -/
def Source.player? : Source → Option PlayerId
  | .live => none
  | .playA => some .a
  | .playB => some .b

/-- A directory entry. -/
def State.entry (s : State) (m : MoveIx) : Entry := s.lib.dir[m]

/-- Replaces a directory entry. -/
def State.setEntry (s : State) (m : MoveIx) (e : Entry) : State :=
  { s with lib := { s.lib with dir := s.lib.dir.set m e } }

/-- A block map entry (R76). -/
def State.block (s : State) (b : Nat) : BlockEntry := sparseGet BlockEntry.blank s.lib.blockMap b

/-- Replaces a block map entry. -/
def State.setBlock (s : State) (b : Nat) (e : BlockEntry) : State :=
  { s with lib := { s.lib with blockMap := sparseSet BlockEntry.blank b e s.lib.blockMap } }

/-- The address of a key slot in the key store. -/
def slotAddr (block slot : Nat) : Nat := Config.slots * block + slot

/-- The contents of a key slot. -/
def State.slot (s : State) (block slot : Nat) : Slot := sparseGet Slot.blank s.lib.keyStore (slotAddr block slot)

/-- Replaces the contents of a key slot. -/
def State.setSlot (s : State) (block slot : Nat) (x : Slot) : State :=
  { s with lib := { s.lib with keyStore := sparseSet Slot.blank (slotAddr block slot) x s.lib.keyStore } }

/-! ### Notices and the fault log -/

/-- The place of a class in the priority order of Table 10-1. -/
def NoticeClass.index : NoticeClass → Fin 10
  | .fault => 0
  | .axis => 1
  | .zone => 2
  | .player => 3
  | .record => 4
  | .cue => 5
  | .stick => 6
  | .store => 7
  | .button => 8
  | .link => 9

/-- The class a detail belongs to. -/
def Detail.cls : Detail → NoticeClass
  | .fault .. => .fault
  | .axis .. => .axis
  | .zone .. => .zone
  | .player .. => .player
  | .recordStarted .. => .record
  | .recordClosed .. => .record
  | .cueNote .. => .cue
  | .cueDone .. => .cue
  | .cueHalted .. => .cue
  | .stick .. => .stick
  | .storeRead .. => .store
  | .storeRetired .. => .store
  | .button .. => .button
  | .link .. => .link

/-- The state of a notice class. -/
def State.noticeSlot (s : State) (c : NoticeClass) : NoticeSlot := s.notices.slots[c.index]

/-- Replaces the state of a notice class. -/
def State.setNoticeSlot (s : State) (c : NoticeClass) (x : NoticeSlot) : State :=
  { s with notices := { s.notices with slots := s.notices.slots.set c.index x } }

/-- What a raise makes of its class (R187). -/
def NoticeSlot.raised (x : NoticeSlot) (d : Stamped) : NoticeSlot :=
  { x with pending := true, coalesced := x.coalesced || x.pending, detail := some d }

/-- A raise (R187), stamped with the number of the most recent output frame (R19). -/
def raise (d : Detail) (s : State) : State :=
  s.setNoticeSlot d.cls ((s.noticeSlot d.cls).raised { frame := s.timer.number, detail := d })

/-- The kinds of a fault report in the order of Table 10-2. -/
def allFaultKinds : List FaultKind := [.driveSilent, .driveReported, .following, .keyDamaged, .keyCorrected]

/-- Adds a kind to a later-kinds set (R190). -/
def addLater (k : FaultKind) (l : List FaultKind) : List FaultKind :=
  allFaultKinds.filter fun x => decide (x = k) || decide (x ∈ l)

/-- What a fault report makes of the log (R190). -/
def FaultLog.report (l : FaultLog) (r : FaultRecord) : FaultLog :=
  if l.locked then { l with multiple := true, later := addLater r.kind l.later }
  else { l with locked := true, record := some r }

/-- A fault report arriving at the log (R190). -/
def faultReport (r : FaultRecord) (s : State) : State :=
  let s' := { s with log := s.log.report r }
  if s.log.locked then
    if s.notices.multi then raise (.fault r.kind r.axis r.player false true) s' else s'
  else raise (.fault r.kind r.axis r.player true false) s'

end Sys2Proof.Machine
end

