-- ==== Sys2Proof/Machine/Flags.lean ====
section
/-! DEFINITION. The flag sets of the manual as the bits of a byte (R199: in the order of their list, from bit 0). -/

namespace Sys2Proof.Machine

/-- The number whose bits, from bit 0, are the flags. -/
def flagBits : List Bool → Nat
  | [] => 0
  | b :: t => (if b then 1 else 0) + 2 * flagBits t

/-- Clamp flags in the order of Table 3-1. -/
def ClampFlags.bits (f : ClampFlags) : Nat :=
  flagBits [f.accel, f.velocity, f.band, f.soft, f.zone, f.stop, f.trimSat, f.tipClamp]

/-- Move flags in the order of Table 4-3. -/
def MoveFlags.bits (f : MoveFlags) : Nat := flagBits [f.isProtected, f.damaged, f.truncated, f.gapped, f.storeFull]

/-- A later-kinds set (R191). DESIGN CHOICE (log 44): the set is sent as one byte of bits, bit 0 the first kind in the order of
Table 10-2. -/
def laterBits (l : List FaultKind) : Nat := flagBits (allFaultKinds.map fun k => decide (k ∈ l))

end Sys2Proof.Machine
end

