-- ==== Sys2Proof/Machine/Wire.lean ====
section
/-! DEFINITION. How fields are laid out on the lines: the encodings of R199, the codes of the named lists, the checks of the
three lines and the frames the ZK-880 sends. -/

namespace Sys2Proof.Machine

/-! ### Numbers -/

/-- A number in `n` bytes, little-endian (R199). -/
def leBytes : Nat → Nat → List Byte
  | 0, _ => []
  | n + 1, x => BitVec.ofNat 8 x :: leBytes n (x / 256)

/-- One byte. -/
def u8 (x : Nat) : List Byte := leBytes 1 x
/-- Two bytes. -/
def u16 (x : Nat) : List Byte := leBytes 2 x
/-- Three bytes. -/
def u24 (x : Nat) : List Byte := leBytes 3 x
/-- Four bytes. -/
def u32 (x : Nat) : List Byte := leBytes 4 x
/-- A signed number in three bytes, two's complement: a position. -/
def s24 (x : Int) : List Byte := leBytes 3 (BitVec.ofInt 24 x).toNat
/-- A signed number in two bytes, two's complement. -/
def s16 (x : Int) : List Byte := leBytes 2 (BitVec.ofInt 16 x).toNat
/-- A boolean (R199). -/
def encBool (b : Bool) : List Byte := u8 (if b then 1 else 0)

/-- An optional field of `width` bytes: a presence byte and the field, sent as 0 when absent (R199). -/
def encOpt {α : Type} (width : Nat) (f : α → List Byte) : Option α → List Byte
  | none => u8 0 ++ leBytes width 0
  | some x => u8 1 ++ f x

/-- A list of varying length: a count byte and the items (R199). -/
def encList {α : Type} (f : α → List Byte) (l : List α) : List Byte := u8 l.length ++ l.flatMap f

/-- A name: a length byte and 12 characters, 0 beyond the length (R199). -/
def encName (n : List Nat) : List Byte :=
  u8 n.length ++ ((n.map fun c => BitVec.ofNat 8 c) ++ leBytes 12 0).take 12

/-- An unsigned little-endian number. -/
def leNat : List Byte → Nat
  | [] => 0
  | b :: t => b.toNat + 256 * leNat t

/-- A signed number of 8·n bits. -/
def signedOf (bits : Nat) (x : Nat) : Int := (BitVec.ofNat bits x).toInt

/-! ### Codes of the named lists (R199: the value's position in its list) -/

/-- Table 11-3. -/
def Result.code : Result → Nat
  | .ok => 0 | .unknownKind => 1 | .badLength => 2 | .badValue => 3 | .wrongState => 4 | .busy => 5 | .inUse => 6
  | .notFound => 7 | .storeFull => 8 | .badOrder => 9 | .zoneConflict => 10 | .outsideLimits => 11
  | .protectedMove => 12 | .queueFull => 13 | .axisNotInMove => 14 | .damaged => 15 | .locked => 16

/-- Channel A is 0 and B is 1 (R199). -/
def PlayerId.code : PlayerId → Nat
  | .a => 0 | .b => 1

/-- Table 4-1. -/
def Shape.code : Shape → Nat
  | .linear => 0 | .ease => 1 | .step => 2

/-- Table 4-3. -/
def EntryState.code : EntryState → Nat
  | .empty => 0 | .writing => 1 | .ready => 2

/-- Table 4-3. -/
def Writer.code : Writer → Nat
  | .console => 0 | .recorder => 1

/-- Table 1-2. -/
def PortState.code : PortState → Nat
  | .stale => 0 | .live => 1

/-- Section 1.4. -/
def ChannelState.code : ChannelState → Nat
  | .centredWait => 0 | .live => 1

/-- Table 9-2. -/
def AxisState.code : AxisState → Nat
  | .unconfigured => 0 | .disabled => 1 | .active => 2 | .stopping => 3 | .held => 4 | .fault => 5

/-- Table 9-1. -/
def Curve.code : Curve → Nat
  | .linear => 0 | .square => 1 | .mixed => 2

/-- Table 9-1. -/
def StickMode.code : StickMode → Nat
  | .liveOnly => 0 | .trim => 1

/-- Table 2-2. -/
def Source.code : Source → Nat
  | .live => 0 | .playA => 1 | .playB => 2

/-- R183. -/
def FaultCause.code : FaultCause → Nat
  | .driveSilent => 0 | .driveReported => 1 | .following => 2

/-- Table 9-4. -/
def DriveStatus.code : DriveStatus → Nat
  | .ok => 0 | .warn => 1 | .fault _ => 2

/-- The drive code, present with FAULT (Table 9-4). -/
def DriveStatus.driveCode? : DriveStatus → Option Nat
  | .fault c => some c
  | _ => none

/-- R68. -/
def StopLine.code : StopLine → Nat
  | .asserted => 0 | .released => 1

/-- Table 5-1. -/
def PlayerState.code : PlayerState → Nat
  | .idle => 0 | .loaded => 1 | .running => 2 | .paused => 3 | .starved => 4 | .ended => 5 | .releasing => 6 | .faulted => 7

/-- Table 7-1. -/
def RecState.code : RecState → Nat
  | .idle => 0 | .armed => 1 | .recording => 2 | .closing => 3

/-- R152. -/
def CloseCause.code : CloseCause → Nat
  | .stopped => 0 | .storeFull => 1 | .timeLimit => 2

/-- Table 8-2. -/
def CueState.code : CueState → Nat
  | .idle => 0 | .running => 1 | .waiting => 2 | .halted => 3 | .done => 4

/-- Table 8-2. -/
def HaltCause.code : HaltCause → Nat
  | .stopped => 0 | .refused => 1

/-- Table 8-4. -/
def TriggerAction.code : TriggerAction → Nat
  | .none => 0 | .cueGo => 1 | .pauseAll => 2 | .resumePlay => 3 | .takeOver => 4 | .report => 5

/-- Table 10-2. -/
def FaultKind.code : FaultKind → Nat
  | .driveSilent => 0 | .driveReported => 1 | .following => 2 | .keyDamaged => 3 | .keyCorrected => 4

/-- Table 10-1. -/
def AxisCause.code : AxisCause → Nat
  | .driveSilent => 0 | .driveReported => 1 | .following => 2 | .stopLineAsserted => 3 | .stopLineReleased => 4
  | .stopAll => 5 | .allHeld => 6

/-- Note 3 to Table 10-1. -/
def LinkCause.code : LinkCause → Nat
  | .framing => 0 | .gap => 1 | .length => 2 | .check => 3 | .kind => 4 | .overrun => 5

/-- The outcome byte of a STORE notice about a read: CORRECTED 0, DAMAGED 1 (Note 3 to Table 10-1). -/
def storeOutcome : KeyCheck → Nat
  | .damaged => 1
  | _ => 0

/-- A move id: 1 to 32. -/
def moveId (m : MoveIx) : Nat := m.val + 1

/-! ### Records on the wire -/

/-- A key record (Table 11-2). -/
def encKey (k : Key) : List Byte := u24 k.time ++ u8 k.shape.code ++ k.positions.flatMap s24

/-- A cue step: the kind byte, the operands of Table 8-1 and zeros to fill four operand bytes (Note 1 to Table 11-5). -/
def encStep (c : CueStep) : List Byte :=
  let body : List Byte :=
    match c with
    | .load p m r => u8 0 ++ u8 p.code ++ u8 (moveId m) ++ u16 r
    | .goTo p k f => u8 1 ++ u8 p.code ++ u8 k.val ++ u16 f
    | .run p => u8 2 ++ u8 p.code
    | .fade m t f => u8 3 ++ u8 m.toNat ++ u8 t.code ++ u16 f
    | .stopPlay p => u8 4 ++ u8 p.code
    | .record m k d => u8 5 ++ u8 (moveId m) ++ u8 k.toNat ++ u8 d
    | .endRec => u8 6
    | .waitTrigger c => u8 7 ++ u8 c
    | .waitFrames n => u8 8 ++ u16 n
    | .waitEnd p => u8 9 ++ u8 p.code
    | .waitAt k w => u8 10 ++ u8 k.val ++ u24 w
    | .loop t n => u8 11 ++ u8 t.val ++ u8 n
    | .note v => u8 12 ++ u8 v
    | .finish => u8 13
  (body ++ leBytes 5 0).take 5

/-- An axis configuration record in a reply: the fields of Table 9-1 in order (R199). -/
def encConfig (c : AxisConfig) : List Byte :=
  s24 c.softMin ++ s24 c.softMax ++ u24 c.band ++ u16 c.vmax ++ u16 c.amax ++ u16 c.vstick
    ++ encOpt 1 (fun ch : Fin 8 => u8 ch.val) c.channel ++ encBool c.invert ++ u16 c.deadband ++ u8 c.curve.code
    ++ u8 c.mode.code ++ u24 c.trimMax ++ u24 c.feLimit ++ encBool c.tipScaled ++ u8 c.missLimit

/-- An optional axis index. -/
def encAxis? (i : Option (Fin 8)) : List Byte := encOpt 1 (fun j : Fin 8 => u8 j.val) i

/-- The source byte and the id or index of what a player holds (Notes to Tables 10-1 and 10-3). -/
def encSource : Option MoveSource → List Byte
  | none => u8 0 ++ u8 0
  | some (.move m) => u8 1 ++ u8 (moveId m)
  | some (.mark k) => u8 2 ++ u8 k.val

/-- A notice detail (Note 3 to Table 10-1). -/
def encDetail : Detail → List Byte
  | .fault k a p c m =>
    u8 k.code ++ encAxis? a ++ encOpt 1 (fun q : PlayerId => u8 q.code) p ++ encBool c ++ encBool m
  | .axis c a d => u8 c.code ++ encAxis? a ++ encOpt 1 u8 d
  | .zone i x y z t => u8 i.val ++ s24 x ++ s24 y ++ s24 z ++ s24 t
  | .player c e src t f => u8 c.code ++ u8 e.code ++ encSource src ++ u24 t ++ encOpt 2 u16 f
  | .recordStarted m => u8 0 ++ u8 (moveId m) ++ u8 0 ++ u8 0 ++ u16 0 ++ encOpt 3 u24 none ++ u16 0
  | .recordClosed m c e n t k =>
    u8 1 ++ u8 (moveId m) ++ u8 c.code ++ u8 e.code ++ u16 n ++ encOpt 3 u24 t ++ u16 k
  | .cueNote i v => u8 0 ++ u8 i.val ++ u8 v ++ u8 0 ++ encAxis? none
  | .cueDone i => u8 1 ++ u8 i.val ++ u8 0 ++ u8 0 ++ encAxis? none
  | .cueHalted i c a => u8 2 ++ u8 i.val ++ u8 0 ++ u8 c.code ++ encAxis? a
  | .stick p q => u8 p.code ++ encOpt 1 u8 q
  | .storeRead o m i b => u8 (storeOutcome o) ++ u8 (moveId m) ++ u16 i ++ u16 b ++ u16 0
  | .storeRetired m n => u8 2 ++ u8 (moveId m) ++ u16 0 ++ u16 0 ++ u16 n
  | .button c e => u8 c ++ u8 e.val
  | .link c => u8 c.code

/-- The payload of a NOTICE frame (R200). -/
def encNotice (coalesced : Bool) (d : Stamped) : List Byte :=
  u8 d.detail.cls.index.val ++ encBool coalesced ++ u32 d.frame ++ encDetail d.detail

/-- The part of a STATUS payload about one axis (Note 1 to Table 10-3). -/
def encAxisReport (a : AxisReport) : List Byte :=
  u8 a.index.val ++ u8 a.state.code ++ s24 a.out ++ encOpt 3 s24 a.actual ++ u8 a.fromSrc.code ++ u8 a.toSrc.code
    ++ u16 a.weight ++ s24 a.trim ++ u8 a.flags.bits

/-- The part of a STATUS payload about one player (Note 1 to Table 10-3). -/
def encPlayerReport (p : PlayerReport) : List Byte :=
  u8 p.state.code ++ encSource p.source ++ u24 p.time ++ u16 p.rate

/-- A STATUS payload (Note 1 to Table 10-3). -/
def encStatus (r : StatusReport) : List Byte :=
  u32 r.frame ++ u8 r.replaced ++ encList encAxisReport r.axes ++ encPlayerReport r.playerA ++ encPlayerReport r.playerB
    ++ u8 r.recorder.code ++ u8 r.cue.code ++ u8 r.step.val

/-- A fault log record (R191): the fields of Table 10-2 in order, those not present for every record optional. DESIGN CHOICE (log
44): move and key index, one row of the table, are two optional fields with a presence byte each. -/
def encFaultRecord (r : FaultRecord) : List Byte :=
  u8 r.kind.code ++ encAxis? r.axis ++ encOpt 1 (fun q : PlayerId => u8 q.code) r.player ++ u32 r.frame
    ++ encOpt 3 s24 r.setpoint ++ encOpt 3 s24 r.actual ++ encOpt 1 u8 r.code
    ++ encOpt 1 (fun m => u8 (moveId m)) r.move ++ encOpt 2 u16 r.index

/-! ### Checks of the lines -/

/-- One bit of the panel line's CRC-8 (Note 2 to Table 1-1). -/
def crc8Bit (c : BitVec 8) : BitVec 8 := if c.msb then (c <<< 1) ^^^ 0x07#8 else c <<< 1

/-- One byte of the panel line's CRC-8. -/
def crc8Byte (c b : BitVec 8) : BitVec 8 :=
  crc8Bit (crc8Bit (crc8Bit (crc8Bit (crc8Bit (crc8Bit (crc8Bit (crc8Bit (c ^^^ b))))))))

/-- CRC-8 of x⁸ + x² + x + 1, initial value 0, no inversion (Note 2 to Table 1-1). -/
def crc8 (l : List Byte) : BitVec 8 := l.foldl crc8Byte 0#8

/-- One bit of the CRC-16 of the console link and the drive line. -/
def crc16Bit (c : BitVec 16) : BitVec 16 := if c.msb then (c <<< 1) ^^^ 0x1021#16 else c <<< 1

/-- One byte of the CRC-16. -/
def crc16Byte (c : BitVec 16) (b : BitVec 8) : BitVec 16 :=
  crc16Bit (crc16Bit (crc16Bit (crc16Bit (crc16Bit (crc16Bit (crc16Bit (crc16Bit (c ^^^ (b.setWidth 16 <<< 8)))))))))

/-- CRC-16 of polynomial 0x1021, initial value 0xFFFF, no inversion (Note 2 to Table 11-1, Note 1 to Table 9-4). -/
def crc16 (l : List Byte) : BitVec 16 := l.foldl crc16Byte 0xFFFF#16

/-- The check of a panel frame with these fields (fields 2 to 5 of Table 1-1). -/
def panelCheck (seq : Nat) (samples : List Int) (codes : List Nat) : Nat :=
  (crc8 (u8 seq ++ u8 codes.length ++ samples.flatMap s16 ++ codes.flatMap u8)).toNat

/-- The check of a console frame (Table 11-1: offsets 1 to 3 + length). -/
def consoleCheck (kind tag : Nat) (payload : List Byte) : Nat :=
  (crc16 (u8 payload.length ++ u8 kind ++ u8 tag ++ payload)).toNat

/-- The check of a drive reply (Note 1 to Table 9-4). -/
def driveCheck (address sequence : Nat) (actual : Int) (status code : Nat) : Nat :=
  (crc16 (u8 address ++ u8 sequence ++ s24 actual ++ u8 status ++ u8 code)).toNat

/-- The bytes of a frame on the transmit pair (Table 11-1). -/
def TxFrame.bytes (f : TxFrame) : List Byte :=
  u8 0x5C ++ u8 f.payload.length ++ u8 f.kind ++ u8 f.tag ++ f.payload ++ u16 (consoleCheck f.kind f.tag f.payload)

/-- The fields of an exchange before its check (Note 3 to Table 9-4). -/
def Exchange.fields (x : Exchange) : List Byte :=
  u8 x.address.val ++ u8 (x.seq + if x.enable then 16 else 0) ++ s24 x.setpoint ++ s24 x.feedForward

/-- The ten bytes of an exchange on the drive line (Note 3 to Table 9-4). -/
def Exchange.bytes (x : Exchange) : List Byte := x.fields ++ u16 (crc16 x.fields).toNat

end Sys2Proof.Machine
end

