-- ==== Sys2Proof/Decode.lean ====
section
/-! DEFINITION. How a console request is read from the kind and payload of its frame (Table 11-5, R196, R199). The rows of
spec/opcode_table.json give no bits, so `decodeTableWord` reads no command from a word. -/

namespace Sys2Proof

open Sys2Proof.Machine

/-- The table gives no row a bit: no word spells a command. -/
def decodeTableWord (_nbits _w : Nat) : Option Instr := none

/-- The message kind of a request (Table 11-5); none for an event. -/
def requestKind : Instr → Option Nat
  | .ident => some 0x01
  | .restart => some 0x02
  | .setPanel .. => some 0x08
  | .getPanel => some 0x09
  | .setFrame .. => some 0x10
  | .getFrame => some 0x11
  | .fade .. => some 0x12
  | .takeOver => some 0x13
  | .getBlend .. => some 0x14
  | .setGeometry .. => some 0x15
  | .getGeometry => some 0x16
  | .setZone .. => some 0x18
  | .clearZone .. => some 0x19
  | .zoneOn .. => some 0x1A
  | .zoneOff .. => some 0x1B
  | .getZone .. => some 0x1C
  | .stopAll => some 0x1D
  | .resumeAll => some 0x1E
  | .openMove .. => some 0x20
  | .putKeys .. => some 0x21
  | .closeMove .. => some 0x22
  | .readKeys .. => some 0x23
  | .deleteMove .. => some 0x24
  | .protectMove .. => some 0x25
  | .getMove .. => some 0x26
  | .listMoves => some 0x27
  | .load .. => some 0x28
  | .run .. => some 0x29
  | .pause .. => some 0x2A
  | .stop .. => some 0x2B
  | .setRate .. => some 0x2C
  | .getPlayer .. => some 0x2D
  | .setMark .. => some 0x30
  | .storeMark .. => some 0x31
  | .clearMark .. => some 0x32
  | .getMark .. => some 0x33
  | .goTo .. => some 0x34
  | .recordStart .. => some 0x38
  | .recordStop => some 0x39
  | .getRecorder => some 0x3A
  | .putCue .. => some 0x40
  | .readCue .. => some 0x41
  | .getCue => some 0x42
  | .cueStart .. => some 0x43
  | .cueStop => some 0x44
  | .putTrigger .. => some 0x45
  | .getTriggers => some 0x46
  | .setAxis .. => some 0x48
  | .releaseAxis .. => some 0x49
  | .enableAxis .. => some 0x4A
  | .disableAxis .. => some 0x4B
  | .clearFault .. => some 0x4C
  | .getAxis .. => some 0x4D
  | .setNotices .. => some 0x50
  | .getNotices => some 0x51
  | .readLog => some 0x52
  | .clearLog => some 0x53
  | .setStatus .. => some 0x54
  | .getStatus => some 0x55
  | .powerOn .. => none
  | .panelFrame .. => none
  | .panelGapTimeout => none
  | .staleTimeout => none
  | .outputFrame .. => none
  | .fadeComplete .. => none
  | .driveSilent .. => none
  | .recorderTimeLimit => none
  | .waitFramesExpired => none
  | .statusReportDue => none
  | .keyAccessComplete .. => none
  | .driveReply .. => none
  | .stopLineAssert => none
  | .stopLineRelease => none
  | .requestFrame .. => none
  | .consoleGapTimeout => none
  | .transmitDone .. => none
  | .panelByte .. => none
  | .consoleByte .. => none
  | .mainPowerLoss => none
  | .retentionSupplyLoss => none

/-- What the Console Link finds before it delivers a request (R196). -/
inductive Decoded
  | unknownKind
  | badLength
  | request (i : Instr)
deriving DecidableEq, Repr

/-- The unsigned field of `n` bytes at offset `o`. -/
def fieldN (l : List Byte) (o n : Nat) : Nat := leNat ((l.drop o).take n)

/-- The position at offset `o`. -/
def fieldP (l : List Byte) (o : Nat) : Int := signedOf 24 (fieldN l o 3)

/-- The positions that fill a list of bytes, `n` of them. -/
def fieldPs (l : List Byte) (o n : Nat) : List Int := (List.range n).map fun i => fieldP l (o + 3 * i)

/-- An optional field of `n` bytes after its presence byte (R199). A presence byte other than 0 or 1 gives a value outside
every range, which the owning block refuses BAD_VALUE. -/
def fieldOpt (l : List Byte) (o n : Nat) : Option Nat :=
  match fieldN l o 1 with
  | 0 => none
  | 1 => some (fieldN l (o + 1) n)
  | _ => some 16777216

/-- An optional bound (Table 11-5, SET_ZONE): a presence byte other than 0 or 1 gives a bound with lo above hi, which R57
refuses BAD_VALUE. DESIGN CHOICE (log 36): with presence byte 0 the bound is absent whatever its other bytes hold. -/
def fieldBound (l : List Byte) (o : Nat) : WireBound :=
  match fieldN l o 1 with
  | 0 => none
  | 1 => some (fieldP l (o + 1), fieldP l (o + 4))
  | _ => some (1, 0)

/-- A name (R199): the bytes beyond the length are ignored; a length above 12 gives a name that every rule refuses. -/
def fieldName (l : List Byte) (o : Nat) : List Nat :=
  if fieldN l o 1 ≤ 12 then ((l.drop (o + 1)).take (fieldN l o 1)).map BitVec.toNat else List.replicate (fieldN l o 1) 0

/-- A key of `a` positions at offset `o` (Table 11-2). -/
def fieldKey (l : List Byte) (a o : Nat) : WireKey :=
  { time := fieldN l o 3, shape := fieldN l (o + 3) 1, positions := fieldPs l (o + 4) a }

/-- The keys of a PUT_KEYS whose entry's mask has `a` axes: none unless the length is 1 + n (4 + 3a) with n from 1 to 8
(R196). -/
def fieldKeys (l : List Byte) (a : Nat) : List WireKey :=
  let n := (l.length - 1) / (4 + 3 * a)
  if 0 < a ∧ l.length = 1 + n * (4 + 3 * a) ∧ 1 ≤ n ∧ n ≤ 8 then
    (List.range n).map fun i => fieldKey l a (1 + i * (4 + 3 * a))
  else []

/-- A cue step at offset `o`. -/
def fieldStep (l : List Byte) (o : Nat) : WireStep :=
  { kind := fieldN l o 1, op0 := fieldN l (o + 1) 1, op1 := fieldN l (o + 2) 1, op2 := fieldN l (o + 3) 1,
    op3 := fieldN l (o + 4) 1 }

/-- The fields of SET_AXIS at offset `o` (Note 2 to Table 11-5). -/
def fieldAxis (l : List Byte) (o : Nat) : WireAxis :=
  { softMin := fieldP l o, softMax := fieldP l (o + 3), band := fieldN l (o + 6) 3, vmax := fieldN l (o + 9) 2,
    amax := fieldN l (o + 11) 2, vstick := fieldN l (o + 13) 2, channel := fieldOpt l (o + 15) 1,
    invert := fieldN l (o + 17) 1, deadband := fieldN l (o + 18) 2, curve := fieldN l (o + 20) 1,
    mode := fieldN l (o + 21) 1, trimMax := fieldN l (o + 22) 3, feLimit := fieldN l (o + 25) 3,
    tipScaled := fieldN l (o + 28) 1, missLimit := fieldOpt l (o + 29) 1 }

/-- The optional binding of SET_RATE at offset `o`. -/
def fieldBinding (l : List Byte) (o : Nat) : Option (Nat × Nat) :=
  match fieldN l o 1 with
  | 0 => none
  | 1 => some (fieldN l (o + 1) 1, fieldN l (o + 2) 2)
  | _ => some (256, 0)

/-- The number of axes a mask byte names. -/
def maskAxes (m : Nat) : Nat := Mask.count (BitVec.ofNat 8 m)

/-- The request when its length is the one the table gives, BAD_LENGTH otherwise (R196, check 2). -/
def sized (l : List Byte) (n : Nat) (i : Instr) : Decoded := if l.length = n then .request i else .badLength

/-- What a frame of this kind and payload asks for (Table 11-5). `axesOf id` is the number of axes of the mask of entry `id`,
which the length of PUT_KEYS depends on (R196). -/
def decodeRequest (axesOf : Nat → Nat) (kind : Nat) (l : List Byte) : Decoded :=
  match kind with
  | 0x01 => sized l 0 .ident
  | 0x02 => sized l 0 .restart
  | 0x08 => sized l 2 (.setPanel (fieldN l 0 2))
  | 0x09 => sized l 0 .getPanel
  | 0x10 => sized l 1 (.setFrame (fieldN l 0 1))
  | 0x11 => sized l 0 .getFrame
  | 0x12 => sized l 4 (.fade (fieldN l 0 1) (fieldN l 1 1) (fieldN l 2 2))
  | 0x13 => sized l 0 .takeOver
  | 0x14 => sized l 1 (.getBlend (fieldN l 0 1))
  | 0x15 => sized l 11 (.setGeometry (fieldN l 0 3) (fieldN l 3 3) (fieldN l 6 3) (fieldN l 9 2))
  | 0x16 => sized l 0 .getGeometry
  | 0x18 => sized l 29 (.setZone (fieldN l 0 1) (fieldBound l 1) (fieldBound l 8) (fieldBound l 15) (fieldBound l 22))
  | 0x19 => sized l 1 (.clearZone (fieldN l 0 1))
  | 0x1A => sized l 1 (.zoneOn (fieldN l 0 1))
  | 0x1B => sized l 1 (.zoneOff (fieldN l 0 1))
  | 0x1C => sized l 1 (.getZone (fieldN l 0 1))
  | 0x1D => sized l 0 .stopAll
  | 0x1E => sized l 0 .resumeAll
  | 0x20 => sized l 15 (.openMove (fieldN l 0 1) (fieldName l 1) (fieldN l 14 1))
  | 0x21 =>
    if 8 ≤ l.length ∧ l.length ≤ 225 then
      .request (.putKeys (fieldN l 0 1) (fieldKeys l (axesOf (fieldN l 0 1))))
    else .badLength
  | 0x22 => sized l 1 (.closeMove (fieldN l 0 1))
  | 0x23 => sized l 4 (.readKeys (fieldN l 0 1) (fieldN l 1 2) (fieldN l 3 1))
  | 0x24 => sized l 1 (.deleteMove (fieldN l 0 1))
  | 0x25 => sized l 2 (.protectMove (fieldN l 0 1) (fieldN l 1 1))
  | 0x26 => sized l 1 (.getMove (fieldN l 0 1))
  | 0x27 => sized l 0 .listMoves
  | 0x28 => sized l 4 (.load (fieldN l 0 1) (fieldN l 1 1) (fieldN l 2 2))
  | 0x29 => sized l 1 (.run (fieldN l 0 1))
  | 0x2A => sized l 1 (.pause (fieldN l 0 1))
  | 0x2B => sized l 1 (.stop (fieldN l 0 1))
  | 0x2C => sized l 7 (.setRate (fieldN l 0 1) (fieldN l 1 2) (fieldBinding l 3))
  | 0x2D => sized l 1 (.getPlayer (fieldN l 0 1))
  | 0x30 =>
    sized l (15 + 3 * maskAxes (fieldN l 14 1))
      (.setMark (fieldN l 0 1) (fieldName l 1) (fieldN l 14 1) (fieldPs l 15 (maskAxes (fieldN l 14 1))))
  | 0x31 => sized l 15 (.storeMark (fieldN l 0 1) (fieldName l 1) (fieldN l 14 1))
  | 0x32 => sized l 1 (.clearMark (fieldN l 0 1))
  | 0x33 => sized l 1 (.getMark (fieldN l 0 1))
  | 0x34 => sized l 4 (.goTo (fieldN l 0 1) (fieldN l 1 1) (fieldN l 2 2))
  | 0x38 =>
    sized l 18 (.recordStart (fieldN l 0 1) (fieldName l 1) (fieldN l 14 1) (fieldN l 15 1) (fieldN l 16 1) (fieldN l 17 1))
  | 0x39 => sized l 0 .recordStop
  | 0x3A => sized l 0 .getRecorder
  | 0x40 =>
    let n := (l.length - 1) / 5
    if l.length = 1 + 5 * n ∧ 1 ≤ n ∧ n ≤ 8 then
      .request (.putCue (fieldN l 0 1) ((List.range n).map fun i => fieldStep l (1 + 5 * i)))
    else .badLength
  | 0x41 => sized l 2 (.readCue (fieldN l 0 1) (fieldN l 1 1))
  | 0x42 => sized l 0 .getCue
  | 0x43 => sized l 1 (.cueStart (fieldN l 0 1))
  | 0x44 => sized l 0 .cueStop
  | 0x45 => sized l 3 (.putTrigger (fieldN l 0 1) (fieldN l 1 1) (fieldN l 2 1))
  | 0x46 => sized l 0 .getTriggers
  | 0x48 => sized l 32 (.setAxis (fieldN l 0 1) (fieldAxis l 1))
  | 0x49 => sized l 1 (.releaseAxis (fieldN l 0 1))
  | 0x4A => sized l 1 (.enableAxis (fieldN l 0 1))
  | 0x4B => sized l 1 (.disableAxis (fieldN l 0 1))
  | 0x4C => sized l 1 (.clearFault (fieldN l 0 1))
  | 0x4D => sized l 1 (.getAxis (fieldN l 0 1))
  | 0x50 => sized l 3 (.setNotices (fieldN l 0 2) (fieldN l 2 1))
  | 0x51 => sized l 0 .getNotices
  | 0x52 => sized l 0 .readLog
  | 0x53 => sized l 0 .clearLog
  | 0x54 => sized l 2 (.setStatus (fieldN l 0 2))
  | 0x55 => sized l 0 .getStatus
  | _ => .unknownKind

end Sys2Proof
end

