-- ==== Sys2Proof/Machine/BlendRecord.lean ====
section
/-! DEFINITION. What a fade, a cut, a reversal, a hand-back and the cut on leaving ACTIVE make of ONE blend record
(sections 2.3, 2.7 to 2.9), before any count or player is touched. -/

namespace Sys2Proof.Machine

/-- A record whose from and to differ (R26). -/
def Blend.fading (b : Blend) : Bool := decide (b.fromSrc ≠ b.toSrc)

/-- The record names the source as from or as to (R28). -/
def Blend.names (b : Blend) (x : Source) : Bool := decide (b.fromSrc = x) || decide (b.toSrc = x)

/-- The weight w: floor(1024 k / F) while fading, 0 when steady (R26). -/
def Blend.weight (b : Blend) : Nat :=
  if b.fading then
    match b.len with
    | some f => 1024 * b.k / f
    | none => 0
  else 0

/-- A record made steady on `x`, L and T as they are. -/
def Blend.steadyOn (b : Blend) (x : Source) : Blend := { b with fromSrc := x, toSrc := x, k := 0, len := none }

/-- A cut (R39): onto LIVE L becomes out and T becomes 0; onto a player L and T are unchanged. -/
def Blend.cut (b : Blend) (x : Source) (out : Int) : Blend :=
  match x with
  | .live => { b.steadyOn .live with live := out, trim := 0 }
  | .playA => b.steadyOn .playA
  | .playB => b.steadyOn .playB

/-- The start of a fade on a steady record (R40). -/
def Blend.start (b : Blend) (x : Source) (f : Nat) : Blend := { b with toSrc := x, k := 0, len := some f }

/-- The fade count a reversal over `f` frames starts from (R41). -/
def Blend.reversedCount (b : Blend) (f : Nat) : Nat := (1024 - b.weight) * f / 1024

/-- A reversal over `f` frames (R41), carried out as a cut to the from-source when the computed count equals `f`. -/
def Blend.reverse (b : Blend) (f : Nat) (out : Int) : Blend :=
  if b.reversedCount f = f then b.cut b.fromSrc out
  else { b with fromSrc := b.toSrc, toSrc := b.fromSrc, k := b.reversedCount f, len := some f }

/-- What an accepted FADE makes of the record, by the first case that fits (R39). -/
def Blend.fadeTo (b : Blend) (x : Source) (f : Nat) (out : Int) : Blend :=
  if b.fading = false ∧ b.fromSrc = x then b
  else if f = 0 then b.cut x out
  else if b.fading = false then b.start x f
  else b.reverse f out

/-- Hand-back over `r` frames (Table 2-8). -/
def Blend.handBack (b : Blend) (r : Nat) (out : Int) : Blend :=
  if b.fading = false then
    if b.fromSrc = .live then b else b.start .live r
  else if b.toSrc = .live then b
  else if b.fromSrc = .live then b.reverse r out
  else b.cut .live out

/-- The cut on leaving ACTIVE (R46): steady LIVE with L equal to out, T kept. -/
def Blend.leaveActive (b : Blend) (out : Int) : Blend := { b.steadyOn .live with live := out }

/-- The seat (R46): steady LIVE with L at the drive's actual position and T 0. -/
def Blend.seat (b : Blend) (actual : Int) : Blend := { b.steadyOn .live with live := actual, trim := 0 }

/-- The completion of a fade (R36): steady on the to-source, T cleared on reaching LIVE. -/
def Blend.complete (b : Blend) : Blend :=
  { b.steadyOn b.toSrc with trim := if b.toSrc = .live then 0 else b.trim }

/-- A fading record whose count has reached F completes (R36); any other record is left as it is. -/
def Blend.completeIfDue (b : Blend) : Blend := if b.fading = true ∧ b.len = some b.k then b.complete else b

/-- Fade progress (R36): a fading record counts one frame, and completes when k equals F. -/
def Blend.progress (b : Blend) : Blend := if b.fading then { b with k := b.k + 1 }.completeIfDue else b

/-- The tracking of L against the new out (R33). -/
def Blend.track (b : Blend) (out : Int) : Blend :=
  if b.fading = true ∧ b.names .live = true then b else { b with live := out }

/-- The reference count of a player: the axes whose record names it (R28). -/
def State.refCount (s : State) (p : PlayerId) : Nat :=
  (allAxes.filter fun i => (s.axis i).blend.names p.source).length

end Sys2Proof.Machine
end

