-- ==== Sys2Proof/Machine/Notices.lean ====
section
/-! DEFINITION. The Notice Unit's status reports (section 10.3), its offer to the transmitter (R188), and the transmitter's
choice of the next frame (R200) over the readiness order of replies (R197). -/

namespace Sys2Proof.Machine

/-! ### Status reports -/

/-- What a player holds, for reports (Table 10-3). -/
def Player.source? (p : Player) : Option MoveSource :=
  match p.move, p.mark with
  | some m, _ => some (.move m)
  | none, some k => some (.mark k)
  | none, none => none

/-- The part of a report about a player (Table 10-3). -/
def Player.report (p : Player) : PlayerReport :=
  { state := p.state, source := p.source?, time := p.time / 256, rate := p.rate }

/-- The part of a report about axis `i` (Table 10-3). -/
def Axis.report (a : Axis) (i : Fin 8) : AxisReport :=
  { index := i, state := a.state, out := a.out, actual := a.actual, fromSrc := a.blend.fromSrc, toSrc := a.blend.toSrc,
    weight := a.blend.weight, trim := a.blend.trim, flags := a.flags }

/-- A status report (Table 10-3): axes and players as `f` holds them, Recorder and cue as `s` holds them (R192). -/
def buildStatus (f s : State) (replaced : Nat) : StatusReport :=
  { frame := s.timer.number, replaced := replaced,
    axes := (allAxes.filter fun i => (f.axis i).configured).map fun i => (f.axis i).report i,
    playerA := f.playerA.report, playerB := f.playerB.report,
    recorder := s.recorder.state, cue := s.cue.state, step := s.cue.current }

/-- The replaced count of a report built now (R192). -/
def StatusUnit.replacedNext (u : StatusUnit) : Nat :=
  if u.held.isSome then min (u.replaced + 1) Config.maxReplaced else u.replaced

/-- A report that is due is built into the holder and the count returns to 0 (R192); nothing is due while N is 0 or the
count has not reached N. -/
def statusDue (f s : State) : State :=
  if s.status.interval ≠ 0 ∧ s.status.interval ≤ s.status.count then
    { s with status := { s.status with
        count := 0, held := some (buildStatus f s s.status.replacedNext), replaced := s.status.replacedNext } }
  else s

/-- A publication at the divider (R192). -/
def dividerCount (f s : State) : State :=
  if s.status.interval = 0 then { s with status := { s.status with count := 0 } }
  else statusDue f { s with status := { s.status with count := s.status.count + 1 } }

/-! ### The readiness order and the transmitter -/

/-- A reply: the result code and the fields after it (R199). -/
structure Reply where
  code : Result
  fields : List Byte
deriving DecidableEq, Repr

/-- The payload of a reply frame. -/
def Reply.bytes (r : Reply) : List Byte := u8 r.code.code ++ r.fields

/-- A reply of a result code alone. -/
def Reply.bare (c : Result) : Reply := { code := c, fields := [] }

/-- A reply becomes ready, last in readiness order (R197); a queue place becomes ANSWERED. -/
def readyReply (via : Via) (reply : List Byte) (s : State) : State :=
  match via with
  | .place k =>
    { s with link := { s.link with
        places := s.link.places.map fun p => if p.slot = k then { p with state := .answered reply } else p,
        ready := s.link.ready ++ [.place k] } }
  | .direct kind => { s with link := { s.link with ready := s.link.ready ++ [.direct kind reply] } }

/-- The payload a place holds for the transmitter. -/
def Place.reply (p : Place) : List Byte :=
  match p.state with
  | .answered r => r
  | _ => []

/-- The first ready reply, with the places and the readiness order it leaves: a queue place becomes free, an entry leaves the
refusal list (R197, R198). The reply's kind is the request's plus 0x80. -/
def takeReady (places : List Place) : List Ready → Option (TxFrame × List Place × List Ready)
  | [] => none
  | .place k :: t =>
    match places.find? fun p => decide (p.slot = k) with
    | some p => some ({ kind := p.kind + 128, tag := p.tag, payload := p.reply }, places.filter (fun q => decide (q.slot ≠ k)), t)
    | none => takeReady places t
  | .refusal kind tag :: t => some ({ kind := kind + 128, tag := tag, payload := (Reply.bare .queueFull).bytes }, places, t)
  | .direct kind reply :: t => some ({ kind := kind + 128, tag := 0, payload := reply }, places, t)

/-- The classes in priority order (Table 10-1). -/
def allClasses : List NoticeClass :=
  [.fault, .axis, .zone, .player, .record, .cue, .stick, .store, .button, .link]

/-- The detail of a class that is eligible: enabled and pending (R188). -/
def NoticeSlot.eligible? (x : NoticeSlot) : Option Stamped := if x.enabled && x.pending then x.detail else none

/-- The eligible class of highest priority with its detail (R188). -/
def State.eligible? (s : State) : Option (NoticeClass × Stamped) :=
  allClasses.findSome? fun c => (s.noticeSlot c).eligible?.map fun d => (c, d)

/-- Pending and coalesced cleared at the offer, the detail kept (R188). -/
def NoticeSlot.offered (x : NoticeSlot) : NoticeSlot := { x with pending := false, coalesced := false }

/-- The transmitter starts sending a frame (R200). -/
def send (f : TxFrame) (s : State) : State := { s with link := { s.link with sending := some f } }

/-- The transmitter's choice when it is free: the first ready reply, else a NOTICE of the eligible class of highest priority,
else the held status report, else nothing (R200, R188). -/
def chooseFrame (s : State) : State :=
  match takeReady s.link.places s.link.ready with
  | some (f, places, ready) => send f { s with link := { s.link with places := places, ready := ready } }
  | none =>
    match s.eligible? with
    | some (c, d) =>
      send { kind := 0xE0, tag := 0, payload := encNotice (s.noticeSlot c).coalesced d }
        (s.setNoticeSlot c (s.noticeSlot c).offered)
    | none =>
      match s.status.held with
      | some r =>
        send { kind := 0xE1, tag := 0, payload := encStatus r } { s with status := { s.status with held := none, replaced := 0 } }
      | none => s

/-- An IDLE transmitter acts on what an event has made ready (R200); a SENDING one goes on sending. -/
def pump (s : State) : State :=
  match s.link.sending with
  | some _ => s
  | none => chooseFrame s

/-- An event of a part that has main power; without main power nothing happens (R98). The event is taken whole, and then
the transmitter acts (R187, R200). -/
def event (f : State → State) (s : State) : Host.Outcome State Fault Refusal :=
  if s.power.on then .next (pump (f s)) else .next s

end Sys2Proof.Machine
end

