-- ==== Sys2Proof/Machine/Library.lean ====
section
/-! DEFINITION. The Move Library (chapter 4): chains, the directory, the key store port and its arbiter, the console
transaction, and the Recorder's side of the directory, which a failing write reaches at its grant. -/

namespace Sys2Proof.Machine

/-! ### Chains (R76, R80, R81) -/

/-- The blocks from `b` along the next links, `n` of them at most. -/
def chainFrom (m : List (Nat × BlockEntry)) : Nat → Option Nat → List Nat
  | 0, _ => []
  | _, none => []
  | n + 1, some b => b :: chainFrom m n (sparseGet BlockEntry.blank m b).link

/-- The chain of an entry, in order. -/
def State.chain (s : State) (e : Entry) : List Nat := chainFrom s.lib.blockMap Config.blocks e.first

/-- Adds a block number to the bad set, which is kept in rising order (R78). -/
def addBad (b : Nat) : List Nat → List Nat
  | [] => [b]
  | x :: t => if b < x then b :: x :: t else if b = x then x :: t else x :: addBad b t

/-- A block leaves its chain: to the tail of the free list, or to the bad set if it is suspect (R81). -/
def releaseBlock (s : State) (b : Nat) : State :=
  if (s.block b).suspect then
    let s' := s.setBlock b { cls := .bad, link := none, suspect := true }
    { s' with lib := { s'.lib with badSet := addBad b s'.lib.badSet } }
  else
    let s' := s.setBlock b BlockEntry.blank
    { s' with lib := { s'.lib with freeList := s'.lib.freeList ++ [b] } }

/-- The blocks of a list that a release retires. -/
def retiredOf (s : State) (bs : List Nat) : List Nat := bs.filter fun b => (s.block b).suspect

/-- The blocks leave their chain in order; a release that retires a block raises a STORE notice (R81). -/
def releaseBlocks (m : MoveIx) (bs : List Nat) (s : State) : State :=
  let s' := bs.foldl releaseBlock s
  if (retiredOf s bs).length = 0 then s' else raise (.storeRetired m (retiredOf s bs).length) s'

/-! ### The console transaction ends (R89, R92, R94) -/

/-- The fields of the reply that ends a transaction: the keys stored, or the keys read as a list. -/
def TxnWork.fields : TxnWork → List Byte
  | .put _ n => u8 n
  | .read _ _ got => encList encKey got

/-- The transaction ends with a result code, and its reply is ready (R89). -/
def endTxn (c : Result) (s : State) : State :=
  match s.txn with
  | none => s
  | some t => readyReply t.via ({ code := c, fields := t.work.fields : Reply }).bytes { s with txn := none }

/-! ### Emptying an entry (R79, R84, R94) -/

/-- The entry the access reads, if it is a read. -/
def Access.reads? : Access → Option MoveIx
  | .fetch _ m _ _ _ => some m
  | .consoleRead m _ _ _ => some m
  | .recorderWrite .. => none
  | .consoleWrite .. => none

/-- A read of entry `m` in progress will deliver no key (R84). -/
def releaseServing (m : MoveIx) (s : State) : State :=
  match s.port.serving with
  | some v =>
    if v.access.reads? = some m then { s with port := { s.port with serving := some { v with released := true } } } else s
  | none => s

/-- A transaction on entry `m` whose access waits is withdrawn and ends with NOT_FOUND (R94). -/
def abandonTxn (m : MoveIx) (s : State) : State :=
  match s.txn, s.port.waitConsole with
  | some t, some _ =>
    if t.move = m then endTxn .notFound { s with port := { s.port with waitConsole := none } } else s
  | _, _ => s

/-- The entry becomes EMPTY: its chain is released and every field takes the value of R79. -/
def emptyEntry (m : MoveIx) (s : State) : State :=
  let s' := releaseBlocks m (s.chain (s.entry m)) s
  abandonTxn m (releaseServing m (s'.setEntry m Entry.blank))

/-! ### The Recorder's closes (R87, R148, R149) -/

/-- The Recorder becomes IDLE: decimation, shape and skipped keep the values of the last take (R140). -/
def Recorder.toIdle (r : Recorder) : Recorder :=
  { r with state := .idle, move := none, mask := none, frames := none, lastQueued := none, fifo := [], outstanding := false }

/-- The close and the store-full close (R87): READY with 2 keys or more, EMPTY with fewer. -/
def closeEntry (m : MoveIx) (storeFull : Bool) (s : State) : State :=
  let e := s.entry m
  if 2 ≤ e.keys then
    s.setEntry m { e with
      state := .ready, writer := none, flags := { e.flags with storeFull := e.flags.storeFull || storeFull } }
  else emptyEntry m s

/-- A take is closed (R148, R149): the entry is closed, the Recorder becomes IDLE and a RECORD notice tells it. -/
def closeTake (c : CloseCause) (s : State) : State :=
  match s.recorder.move with
  | none => s
  | some m =>
    let e := s.entry m
    let s' := closeEntry m (decide (c = .storeFull)) s
    raise (.recordClosed m c (s'.entry m).state e.keys e.endTime s.recorder.skipped)
      { s' with recorder := s'.recorder.toIdle }

/-! ### Storing a key (R80) -/

/-- The new last block of entry `m`: linked after the old one, or the entry's first (R80). -/
def appendBlock (m : MoveIx) (b : Nat) (s : State) : State :=
  let e := s.entry m
  let s1 := s.setBlock b { cls := .chained, link := none, suspect := false }
  match e.last with
  | some l =>
    let s2 := s1.setBlock l { s1.block l with link := some b }
    s2.setEntry m { e with last := some b }
  | none => s1.setEntry m { e with first := some b, last := some b }

/-- Allocation at the grant of a write (R80): none when a block is needed and the free list is empty. -/
def allocate? (m : MoveIx) (s : State) : Option State :=
  if (s.entry m).keys % Config.slots = 0 then
    match s.lib.freeList with
    | [] => none
    | b :: t => some (appendBlock m b { s with lib := { s.lib with freeList := t } })
  else some s

/-- The completion of a write: the key is in its slot, the key count rises by 1, the end time is the key's (R80). -/
def storeKey (m : MoveIx) (k : Key) (s : State) : State :=
  let e := s.entry m
  let s' :=
    match e.last with
    | some b => s.setSlot b (e.keys % Config.slots) { key := k, health := .good }
    | none => s
  s'.setEntry m { e with keys := e.keys + 1, endTime := some k.time }

/-- The key order a writer must satisfy: the first key at time 0, each later one after the end time (R80). -/
def keyInOrder (e : Entry) (k : Key) : Bool :=
  if e.keys = 0 then decide (k.time = 0) else decide (e.endTime.getD 0 < k.time)

/-! ### The key store port (R82, R83) -/

/-- The port serves an access. -/
def serve (a : Access) (s : State) : State :=
  { s with port := { s.port with serving := some { access := a, wanted := true, released := false } } }

/-- A grant (R83). A write that needs a block while the free list is empty fails: the Recorder's ends its take (R149), the
console's ends its transaction (R92), and the port stays FREE. -/
def grant (a : Access) (s : State) : State :=
  match a with
  | .fetch .. => serve a s
  | .consoleRead .. => serve a s
  | .recorderWrite m _ =>
    match allocate? m s with
    | some s' => serve a s'
    | none => closeTake .storeFull s
  | .consoleWrite m _ =>
    match allocate? m s with
    | some s' => serve a s'
    | none => endTxn .storeFull s

/-- The waiting request of highest priority (Table 4-5), taken out of the waiting set. -/
def KeyPort.next? (p : KeyPort) : Option (Access × KeyPort) :=
  match p.waitA, p.waitB, p.waitRecorder, p.waitConsole with
  | some a, _, _, _ => some (a, { p with waitA := none })
  | none, some a, _, _ => some (a, { p with waitB := none })
  | none, none, some a, _ => some (a, { p with waitRecorder := none })
  | none, none, none, some a => some (a, { p with waitConsole := none })
  | none, none, none, none => none

/-- The arbiter (R83): while the port is FREE it grants the waiting request of highest priority, and again after a write that
fails at its grant. Four requesters wait at most, so `n` of 5 is enough. -/
def arbitrate : Nat → State → State
  | 0, s => s
  | n + 1, s =>
    match s.port.serving with
    | some _ => s
    | none =>
      match s.port.next? with
      | none => s
      | some (a, p) => arbitrate n (grant a { s with port := p })

/-- The request joins the waiting set, one place per requester (R82). -/
def KeyPort.await (p : KeyPort) (a : Access) : KeyPort :=
  match a with
  | .fetch .a _ _ _ _ => { p with waitA := some a }
  | .fetch .b _ _ _ _ => { p with waitB := some a }
  | .recorderWrite .. => { p with waitRecorder := some a }
  | .consoleWrite .. => { p with waitConsole := some a }
  | .consoleRead .. => { p with waitConsole := some a }

/-- A request arrives at the port: granted at once while it is FREE, and otherwise it waits (R83). -/
def requestPort (a : Access) (s : State) : State :=
  match s.port.serving with
  | none => arbitrate 5 { s with port := s.port.await a }
  | some _ => { s with port := s.port.await a }

/-! ### The next access of the console transaction (R92, R94) -/

/-- The position of key `index` in the store: block and slot (R74). -/
def State.keyPlace (s : State) (m : MoveIx) (index : Nat) : Nat × Nat :=
  ((s.chain (s.entry m)).getD (index / Config.slots) 0, index % Config.slots)

/-- The transaction goes on: the next key is tested and its access requested, or the transaction ends (R92, R94). -/
def consoleStep (s : State) : State :=
  match s.txn with
  | none => s
  | some t =>
    match t.work with
    | .put [] _ => endTxn .ok s
    | .put (k :: _) _ => if keyInOrder (s.entry t.move) k then requestPort (.consoleWrite t.move k) s else endTxn .badOrder s
    | .read index left _ =>
      if left = 0 then endTxn .ok s
      else if (s.entry t.move).state = .empty then endTxn .notFound s
      else requestPort (.consoleRead t.move index (s.keyPlace t.move index).1 (s.keyPlace t.move index).2) s

/-! ### Reads (R75, R85, R86) -/

/-- What a later read of the slot finds, once this one has found `b`: an error stays until the slot is written again (R75). -/
def worse (a b : KeyCheck) : KeyCheck :=
  match a, b with
  | .damaged, _ => .damaged
  | _, .damaged => .damaged
  | .corrected, _ => .corrected
  | _, .corrected => .corrected
  | .good, .good => .good

/-- The outcome of a read of a slot whose check now finds `c`. -/
def State.readOutcome (s : State) (block slot : Nat) (c : KeyCheck) : KeyCheck := worse (s.slot block slot).health c

/-- The fault report of a read (R85). -/
def keyFault (kind : FaultKind) (m : MoveIx) (index : Nat) (p : Option PlayerId) (s : State) : FaultRecord :=
  { kind := kind, axis := none, player := p, frame := s.timer.number, setpoint := none, actual := none, code := none,
    move := some m, index := some index }

/-- The reports of a read, before its outcome is delivered (R85). -/
def reportRead (m : MoveIx) (index block : Nat) (p : Option PlayerId) (c : KeyCheck) (s : State) : State :=
  match c with
  | .good => s
  | .corrected => raise (.storeRead .corrected m index block) (faultReport (keyFault .keyCorrected m index p s) s)
  | .damaged =>
    let s1 := s.setEntry m { s.entry m with flags := { (s.entry m).flags with damaged := true } }
    let s2 := s1.setBlock block { s1.block block with suspect := true }
    raise (.storeRead .damaged m index block) (faultReport (keyFault .keyDamaged m index p s2) s2)

/-- The completion of a read at the library (R75, R85): what its check found stays with the slot, and it is reported. -/
def finishRead (m : MoveIx) (index block slot : Nat) (p : Option PlayerId) (c : KeyCheck) (s : State) : State :=
  let s' := s.setSlot block slot { s.slot block slot with health := s.readOutcome block slot c }
  reportRead m index block p (s.readOutcome block slot c) s'

/-- What the completion of an access does at the library's own tables (R80, R84, R85); a read whose entry has become EMPTY
does nothing. -/
def finishAccess (v : Serving) (c : KeyCheck) (s : State) : State :=
  match v.access with
  | .recorderWrite m k => storeKey m k s
  | .consoleWrite m k => storeKey m k s
  | .fetch p m index block slot => if v.released then s else finishRead m index block slot (some p) c s
  | .consoleRead m index block slot => if v.released then s else finishRead m index block slot none c s

/-- The position of the key that follows the one in `block` and `slot` (R86). -/
def State.following (s : State) (block slot : Nat) : Option (Nat × Nat) :=
  if slot + 1 < Config.slots then some (block, slot + 1) else (s.block block).link.map fun b => (b, 0)

/-! ### The Recorder's writes (R146) -/

/-- The Recorder requests the write of its FIFO head when it is RECORDING or CLOSING, holds a key and has no write
outstanding (R146). -/
def recorderWrite (s : State) : State :=
  match s.recorder.move, s.recorder.fifo with
  | some m, k :: _ =>
    if (s.recorder.state = .recording ∨ s.recorder.state = .closing) ∧ s.recorder.outstanding = false then
      requestPort (.recorderWrite m k) { s with recorder := { s.recorder with outstanding := true } }
    else s
  | _, _ => s

/-- The outcome of the Recorder's write (R146): write outstanding is clear and the head is popped. -/
def deliverRecorder (s : State) : State :=
  { s with recorder := { s.recorder with outstanding := false, fifo := s.recorder.fifo.tail } }

/-- The Recorder's next request: the close of a CLOSING take whose FIFO is empty (R148, R87), and otherwise the write of its
FIFO head (R146). After a write it is taken once the arbiter has acted on the completion, as R82 says of every request that
the grantee makes on the outcome. -/
def recorderNext (s : State) : State :=
  if s.recorder.state = .closing ∧ s.recorder.fifo = [] then closeTake s.recorder.cause s else recorderWrite s

/-- The outcome of a console write (R92). -/
def deliverConsoleWrite (s : State) : State :=
  match s.txn with
  | some t =>
    match t.work with
    | .put left n => { s with txn := some { t with work := .put left.tail (n + 1) } }
    | .read .. => s
  | none => s

/-- The outcome of a console read (R94): a key, DAMAGED, or NOT_FOUND when the entry has become EMPTY. -/
def deliverConsoleRead (released : Bool) (c : KeyCheck) (k : Key) (s : State) : State :=
  match s.txn with
  | some t =>
    match t.work with
    | .read index left got =>
      if released then endTxn .notFound s
      else if c = .damaged then endTxn .damaged s
      else { s with txn := some { t with work := .read (index + 1) (left - 1) (got ++ [k]) } }
    | .put .. => s
  | none => s

end Sys2Proof.Machine
end

