-- ==== Sys2Proof/Machine/Operands.lean ====
section
/-! DEFINITION. The operands of requests: each check says whether the number sent is a value its rule allows (R199: a value
that the encoding can carry but its rule does not allow is refused BAD_VALUE by the owning block). -/

namespace Sys2Proof.Machine

/-- The index `x` of a table of `n` entries, none outside it. -/
def indexOf? (n x : Nat) : Option (Fin n) := if h : x < n then some ⟨x, h⟩ else none

/-- A move id, 1 to 32 (Note 2 to Table 4-3). -/
def moveOf? (id : Nat) : Option MoveIx := if id = 0 then none else indexOf? 32 (id - 1)

/-- A channel: A is 0 and B is 1 (R102). -/
def channelOf? : Nat → Option PlayerId
  | 0 => some .a
  | 1 => some .b
  | _ => none

/-- An axis mask: non-empty, naming no index outside 0 to 7 (Table 0-4). -/
def maskOf? (m : Nat) : Option Mask := if 0 < m ∧ m < 256 then some (BitVec.ofNat 8 m) else none

/-- A source (R37). -/
def sourceOf? : Nat → Option Source
  | 0 => some .live
  | 1 => some .playA
  | 2 => some .playB
  | _ => none

/-- A shape (R91). -/
def shapeOf? : Nat → Option Shape
  | 0 => some .linear
  | 1 => some .ease
  | 2 => some .step
  | _ => none

/-- A curve (Table 9-1). -/
def curveOf? : Nat → Option Curve
  | 0 => some .linear
  | 1 => some .square
  | 2 => some .mixed
  | _ => none

/-- A stick mode (Table 9-1). -/
def modeOf? : Nat → Option StickMode
  | 0 => some .liveOnly
  | 1 => some .trim
  | _ => none

/-- A boolean: 0 for clear and 1 for set (R199). -/
def boolOf? : Nat → Option Bool
  | 0 => some false
  | 1 => some true
  | _ => none

/-- A trigger action (R168). -/
def actionOf? : Nat → Option TriggerAction
  | 0 => some .none
  | 1 => some .cueGo
  | 2 => some .pauseAll
  | 3 => some .resumePlay
  | 4 => some .takeOver
  | 5 => some .report
  | _ => none

/-- The number lies within `lo` to `hi`. -/
def within (lo hi x : Nat) : Bool := decide (lo ≤ x) && decide (x ≤ hi)

/-- A printable character (Note 1 to Table 4-3). -/
def printable (c : Nat) : Bool := within 32 126 c

/-- A name of `lo` to 12 printable characters (R90, R130). -/
def nameOk (lo : Nat) (name : List Nat) : Bool := within lo 12 name.length && name.all printable

/-- A bound of a zone (R57, check 3). -/
def boundOk : WireBound → Bool
  | none => true
  | some (lo, hi) => decide (lo ≤ hi) && inPosRange lo && inPosRange hi

/-- A key of PUT_KEYS whose time and shape are in range (R91, check 4). -/
def keyOf? (k : WireKey) : Option Key :=
  match shapeOf? k.shape with
  | none => none
  | some sh => if k.time ≤ Config.maxTime then some { time := k.time, shape := sh, positions := k.positions } else none

/-- The keys of PUT_KEYS, none if one of them is out of range. -/
def keysOf? : List WireKey → Option (List Key)
  | [] => some []
  | k :: t =>
    match keyOf? k, keysOf? t with
    | some x, some xs => some (x :: xs)
    | _, _ => none

/-- A cue step whose kind is one of Table 8-1 and whose operands are in range (R156, check 3). -/
def stepOf? (w : WireStep) : Option CueStep :=
  match w.kind with
  | 0 =>
    match channelOf? w.op0, moveOf? w.op1 with
    | some p, some m => if w.op2 + 256 * w.op3 ≤ 512 then some (.load p m (w.op2 + 256 * w.op3)) else none
    | _, _ => none
  | 1 =>
    match channelOf? w.op0, indexOf? 64 w.op1 with
    | some p, some k => if within 1 65535 (w.op2 + 256 * w.op3) then some (.goTo p k (w.op2 + 256 * w.op3)) else none
    | _, _ => none
  | 2 => (channelOf? w.op0).map .run
  | 3 =>
    match maskOf? w.op0, sourceOf? w.op1 with
    | some m, some t => if w.op2 + 256 * w.op3 ≤ 65535 then some (.fade m t (w.op2 + 256 * w.op3)) else none
    | _, _ => none
  | 4 => (channelOf? w.op0).map .stopPlay
  | 5 =>
    match moveOf? w.op0, maskOf? w.op1 with
    | some m, some k => if within 1 64 w.op2 then some (.record m k w.op2) else none
    | _, _ => none
  | 6 => some .endRec
  | 7 => if w.op0 ≤ 255 then some (.waitTrigger w.op0) else none
  | 8 => if within 1 65535 (w.op0 + 256 * w.op1) then some (.waitFrames (w.op0 + 256 * w.op1)) else none
  | 9 => (channelOf? w.op0).map .waitEnd
  | 10 =>
    match indexOf? 64 w.op0 with
    | some k =>
      if w.op1 + 256 * w.op2 + 65536 * w.op3 ≤ 1000000 then some (.waitAt k (w.op1 + 256 * w.op2 + 65536 * w.op3)) else none
    | none => none
  | 11 =>
    match indexOf? 48 w.op0 with
    | some t => if within 1 255 w.op1 then some (.loop t w.op1) else none
    | none => none
  | 12 => if w.op0 ≤ 255 then some (.note w.op0) else none
  | 13 => some .finish
  | _ => none

/-- The steps of PUT_CUE, or how many steps stand before the first that fails (R156, check 3). -/
def stepsOf? : List WireStep → Except Nat (List CueStep)
  | [] => .ok []
  | w :: t =>
    match stepOf? w with
    | none => .error 0
    | some c =>
      match stepsOf? t with
      | .ok cs => .ok (c :: cs)
      | .error n => .error (n + 1)

/-- An optional stick channel, 0 to 7 or none (Table 9-1). -/
def stickChannelOf? : Option Nat → Option (Option (Fin 8))
  | none => some none
  | some c =>
    match indexOf? 8 c with
    | some j => some (some j)
    | none => none

/-- The first field of SET_AXIS that lies outside its range, by its place in Table 9-1 counted from 0 (R173, check 3). -/
def badField? (w : WireAxis) : Option Nat :=
  if !(inPosRange w.softMin) then some 0
  else if inPosRange w.softMax && decide (w.softMax ≤ w.softMin) then some 0
  else if !(inPosRange w.softMax) then some 1
  else if !(within 0 1000000 w.band) then some 2
  else if !(within 1 65535 w.vmax) then some 3
  else if !(within 1 4095 w.amax) then some 4
  else if !(within 0 65535 w.vstick) then some 5
  else if (stickChannelOf? w.channel).isNone then some 6
  else if (boolOf? w.invert).isNone then some 7
  else if !(within 0 512 w.deadband) then some 8
  else if (curveOf? w.curve).isNone then some 9
  else if (modeOf? w.mode).isNone then some 10
  else if !(within 0 1000000 w.trimMax) then some 11
  else if !(within 1 1000000 w.feLimit) then some 12
  else if (boolOf? w.tipScaled).isNone then some 13
  else if !(within 1 15 (w.missLimit.getD 3)) then some 14
  else none

/-- The configuration record of a SET_AXIS whose fields are in range; an absent miss_limit stores 3 (R173). -/
def configOf (w : WireAxis) : AxisConfig :=
  { softMin := w.softMin, softMax := w.softMax, band := w.band, vmax := w.vmax, amax := w.amax, vstick := w.vstick,
    channel := (stickChannelOf? w.channel).getD none, invert := (boolOf? w.invert).getD false, deadband := w.deadband,
    curve := (curveOf? w.curve).getD .linear, mode := (modeOf? w.mode).getD .liveOnly, trimMax := w.trimMax,
    feLimit := w.feLimit, tipScaled := (boolOf? w.tipScaled).getD false, missLimit := w.missLimit.getD 3 }

/-- A rate binding, none, or out of range (R112). -/
def bindingOf? : Option (Nat × Nat) → Option (Option Binding)
  | none => some none
  | some (c, span) =>
    match indexOf? 8 c with
    | some j => if span ≤ 256 then some (some { channel := j, span := span }) else none
    | none => none

end Sys2Proof.Machine
end

