-- ==== Sys2Proof/Machine/Link.lean ====
section
/-! DEFINITION. The Console Link (chapter 11): the receive framer, the request queue, the refusal list, the delivery of a
request and its answer. -/

namespace Sys2Proof.Machine

/-! ### The receive framer (R195) -/

/-- A discard: the framer is HUNTING and one LINK notice tells the cause (R195). -/
def discardFrame (c : LinkCause) (s : State) : State :=
  raise (.link c) { s with link := { s.link with framer := none } }

/-- The lowest free place of the request queue. -/
def Link.freeSlot (l : Link) : Nat :=
  (([0, 1, 2, 3] : List Nat).find? fun k => l.places.all fun p => decide (p.slot ≠ k)).getD 4

/-- The entries of the refusal list (R198): the QUEUE_FULL replies not yet taken. -/
def Link.refusals (l : Link) : List (Nat × Nat) :=
  l.ready.filterMap fun r =>
    match r with
    | .refusal k t => some (k, t)
    | _ => none

/-- A good request arrives (R196, R198): it takes a free place as WAITING, or joins the refusal list, or is discarded. -/
def requestArrival (kind tag : Nat) (payload : List Byte) (s : State) : State :=
  if s.link.places.length < Config.queueDepth then
    { s with link := { s.link with
        places := s.link.places ++ [{ slot := s.link.freeSlot, kind := kind, tag := tag, payload := payload, state := .waiting }] } }
  else if s.link.refusals.length < Config.refusalDepth then
    { s with link := { s.link with ready := s.link.ready ++ [.refusal kind tag] } }
  else raise (.link .overrun) s

/-- A completed frame (R195): discarded with cause CHECK or KIND, or a request. -/
def completeFrame (kind tag : Nat) (payload : List Byte) (check : Nat) (s : State) : State :=
  if check ≠ consoleCheck kind tag payload then discardFrame .check s
  else if 128 ≤ kind then discardFrame .kind s
  else requestArrival kind tag payload { s with link := { s.link with framer := none } }

/-- A byte at the receive framer (R195). -/
def consoleReceive (b : Byte) (framingError : Bool) (s : State) : State :=
  match s.link.framer with
  | none =>
    if framingError = false ∧ b = 0x5C#8 then { s with link := { s.link with framer := some [b] } } else s
  | some buf =>
    let l := buf ++ [b]
    if framingError then discardFrame .framing s
    else if l.length = 2 ∧ Config.maxPayload < fieldN l 1 1 then discardFrame .length s
    else if 2 ≤ l.length ∧ l.length = 6 + fieldN l 1 1 then
      completeFrame (fieldN l 2 1) (fieldN l 3 1) ((l.drop 4).take (fieldN l 1 1)) (fieldN l (4 + fieldN l 1 1) 2) s
    else { s with link := { s.link with framer := some l } }

/-- A gap of more than 200 µs while ASSEMBLING abandons the frame (R195). -/
def consoleGap (s : State) : State :=
  match s.link.framer with
  | some _ => discardFrame .gap s
  | none => s

/-- CONSOLE_BYTE: one byte on the console link (R195). -/
def execConsoleByte (byte : Byte) (framingError : Bool) (s : State) : Host.Outcome State Fault Refusal :=
  event (consoleReceive byte framingError) s

/-- CONSOLE_GAP_TIMEOUT (R195). -/
def execConsoleGapTimeout (s : State) : Host.Outcome State Fault Refusal := event consoleGap s

/-- REQUEST_FRAME: the framer completes a frame of these fields (R195, R196, R198); a length byte above 240 abandons it. -/
def execRequestFrame (kind tag : Nat) (payload : List Byte) (check : Nat) (s : State) : Host.Outcome State Fault Refusal :=
  event (fun s => if Config.maxPayload < payload.length then discardFrame .length s else completeFrame kind tag payload check s) s

/-! ### Delivery (R196) -/

/-- The oldest WAITING request. -/
def Link.oldest? (l : Link) : Option Place := l.places.find? fun p => decide (p.state = .waiting)

/-- The number of axes of the mask of entry `id`, 0 where it has none. -/
def State.axesOf (s : State) (id : Nat) : Nat :=
  match moveOf? id with
  | some m => ((s.entry m).mask.map Mask.count).getD 0
  | none => 0

/-- What a WAITING place asks for (R196). -/
def State.decoded (s : State) (p : Place) : Decoded := decodeRequest s.axesOf p.kind p.payload

/-- Where the reply of request `i` goes: to the oldest WAITING place when that place holds it, and straight to the
transmitter's order otherwise. -/
def State.via (s : State) (i : Instr) : Via :=
  match s.link.oldest? with
  | some p => if s.decoded p = .request i then .place p.slot else .direct ((requestKind i).getD 0)
  | none => .direct ((requestKind i).getD 0)

/-- The place of a request whose block has not yet answered is HELD (R196). -/
def holdPlace (via : Via) (s : State) : State :=
  match via with
  | .place k =>
    { s with link := { s.link with places := s.link.places.map fun p => if p.slot = k then { p with state := .held } else p } }
  | .direct _ => s

/-- Requests are delivered while the part has main power and no RESTART has been delivered (R202). -/
def State.delivers (s : State) : Bool := s.power.on && s.link.delivering

/-- The delivery of a request to its block, taken whole; `act` answers it, or gives none when its reply comes later or has
become ready already. DESIGN CHOICE (log 42): a reply of another request that its effect makes ready, as when a RECORD_STOP
empties an entry for which a READ_KEYS waits, is ready before its own. -/
def request (i : Instr) (act : Via → State → State × Option Reply) (s : State) : Host.Outcome State Fault Refusal :=
  if s.delivers then
    match act (s.via i) s with
    | (s', some r) => .next (pump (readyReply (s.via i) r.bytes s'))
    | (s', none) => .next (pump s')
  else .next s

/-- The delivery of a request that its block answers within the request. -/
def answered (i : Instr) (act : State → State × Reply) (s : State) : Host.Outcome State Fault Refusal :=
  request i (fun _ s => ((act s).1, some (act s).2)) s

/-- The delivery of a query: its block returns fields and changes nothing. -/
def query (i : Instr) (fields : State → List Byte) (s : State) : Host.Outcome State Fault Refusal :=
  answered i (fun s => (s, { code := .ok, fields := fields s })) s

/-- A request answered at the Console Link's own check: UNKNOWN_KIND or BAD_LENGTH (R196). -/
def answerUndelivered (p : Place) (c : Result) (s : State) : State := pump (readyReply (.place p.slot) (Reply.bare c).bytes s)

/-- OK or the refusal `c`, with a state that is changed only when OK. -/
def refuse (c : Result) (s : State) : State × Reply := (s, Reply.bare c)

/-- Accepted with the result code alone. -/
def accept (s : State) : State × Reply := (s, Reply.bare .ok)

end Sys2Proof.Machine
end

