-- ==== Sys2Proof/Machine/Stick.lean ====
section
/-! DEFINITION. The Stick Port's shaping, interlock and stale timer (chapter 1). The frame receiver and the arrival of a
frame stand in Machine/Panel.lean, where the actions of the trigger table are known. -/

namespace Sys2Proof.Machine

/-! ### Shaping (R13 to R15) -/

/-- The first stage: the deadband is removed and the rest rescaled (R13). -/
def deadbandStage (j : Int) (deadband : Nat) : Nat :=
  if j.natAbs ≤ deadband then 0 else (j.natAbs - deadband) * 32767 / (2047 - deadband)

/-- The second stage: the curve (R14). -/
def Curve.apply (c : Curve) (m : Nat) : Nat :=
  match c with
  | .linear => m
  | .square => m * m / 32767
  | .mixed => (m + m * m / 32767) / 2

/-- A magnitude with the sign of `j`. -/
def withSign (j : Int) (m : Nat) : Int := if j < 0 then - (m : Int) else (m : Int)

/-- The shaped sample of an axis: deadband, curve, sign and invert flag (R13, R14). -/
def shape (deadband : Nat) (c : Curve) (invert : Bool) (j : Int) : Int :=
  let d := withSign j (c.apply (deadbandStage j deadband))
  if invert then - d else d

/-- Whether a channel gives demand: the port is LIVE and the channel is not in CENTRED_WAIT (R14). -/
def StickPort.gives (p : StickPort) (ch : Fin 8) : Bool := decide (p.port = .live) && decide (p.channels[ch] = .live)

/-- The demand d of an axis (R14): 0 without a stick channel, in CENTRED_WAIT and in STALE. -/
def StickPort.axisDemand (p : StickPort) (c : AxisConfig) : Int :=
  match c.channel with
  | none => 0
  | some ch => if p.gives ch then shape c.deadband c.curve c.invert p.held[ch] else 0

/-- The demand of a channel for a rate binding: deadband 64, LINEAR, no inversion (R15). -/
def StickPort.channelDemand (p : StickPort) (ch : Fin 8) : Int :=
  if p.gives ch then shape Config.freeDeadband .linear false p.held[ch] else 0

/-! ### The channel interlock (R10, R11) -/

/-- The axis's record names the channel. -/
def Axis.boundTo (a : Axis) (ch : Fin 8) : Bool :=
  match a.cfg with
  | some c => decide (c.channel = some ch)
  | none => false

/-- The deadbands of the axes bound to a channel. -/
def State.boundDeadbands (s : State) (ch : Fin 8) : List Nat :=
  allAxes.filterMap fun i => if (s.axis i).boundTo ch then (s.axis i).cfg.map (·.deadband) else none

/-- The threshold of a channel: the smallest deadband of its bound axes, 64 with none (R10). -/
def State.threshold (s : State) (ch : Fin 8) : Nat :=
  match s.boundDeadbands ch with
  | [] => Config.freeDeadband
  | d :: t => t.foldl min d

/-- The test of R10 at a valid arrival: a channel in CENTRED_WAIT whose held sample lies within its threshold becomes LIVE. -/
def State.released (s : State) (ch : Fin 8) : ChannelState :=
  if s.stick.channels[ch] = .centredWait ∧ s.stick.held[ch].natAbs ≤ s.threshold ch then .live else s.stick.channels[ch]

/-! ### The stale timer (R6, R7) -/

/-- The port after the expiry of the stale timer (R7). -/
def StickPort.expired (p : StickPort) : StickPort :=
  { p with port := .stale, elapsed := 0, seq := none, channels := Vector.replicate 8 .centredWait }

/-- The expiry of the stale timer in LIVE (R7); the timer of a STALE port is stopped. -/
def staleExpire (s : State) : State :=
  if s.stick.port = .live then raise (.stick .stale none) { s with stick := s.stick.expired } else s

/-- STALE_TIMEOUT. -/
def execStaleTimeout (s : State) : Host.Outcome State Fault Refusal := event staleExpire s

end Sys2Proof.Machine
end

