-- ==== Sys2Proof/Machine/PlayerCore.lean ====
section
/-! DEFINITION. What a player does on its own (chapter 5): fetching, the segment, the position request, becoming IDLE and
the reference-clear arrival. -/

namespace Sys2Proof.Machine

/-! ### Notices (R126) -/

/-- A PLAYER notice of the state just entered (R126). -/
def playerNotice (p : PlayerId) (s : State) : State :=
  let r := s.player p
  raise (.player p r.state r.source? (r.time / 256) r.faultKey) s

/-! ### Fetching (R107) -/

/-- Keys remain: the next index of the cursor is below the key count (Note 3 to Table 5-1). -/
def Player.keysRemain (r : Player) : Bool :=
  match r.cursor, r.keyCount with
  | some c, some n => decide (c.index < n)
  | _, _ => false

/-- The segment or the FIFO has room (R107). -/
def Player.hasRoom (r : Player) : Bool :=
  r.startKey.isNone || r.endKey.isNone || decide (r.fifo.length < Config.fifoDepth)

/-- The states that fetch (Table 5-2). -/
def Player.fetches (r : Player) : Bool :=
  decide (r.state = .loaded ∨ r.state = .running ∨ r.state = .paused ∨ r.state = .starved)

/-- A player requests a fetch when all conditions of R107 hold. DESIGN CHOICE (log 30): the fetch still being served for what
the player held before it became IDLE is not outstanding any more (R125), so a player loaded again asks at once (R104), and
its new fetch waits beside that one. -/
def fetchIfRoom (p : PlayerId) (s : State) : State :=
  let r := s.player p
  match r.move, r.cursor with
  | some m, some c =>
    if r.fetches && !r.outstanding && r.keysRemain && r.hasRoom then
      requestPort (.fetch p m c.index c.block c.slot) (s.setPlayer p { r with outstanding := true })
    else s
  | _, _ => s

/-- A waiting fetch of the player is withdrawn (R84). -/
def KeyPort.withdraw (q : KeyPort) (p : PlayerId) : KeyPort :=
  match p with
  | .a => { q with waitA := none }
  | .b => { q with waitB := none }

/-- The player's fetch waits at the port. -/
def KeyPort.fetchWaits (q : KeyPort) (p : PlayerId) : Bool :=
  match p with
  | .a => q.waitA.isSome
  | .b => q.waitB.isSome

/-- The access is a fetch of the player. -/
def Access.isFetchOf (a : Access) (p : PlayerId) : Bool :=
  match a with
  | .fetch q _ _ _ _ => decide (q = p)
  | _ => false

/-- The outcome of a fetch of the player now in progress will not be wanted (R84, R109). -/
def KeyPort.disown (q : KeyPort) (p : PlayerId) : KeyPort :=
  match q.serving with
  | some v => if v.access.isFetchOf p then { q with serving := some { v with wanted := false } } else q
  | none => q

/-! ### Becoming IDLE (R125) -/

/-- The record of a player that has become IDLE: rate and binding are kept (R125). -/
def Player.toIdle (r : Player) : Player := { Player.reset with rate := r.rate, binding := r.binding }

/-- The player becomes IDLE (R125): the claim is returned, a waiting fetch withdrawn, the record cleared. -/
def becomeIdle (p : PlayerId) (s : State) : State :=
  let r := s.player p
  let s1 :=
    match r.move with
    | some m => s.setEntry m { s.entry m with users := (s.entry m).users - 1 }
    | none => s
  { s1 with port := (s1.port.withdraw p).disown p }.setPlayer p r.toIdle

/-- A reference-clear arrival (R122): a RELEASING player becomes IDLE, any other is unchanged. -/
def refClear (p : PlayerId) (s : State) : State := if (s.player p).state = .releasing then becomeIdle p s else s

/-- The arrival is sent when the count, `before` the change, has fallen from above 0 to 0 (R28). -/
def clearIfGone (p : PlayerId) (before : Nat) (s : State) : State :=
  if before ≠ 0 ∧ s.refCount p = 0 then refClear p s else s

/-- A change `s'` of the blend records of `s`, with the reference-clear arrivals it sends (R28). -/
def withClears (s s' : State) : State := clearIfGone .b (s.refCount .b) (clearIfGone .a (s.refCount .a) s')

/-! ### Interpolation (R119, R120) -/

/-- The eased fraction of 65536 (R120, steps 1 to 3). -/
def easeOf (delta span : Nat) : Nat :=
  let u := delta * 65536 / span
  let u2 := u * u / 65536
  u2 * (196608 - 2 * u) / 65536

/-- One position `delta` of `span` after the start key (R119, R120). -/
def interpolate1 (sh : Shape) (delta span : Nat) (p0 p1 : Int) : Int :=
  match sh with
  | .linear => p0 + truncDiv ((p1 - p0) * delta) span
  | .step => p0
  | .ease => p0 + truncDiv ((p1 - p0) * easeOf delta span) 65536

/-- The positions of a segment at a time (section 5.7): each axis on its own, shaped by the start key. -/
def interpolate (k0 k1 : Key) (time : Nat) : List Int :=
  (k0.positions.zip k1.positions).map fun q =>
    interpolate1 k0.shape (time - k0.time * 256) ((k1.time - k0.time) * 256) q.1 q.2

/-! ### The position request (R114 to R118) -/

/-- The segment advance (R115): the new start key, the end key if the FIFO gave one, and the FIFO left. -/
def advanceSegment (time : Nat) (k0 k1 : PlayerKey) : List PlayerKey → PlayerKey × Option PlayerKey × List PlayerKey
  | [] => if k1.key.time * 256 ≤ time then (k1, none, []) else (k0, some k1, [])
  | h :: t => if k1.key.time * 256 ≤ time then advanceSegment time k1 h t else (k0, some k1, h :: t)

/-- The rate of a request in RUNNING: recomputed by a binding (R113), as it stands without one. -/
def State.boundRate (s : State) (r : Player) : Nat :=
  match r.binding with
  | none => r.rate
  | some b => (sat 0 512 (256 + truncDiv (s.stick.channelDemand b.channel * b.span) 32767)).toNat

/-- A RUNNING player with its first segment filled after its time has risen to `time`: the segment advances (R115), and the
player goes on, starves (R116) or ends (R117). -/
def Player.advance (r : Player) (time : Nat) (k0 k1 : PlayerKey) : Player :=
  match advanceSegment time k0 k1 r.fifo with
  | (a, some b, f) =>
    { r with time := time, startKey := some a, endKey := some b, fifo := f, published := some (interpolate a.key b.key time) }
  | (a, none, f) =>
    { r with state := (if r.keysRemain then .starved else .ended), time := a.key.time * 256, startKey := some a,
             endKey := none, fifo := f, published := some a.key.positions }

/-- The position request at a RUNNING player (R114). -/
def runningRequest (p : PlayerId) (s : State) : State :=
  let r := { s.player p with rate := s.boundRate (s.player p) }
  match r.filled, r.startKey, r.endKey with
  | true, some k0, some k1 =>
    let r' := r.advance (r.time + r.rate) k0 k1
    let s' := s.setPlayer p r'
    fetchIfRoom p (if r'.state = .running then s' else playerNotice p s')
  | _, _, _ => s.setPlayer p r

/-- One position request (R114, R118): a RUNNING player advances; in every other state nothing changes. -/
def positionRequest (p : PlayerId) (s : State) : State :=
  if (s.player p).state = .running then runningRequest p s else s

/-- The answer of a player after its position request: its published positions, by axis of its mask (R24, R118); 0 for an
axis it gives no position for, which no record that names it has. -/
def Player.answer (r : Player) (i : Fin 8) : Int :=
  match r.mask, r.published with
  | some m, some ps => positionFor m ps i
  | _, _ => 0

/-! ### Placing a fetched key (R105, R108) -/

/-- The fetched key is placed as start key, end key or FIFO tail, and the cursor moves on (R108). -/
def Player.place (r : Player) (index : Nat) (k : Key) (following : Option (Nat × Nat)) : Player :=
  let cursor :=
    match r.keyCount, following with
    | some n, some (b, sl) => if index + 1 < n then some { block := b, slot := sl, index := index + 1 } else none
    | _, _ => none
  let r' := { r with outstanding := false, cursor := cursor }
  match r.startKey, r.endKey with
  | none, _ => { r' with startKey := some { index := index, key := k }, published := some k.positions }
  | some _, none =>
    { r' with endKey := some { index := index, key := k }, filled := true,
              state := if r.state = .starved then .running else r.state }
  | some _, some _ => { r' with fifo := r.fifo ++ [{ index := index, key := k }] }

/-! ### RUN and PAUSE effects (R110, R111) -/

/-- RUN at a LOADED or PAUSED player: RUNNING, or STARVED if it was paused while starved (R110). -/
def Player.runState (r : Player) : PlayerState :=
  if r.state = .paused ∧ r.filled = true ∧ r.endKey = none then .starved else .running

/-- The RUN effect (R110), after which the player applies R107. -/
def runEffect (p : PlayerId) (s : State) : State :=
  let r := s.player p
  if r.state = .loaded ∨ r.state = .paused then fetchIfRoom p (s.setPlayer p { r with state := r.runState })
  else fetchIfRoom p s

/-- The PAUSE effect (R111): a RUNNING or STARVED player becomes PAUSED. -/
def pauseEffect (p : PlayerId) (s : State) : State :=
  let r := s.player p
  if r.state = .running ∨ r.state = .starved then s.setPlayer p { r with state := .paused } else s

/-- The PAUSE effect at both players (R70, R170). -/
def pausePlayers (s : State) : State := pauseEffect .b (pauseEffect .a s)

end Sys2Proof.Machine
end

