-- ==== Sys2Proof/Machine/Blend.lean ====
section
/-! DEFINITION. The requests of the Blend Engine (chapter 2): FADE, TAKE_OVER, a player's release and drop, the cut and
seat of Axis Control, SET_FRAME, the geometry record and GET_BLEND. -/

namespace Sys2Proof.Machine

/-! ### Hand-back, release, drop (R43 to R46) -/

/-- Hand-back to every ACTIVE axis that satisfies `p` (R43), with the reference-clear arrivals it sends. -/
def handBackWhere (p : Blend → Bool) (s : State) : State :=
  withClears s (s.mapAxes fun _ a =>
    if a.state = .active ∧ p a.blend = true then { a with blend := a.blend.handBack s.geometry.releaseFrames a.out } else a)

/-- TAKE_OVER: hand-back to every ACTIVE axis (R44). -/
def takeOver (s : State) : State := handBackWhere (fun _ => true) s

/-- The release request of a player (R45). -/
def releaseRequest (p : PlayerId) (s : State) : State := handBackWhere (fun b => b.names p.source) s

/-- The drop request of a player (R45): every record that names it is cut to LIVE. -/
def dropRequest (p : PlayerId) (s : State) : State :=
  withClears s (s.mapAxes fun _ a => if a.blend.names p.source then { a with blend := a.blend.cut .live a.out } else a)

/-! ### FADE (R37 to R41) -/

/-- The states of a player that a FADE may target (R38, check 2). -/
def Player.fadable (r : Player) : Bool :=
  decide (r.state = .loaded ∨ r.state = .running ∨ r.state = .paused ∨ r.state = .starved ∨ r.state = .ended) && r.filled

/-- The axis is in the player's mask. -/
def Player.covers (r : Player) (i : Fin 8) : Bool :=
  match r.mask with
  | some m => Mask.has m i
  | none => false

/-- The four checks of one axis of a FADE, in order (R38). -/
def fadeCheck (s : State) (x : Source) (i : Fin 8) : Result :=
  let b := (s.axis i).blend
  let last := if b.fading = true ∧ x ≠ b.fromSrc then Result.busy else .ok
  if (s.axis i).state ≠ .active then .wrongState
  else
    match x.player? with
    | none => last
    | some p =>
      if (s.player p).fadable = false then .wrongState
      else if (s.player p).covers i = false then .axisNotInMove
      else last

/-- The first axis of a list that fails a check, with the code (00_scope.md, Masks and sets). -/
def firstFailing (check : Fin 8 → Result) : List (Fin 8) → Option (Fin 8 × Result)
  | [] => none
  | i :: t => if check i = .ok then firstFailing check t else some (i, check i)

/-- An accepted FADE (R39). -/
def fadeAxes (m : Mask) (x : Source) (f : Nat) (s : State) : State :=
  withClears s (s.mapAxes fun i a => if Mask.has m i then { a with blend := a.blend.fadeTo x f a.out } else a)

/-- A FADE request: the state it leaves, its result code, and the axis that failed a check (R37, R38). -/
def fadeRequest (mask target len : Nat) (s : State) : State × Result × Option (Fin 8) :=
  match maskOf? mask, sourceOf? target with
  | some m, some x =>
    if 65535 < len then (s, .badValue, none)
    else
      match firstFailing (fadeCheck s x) (Mask.axes m) with
      | some (i, c) => (s, c, some i)
      | none => (fadeAxes m x len s, .ok, none)
  | _, _ => (s, .badValue, none)

/-- FADE: the reply carries the failing axis, in every reply (Table 11-5). -/
def execFade (mask target len : Nat) (s : State) : Host.Outcome State Fault Refusal :=
  answered (.fade mask target len)
    (fun s =>
      let r := fadeRequest mask target len s
      (r.1, { code := r.2.1, fields := encAxis? r.2.2 })) s

/-- TAKE_OVER (R44). -/
def execTakeOver (s : State) : Host.Outcome State Fault Refusal := answered .takeOver (fun s => accept (takeOver s)) s

/-- FADE_COMPLETE: the record of an axis whose fade count has reached F becomes steady (R36), with the reference-clear
arrival that sends. -/
def execFadeComplete (axis : Nat) (s : State) : Host.Outcome State Fault Refusal :=
  event (fun s =>
    match indexOf? 8 axis with
    | some i => withClears s (s.modAxis i fun a => { a with blend := a.blend.completeIfDue })
    | none => s) s

/-- GET_BLEND (R42). -/
def execGetBlend (axis : Nat) (s : State) : Host.Outcome State Fault Refusal :=
  answered (.getBlend axis)
    (fun s =>
      match indexOf? 8 axis with
      | none => refuse .badValue s
      | some i =>
        let b := (s.axis i).blend
        (s, { code := .ok,
              fields := u8 b.fromSrc.code ++ u8 b.toSrc.code ++ u16 b.k ++ encOpt 2 u16 b.len ++ u16 b.weight ++ s24 b.live
                ++ s24 b.trim ++ u8 b.mode.code ++ u8 (s.refCount .a) ++ u8 (s.refCount .b) })) s

/-! ### The Frame Timer and the geometry record -/

/-- SET_FRAME (R20): the interval in progress keeps its length. -/
def execSetFrame (period : Nat) (s : State) : Host.Outcome State Fault Refusal :=
  answered (.setFrame period)
    (fun s =>
      if ¬ (period = 1 ∨ period = 2 ∨ period = 4) then refuse .badValue s
      else if s.anyAxis Axis.enabled then refuse .wrongState s
      else accept { s with timer := { s.timer with period := period } }) s

/-- GET_FRAME (R21). -/
def execGetFrame (s : State) : Host.Outcome State Fault Refusal :=
  query .getFrame (fun s => u8 s.timer.period ++ u32 s.timer.number) s

/-- The four values of a geometry record lie within their ranges (R30). -/
def Geometry.ok (g : Geometry) : Bool :=
  within 0 4000000 g.rBase && within 1 4000000 g.rRef && within 1 4000000 g.rMin && within 1 65535 g.releaseFrames

/-- SET_GEOMETRY (R30). -/
def execSetGeometry (rBase rRef rMin releaseFrames : Nat) (s : State) : Host.Outcome State Fault Refusal :=
  answered (.setGeometry rBase rRef rMin releaseFrames)
    (fun s =>
      let g : Geometry := { rBase := rBase, rRef := rRef, rMin := rMin, releaseFrames := releaseFrames }
      if g.ok then accept { s with geometry := g } else refuse .badValue s) s

/-- GET_GEOMETRY (R30). -/
def execGetGeometry (s : State) : Host.Outcome State Fault Refusal :=
  query .getGeometry (fun s => u24 s.geometry.rBase ++ u24 s.geometry.rRef ++ u24 s.geometry.rMin ++ u16 s.geometry.releaseFrames) s

end Sys2Proof.Machine
end

