-- ==== Sys2Proof/Machine/KeyAccess.lean ====
section
/-! DEFINITION. The completion of the access in progress at the key store port (R82), between output frames and within one
(R123), and what each requester does with its outcome. -/

namespace Sys2Proof.Machine

/-- A fetch outcome DAMAGED at a player in a fetching state (R123): FAULTED, the release request, a PLAYER notice. DESIGN CHOICE
(log 45): the fetch cursor is kept, although no fetch can follow (Table 5-1). -/
def playerFault (p : PlayerId) (index : Nat) (s : State) : State :=
  let r := s.player p
  playerNotice p (releaseRequest p (s.setPlayer p { r with
    state := .faulted, outstanding := false, fifo := [], faultKey := some index }))

/-- An outcome that a player discards (R109): only fetch outstanding is cleared. -/
def discardOutcome (p : PlayerId) (s : State) : State := s.setPlayer p { s.player p with outstanding := false }

/-- A DAMAGED outcome delivered while an output frame is in progress: the player takes it after the publication (R123). -/
def deferFault (p : PlayerId) (index : Nat) (s : State) : State := s.setPlayer p { s.player p with arrived := some index }

/-- The outcome of a fetch at its player (R108, R109, R123): the key as read, with the place of the key that follows.
`inFrame` tells that an output frame is in progress. -/
def deliverFetch (inFrame : Bool) (p : PlayerId) (index : Nat) (released : Bool) (c : KeyCheck) (k : Key)
    (next : Option (Nat × Nat)) (s : State) : State :=
  if (s.player p).fetches = false ∨ released = true then discardOutcome p s
  else if c = .damaged then if inFrame then deferFault p index s else playerFault p index s
  else s.setPlayer p ((s.player p).place index k next)

/-- The outcome of an access reaches its grantee (R82). -/
def deliverOutcome (inFrame : Bool) (v : Serving) (c : KeyCheck) (s : State) : State :=
  match v.access with
  | .fetch p _ index block slot =>
    if v.wanted then
      deliverFetch inFrame p index v.released (s.readOutcome block slot c) (s.slot block slot).key (s.following block slot) s
    else s
  | .recorderWrite .. => deliverRecorder s
  | .consoleWrite .. => deliverConsoleWrite s
  | .consoleRead _ _ block slot => deliverConsoleRead v.released (s.readOutcome block slot c) (s.slot block slot).key s

/-- The grantee's next request, taken after the arbiter has acted (R82). -/
def nextRequest (a : Access) (s : State) : State :=
  match a with
  | .fetch p _ _ _ _ => fetchIfRoom p s
  | .recorderWrite .. => recorderNext s
  | .consoleWrite .. => consoleStep s
  | .consoleRead .. => consoleStep s

/-- The port becomes FREE and the arbiter acts (R82, R83). -/
def freePort (s : State) : State := arbitrate 5 { s with port := { s.port with serving := none } }

/-- The completion of the access in progress (R82, R83): the library finishes it, its outcome is delivered, the port is
freed and the arbiter acts, and then the grantee may request its next access, or the Recorder the close of its take. -/
def completeAccess (inFrame : Bool) (c : KeyCheck) (s : State) : State :=
  match s.port.serving with
  | none => s
  | some v => nextRequest v.access (freePort (deliverOutcome inFrame v c (finishAccess v c s)))

/-- A completion between output frames. -/
def accessComplete (c : KeyCheck) (s : State) : State := completeAccess false c s

/-- Completions while an output frame is in progress, one after the other (R123). -/
def frameAccesses (l : List KeyCheck) (s : State) : State := l.foldl (fun s c => completeAccess true c s) s

/-- After the publication a player takes the DAMAGED outcome delivered to it in the frame (R123), by the state it is then in: in
one that does not fetch, which a STOPPLAY step may have left it in, it discards the outcome (R109). -/
def takeArrived (p : PlayerId) (s : State) : State :=
  match (s.player p).arrived with
  | none => s
  | some index =>
    let s' := s.setPlayer p { s.player p with arrived := none }
    if (s'.player p).fetches then playerFault p index s' else discardOutcome p s'

/-- KEY_ACCESS_COMPLETE: with the port FREE nothing completes. -/
def execKeyAccessComplete (check : KeyCheck) (s : State) : Host.Outcome State Fault Refusal :=
  event (accessComplete check) s

end Sys2Proof.Machine
end

