-- ==== Sys2Proof/Machine/Players.lean ====
section
/-! DEFINITION. The requests of the players (chapter 5): LOAD, RUN, PAUSE, STOP, SET_RATE and GET_PLAYER. -/

namespace Sys2Proof.Machine

/-! ### LOAD (R88, R104) -/

/-- The check of a claim on a move (R88). -/
def claimCheck (e : Entry) : Result :=
  if e.state = .empty then .notFound
  else if e.state ≠ .ready then .wrongState
  else if e.flags.damaged then .damaged
  else .ok

/-- The record of a player that has accepted a LOAD (R104). -/
def Player.loaded (r : Player) (m : MoveIx) (e : Entry) (rate : Nat) : Player :=
  { Player.reset with
    state := .loaded, move := some m, mask := e.mask, keyCount := some e.keys, rate := rate, binding := r.binding,
    cursor := e.first.map fun b => { block := b, slot := 0, index := 0 } }

/-- A LOAD request: the state it leaves and its result code (R104). -/
def loadRequest (channel id rate : Nat) (s : State) : State × Result :=
  match channelOf? channel, moveOf? id with
  | some p, some m =>
    if 512 < rate then (s, .badValue)
    else if (s.player p).state ≠ .idle then (s, .busy)
    else if claimCheck (s.entry m) ≠ .ok then (s, claimCheck (s.entry m))
    else
      let s' := s.setEntry m { s.entry m with users := (s.entry m).users + 1 }
      (fetchIfRoom p (s'.setPlayer p ((s.player p).loaded m (s.entry m) rate)), .ok)
  | _, _ => (s, .badValue)

/-- LOAD (R104). -/
def execLoad (channel id rate : Nat) (s : State) : Host.Outcome State Fault Refusal :=
  answered (.load channel id rate) (fun s => ((loadRequest channel id rate s).1, Reply.bare (loadRequest channel id rate s).2)) s

/-! ### RUN and PAUSE (R110, R111) -/

/-- A RUN request (R110). -/
def runRequest (channel : Nat) (s : State) : State × Result :=
  match channelOf? channel with
  | none => (s, .badValue)
  | some p =>
    match (s.player p).state with
    | .loaded | .paused | .running | .starved => (runEffect p s, .ok)
    | .idle | .ended | .releasing | .faulted => (s, .wrongState)

/-- A PAUSE request (R111). -/
def pauseRequest (channel : Nat) (s : State) : State × Result :=
  match channelOf? channel with
  | none => (s, .badValue)
  | some p =>
    match (s.player p).state with
    | .running | .starved | .paused => (pauseEffect p s, .ok)
    | .idle | .loaded | .ended | .releasing | .faulted => (s, .wrongState)

/-- The state-after field of a player request; 0 where the channel names no player. -/
def stateAfter (channel : Nat) (s : State) : List Byte :=
  match channelOf? channel with
  | some p => u8 (s.player p).state.code
  | none => u8 0

/-- The reply of a player request: result code and the state after it, on refusal too (Table 11-5). -/
def withState (channel : Nat) (r : State × Result) : State × Reply :=
  (r.1, { code := r.2, fields := stateAfter channel r.1 })

/-- RUN (R110). -/
def execRun (channel : Nat) (s : State) : Host.Outcome State Fault Refusal :=
  answered (.run channel) (fun s => withState channel (runRequest channel s)) s

/-- PAUSE (R111). -/
def execPause (channel : Nat) (s : State) : Host.Outcome State Fault Refusal :=
  answered (.pause channel) (fun s => withState channel (pauseRequest channel s)) s

/-! ### STOP (R121, R124) -/

/-- The player becomes RELEASING; a waiting fetch is withdrawn (R109, R121). DESIGN CHOICE (log 45): the fetch cursor is kept,
although no fetch can follow (Table 5-1). -/
def enterReleasing (p : PlayerId) (s : State) : State :=
  let r := s.player p
  ({ s with port := s.port.withdraw p }).setPlayer p
    { r with state := .releasing, outstanding := r.outstanding && !(s.port.fetchWaits p) }

/-- The player becomes IDLE if it is still RELEASING and no record names it (R121, step 3). -/
def idleIfUnreferenced (p : PlayerId) (s : State) : State :=
  if (s.player p).state = .releasing ∧ s.refCount p = 0 then becomeIdle p s else s

/-- A STOP request (R121, R124). -/
def stopRequest (channel : Nat) (s : State) : State × Result :=
  match channelOf? channel with
  | none => (s, .badValue)
  | some p =>
    match (s.player p).state with
    | .idle => (s, .wrongState)
    | .releasing => (s, .ok)
    | .faulted => (becomeIdle p (dropRequest p s), .ok)
    | .loaded | .running | .paused | .starved | .ended =>
      (idleIfUnreferenced p (releaseRequest p (enterReleasing p s)), .ok)

/-- STOP (R121, R124). -/
def execStop (channel : Nat) (s : State) : Host.Outcome State Fault Refusal :=
  answered (.stop channel) (fun s => withState channel (stopRequest channel s)) s

/-! ### SET_RATE and GET_PLAYER (R112, R127) -/

/-- SET_RATE (R112). DESIGN CHOICE (log 33): a SET_RATE that removes a binding sets the rate it carries, like any other. -/
def execSetRate (channel rate : Nat) (binding : Option (Nat × Nat)) (s : State) : Host.Outcome State Fault Refusal :=
  answered (.setRate channel rate binding)
    (fun s =>
      match channelOf? channel, bindingOf? binding with
      | some p, some b =>
        if 512 < rate then refuse .badValue s else accept (s.setPlayer p { s.player p with rate := rate, binding := b })
      | _, _ => refuse .badValue s) s

/-- The fields of a GET_PLAYER reply (R127). DESIGN CHOICE (log 34): the published positions are an optional list. -/
def playerFields (r : Player) : List Byte :=
  u8 r.state.code ++ encSource r.source? ++ encOpt 1 (fun m : Mask => u8 m.toNat) r.mask ++ encOpt 2 u16 r.keyCount
    ++ u16 r.rate ++ encOpt 3 (fun b : Binding => u8 b.channel.val ++ u16 b.span) r.binding
    ++ u24 (r.time / 256) ++ u8 (r.time % 256) ++ encBool r.filled
    ++ encOpt 2 (fun k : PlayerKey => u16 k.index) r.startKey ++ encOpt 2 (fun k : PlayerKey => u16 k.index) r.endKey
    ++ u8 r.fifo.length ++ encOpt 2 (fun c : Cursor => u16 c.index) r.cursor
    ++ encOpt 1 (fun ps : List Int => encList s24 ps) r.published ++ encOpt 2 u16 r.faultKey

/-- GET_PLAYER (R127). -/
def execGetPlayer (channel : Nat) (s : State) : Host.Outcome State Fault Refusal :=
  answered (.getPlayer channel)
    (fun s =>
      match channelOf? channel with
      | none => refuse .badValue s
      | some p => (s, { code := .ok, fields := playerFields (s.player p) })) s

end Sys2Proof.Machine
end

