-- ==== Sys2Proof/Machine/Marks.lean ====
section
/-! DEFINITION. The mark table and GOTO (chapter 6). -/

namespace Sys2Proof.Machine

/-- Replaces a mark entry whole (R129). -/
def State.setMark (s : State) (k : Fin 64) (x : Mark) : State := { s with marks := s.marks.set k x }

/-- SET_MARK (R130): a number of positions that does not match the mask is answered BAD_LENGTH before delivery. -/
def execSetMark (index : Nat) (name : List Nat) (mask : Nat) (positions : List Int) (s : State) :
    Host.Outcome State Fault Refusal :=
  answered (.setMark index name mask positions)
    (fun s =>
      if positions.length ≠ maskAxes mask then refuse .badLength s
      else
        match indexOf? 64 index, maskOf? mask with
        | some k, some m =>
          if nameOk 0 name && positions.all inPosRange then
            accept (s.setMark k (some { name := name, mask := m, positions := positions }))
          else refuse .badValue s
        | _, _ => refuse .badValue s) s

/-- STORE_MARK (R131): the present out of every axis of the mask. DESIGN CHOICE (log 34): the positions stored are sent with a
count byte. -/
def execStoreMark (index : Nat) (name : List Nat) (mask : Nat) (s : State) : Host.Outcome State Fault Refusal :=
  answered (.storeMark index name mask)
    (fun s =>
      match indexOf? 64 index, maskOf? mask with
      | some k, some m =>
        if nameOk 0 name then
          match (Mask.axes m).find? fun i => !(s.axis i).configured with
          | some i => (s, { code := .wrongState, fields := encAxis? (some i) })
          | none =>
            let ps := (Mask.axes m).map fun i => (s.axis i).out
            (s.setMark k (some { name := name, mask := m, positions := ps }),
              { code := .ok, fields := encAxis? none ++ encList s24 ps })
        else (s, { code := .badValue, fields := encAxis? none })
      | _, _ => (s, { code := .badValue, fields := encAxis? none })) s

/-- CLEAR_MARK (R132). -/
def execClearMark (index : Nat) (s : State) : Host.Outcome State Fault Refusal :=
  answered (.clearMark index)
    (fun s =>
      match indexOf? 64 index with
      | some k => accept (s.setMark k none)
      | none => refuse .badValue s) s

/-- The fields of a GET_MARK reply (R133). DESIGN CHOICE (log 34): the positions are an optional list, whose bytes when absent
are a presence byte 0 and a count byte 0. -/
def markFields (x : Mark) : List Byte :=
  u8 (if x.isSome then 1 else 0) ++ encOpt 13 encName (x.map (·.name))
    ++ encOpt 1 (fun m : Mask => u8 m.toNat) (x.map (·.mask))
    ++ encOpt 1 (fun ps : List Int => encList s24 ps) (x.map (·.positions))

/-- GET_MARK (R133). -/
def execGetMark (index : Nat) (s : State) : Host.Outcome State Fault Refusal :=
  answered (.getMark index)
    (fun s =>
      match indexOf? 64 index with
      | some k => (s, { code := .ok, fields := markFields s.marks[k] })
      | none => refuse .badValue s) s

/-! ### GOTO (R106, R135, R136) -/

/-- The positions of key 0 of a go-to move: the outs of the mark's axes, 0 for an unconfigured one (Table 6-2). -/
def goToOuts (s : State) (m : Mask) : List Int := (Mask.axes m).map s.geoOut

/-- The record of a player that has accepted a GOTO (R106, R136). -/
def Player.gone (r : Player) (k : Fin 64) (x : MarkData) (frames : Nat) (outs : List Int) : Player :=
  { Player.reset with
    state := .loaded, mark := some k, mask := some x.mask, keyCount := some 2, rate := 256, binding := r.binding,
    startKey := some { index := 0, key := { time := 0, shape := .ease, positions := outs } },
    endKey := some { index := 1, key := { time := frames, shape := .ease, positions := x.positions } },
    filled := true, published := some outs }

/-- A GOTO request (R135, R136). -/
def goToRequest (channel mark frames : Nat) (s : State) : State × Result :=
  match channelOf? channel, indexOf? 64 mark with
  | some p, some k =>
    if !(within 1 65535 frames) then (s, .badValue)
    else if (s.player p).state ≠ .idle then (s, .busy)
    else
      match s.marks[k] with
      | none => (s, .notFound)
      | some x => (s.setPlayer p ((s.player p).gone k x frames (goToOuts s x.mask)), .ok)
  | _, _ => (s, .badValue)

/-- GOTO (R135, R136). -/
def execGoTo (channel mark frames : Nat) (s : State) : Host.Outcome State Fault Refusal :=
  answered (.goTo channel mark frames) (fun s => withState channel (goToRequest channel mark frames s)) s

end Sys2Proof.Machine
end

