-- ==== Sys2Proof/Machine/Moves.lean ====
section
/-! DEFINITION. The requests of the Move Library (section 4.9). -/

namespace Sys2Proof.Machine

/-- The state is that of an entry the console writes. -/
def Entry.byConsole (e : Entry) : Bool := decide (e.state = .writing) && decide (e.writer = some .console)

/-- The state is that of an entry the Recorder writes. -/
def Entry.byRecorder (e : Entry) : Bool := decide (e.state = .writing) && decide (e.writer = some .recorder)

/-- An entry just opened (R90, R87). -/
def Entry.opened (name : List Nat) (mask : Mask) (w : Writer) : Entry :=
  { Entry.blank with state := .writing, name := some name, mask := some mask, writer := some w }

/-- A console transaction is held on entry `m` (R89). -/
def State.txnOn (s : State) (m : MoveIx) : Bool :=
  match s.txn with
  | some t => decide (t.move = m)
  | none => false

/-- A PUT_KEYS transaction is held on entry `m` (R93, check 3). DESIGN CHOICE (log 38): a READ_KEYS transaction, which R89 names too,
does not hold off a CLOSE_MOVE. -/
def State.putOn (s : State) (m : MoveIx) : Bool :=
  match s.txn with
  | some t =>
    match t.work with
    | .put .. => decide (t.move = m)
    | .read .. => false
  | none => false

/-- OPEN_MOVE (R90). -/
def execOpenMove (id : Nat) (name : List Nat) (mask : Nat) (s : State) : Host.Outcome State Fault Refusal :=
  answered (.openMove id name mask)
    (fun s =>
      match moveOf? id, maskOf? mask with
      | some m, some k =>
        if nameOk 1 name = false then refuse .badValue s
        else if (s.entry m).state ≠ .empty then refuse .wrongState s
        else accept (s.setEntry m (Entry.opened name k .console))
      | _, _ => refuse .badValue s) s

/-- Every key carries one position per axis of the mask, and there are 1 to 8 keys (R196). -/
def keysFit (a : Nat) (keys : List WireKey) : Bool :=
  within 1 8 keys.length && keys.all fun k => decide (k.positions.length = a)

/-- A console transaction begins (R89): its request is held and its first access is requested. -/
def beginTxn (via : Via) (m : MoveIx) (w : TxnWork) (s : State) : State :=
  consoleStep { holdPlace via s with txn := some { via := via, move := m, work := w } }

/-- A PUT_KEYS request at the Move Library (R91, R92, R196): its reply, if it is refused. -/
def putKeysRequest (id : Nat) (keys : List WireKey) (via : Via) (s : State) : State × Option Reply :=
  match moveOf? id with
  | none => (s, some { code := .badValue, fields := u8 0 })
  | some m =>
    if (s.entry m).byConsole = false then (s, some { code := .wrongState, fields := u8 0 })
    else if keysFit (s.axesOf id) keys = false then (s, some (Reply.bare .badLength))
    else if s.txn.isSome then (s, some { code := .busy, fields := u8 0 })
    else
      match keysOf? keys with
      | none => (s, some { code := .badValue, fields := u8 0 })
      | some ks => (beginTxn via m (.put ks 0) s, none)

/-- PUT_KEYS (R91, R92). -/
def execPutKeys (id : Nat) (keys : List WireKey) (s : State) : Host.Outcome State Fault Refusal :=
  request (.putKeys id keys) (putKeysRequest id keys) s

/-- CLOSE_MOVE (R93). -/
def execCloseMove (id : Nat) (s : State) : Host.Outcome State Fault Refusal :=
  answered (.closeMove id)
    (fun s =>
      match moveOf? id with
      | none => refuse .badValue s
      | some m =>
        if (s.entry m).byConsole = false then refuse .wrongState s
        else if s.putOn m then refuse .busy s
        else if (s.entry m).keys < 2 then refuse .wrongState s
        else accept (s.setEntry m { s.entry m with state := .ready, writer := none })) s

/-- A READ_KEYS request at the Move Library (R94): its reply, if it is refused, carries an empty list. -/
def readKeysRequest (id first count : Nat) (via : Via) (s : State) : State × Option Reply :=
  let no (c : Result) : State × Option Reply := (s, some { code := c, fields := u8 0 })
  match moveOf? id with
  | none => no .badValue
  | some m =>
    if within 1 8 count = false then no .badValue
    else if (s.entry m).state = .empty then no .notFound
    else if s.txn.isSome then no .busy
    else if (s.entry m).keys < first + count then no .badValue
    else (beginTxn via m (.read first count []) s, none)

/-- READ_KEYS (R94). -/
def execReadKeys (id first count : Nat) (s : State) : Host.Outcome State Fault Refusal :=
  request (.readKeys id first count) (readKeysRequest id first count) s

/-- The checks of DELETE_MOVE after the id (R95). -/
def deleteCheck (m : MoveIx) (s : State) : Result :=
  let e := s.entry m
  if e.state = .empty then .notFound
  else if e.byRecorder then .wrongState
  else if s.txnOn m then .busy
  else if e.flags.isProtected then .protectedMove
  else if e.users ≠ 0 then .inUse
  else .ok

/-- DELETE_MOVE (R95): the reply carries the blocks freed and the blocks retired. -/
def execDeleteMove (id : Nat) (s : State) : Host.Outcome State Fault Refusal :=
  answered (.deleteMove id)
    (fun s =>
      match moveOf? id with
      | none => refuse .badValue s
      | some m =>
        if deleteCheck m s = .ok then
          let bs := s.chain (s.entry m)
          let retired := (retiredOf s bs).length
          (emptyEntry m s, { code := .ok, fields := u16 (bs.length - retired) ++ u16 retired })
        else refuse (deleteCheck m s) s) s

/-- PROTECT_MOVE (R96). DESIGN CHOICE (log 31): an operand other than on and off is refused BAD_VALUE ahead of the NOT_FOUND
of an EMPTY entry. -/
def execProtectMove (id on : Nat) (s : State) : Host.Outcome State Fault Refusal :=
  answered (.protectMove id on)
    (fun s =>
      match moveOf? id, boolOf? on with
      | some m, some b =>
        let e := s.entry m
        if e.state = .empty then refuse .notFound s
        else accept (s.setEntry m { e with flags := { e.flags with isProtected := b } })
      | _, _ => refuse .badValue s) s

/-- The fields of a GET_MOVE reply (R97). -/
def moveFields (s : State) (e : Entry) : List Byte :=
  u8 e.state.code ++ encOpt 13 encName e.name ++ encOpt 1 (fun m : Mask => u8 m.toNat) e.mask ++ u16 e.keys
    ++ encOpt 3 u24 e.endTime ++ encOpt 2 u16 e.first ++ encOpt 2 u16 e.last
    ++ encOpt 1 (fun w : Writer => u8 w.code) e.writer ++ u8 e.flags.bits ++ u8 e.users ++ u16 (s.chain e).length

/-- GET_MOVE (R97). -/
def execGetMove (id : Nat) (s : State) : Host.Outcome State Fault Refusal :=
  answered (.getMove id)
    (fun s =>
      match moveOf? id with
      | none => refuse .badValue s
      | some m => (s, { code := .ok, fields := moveFields s (s.entry m) })) s

/-- The directory indices in ascending order. -/
def allMoves : List MoveIx := List.finRange 32

/-- The fields of a LIST_MOVES reply (R97). -/
def listFields (s : State) : List Byte :=
  encList (fun m => u8 (moveId m) ++ u8 (s.entry m).state.code) (allMoves.filter fun m => decide ((s.entry m).state ≠ .empty))
    ++ u16 s.lib.freeList.length ++ u16 s.lib.badSet.length

/-- LIST_MOVES (R97). -/
def execListMoves (s : State) : Host.Outcome State Fault Refusal := query .listMoves listFields s

end Sys2Proof.Machine
end

