-- ==== Sys2Proof/Machine/Recorder.lean ====
section
/-! DEFINITION. The Recorder (chapter 7): its requests, the capture at a publication and the time limit. The writes and the
closes of a take stand in Machine/Library.lean. -/

namespace Sys2Proof.Machine

/-- The positions of a key captured from the publication the Recorder has kept: the outs of the mask's axes, 0 for an axis
that publication does not carry (R144, R147). -/
def Recorder.capture (r : Recorder) (m : Mask) : List Int := (Mask.axes m).map fun i => (r.outs[i]).getD 0

/-- A due key of this time (R144, R145): placed at the FIFO tail, or skipped with the gap. -/
def dueKey (time : Nat) (s : State) : State :=
  let r := s.recorder
  match r.move, r.mask with
  | some m, some k =>
    if r.fifo.length < Config.fifoDepth then
      let key : Key := { time := time, shape := r.shape, positions := r.capture k }
      { s with recorder := { r with fifo := r.fifo ++ [key], lastQueued := some time } }
    else
      let e := s.entry m
      { s.setEntry m { e with flags := { e.flags with gapped := true } } with
        recorder := { r with skipped := min (r.skipped + 1) Config.maxSkipped } }
  | _, _ => s

/-- A take in RECORDING after its starting publication ends with cause `c` (R147, R150): the final key, from the publication
the Recorder has last taken, then CLOSING, and the close at once when the FIFO is empty. -/
def endTake (c : CloseCause) (s : State) : State :=
  let t := s.recorder.frames.getD 0
  let s1 := if s.recorder.lastQueued = some t then s else dueKey t s
  recorderNext { s1 with recorder := { s1.recorder with state := .closing, cause := c } }

/-- The time limit (R150): a RECORDING take whose frames since start have reached the greatest key time. -/
def recorderTimeLimit (s : State) : State :=
  if s.recorder.state = .recording ∧ s.recorder.frames = some Config.maxTime then endTake .timeLimit s else s

/-- Frames since start at a publication (R144, step 1). -/
def Recorder.nextFrames (r : Recorder) : Nat :=
  match r.frames with
  | none => 0
  | some n => n + 1

/-- The Recorder takes the publication: it keeps its outs (R147). -/
def recorderTakes (s : State) : State :=
  { s with recorder := { s.recorder with outs := s.outputSet, awaiting := false } }

/-- The Recorder at a publication it has taken (R144), before the time limit. -/
def recorderCapture (s : State) : State :=
  if s.recorder.state = .recording then
    let n := s.recorder.nextFrames
    let s1 := { s with recorder := { s.recorder with frames := some n } }
    if n % s.recorder.decimation = 0 then recorderWrite (dueKey n s1) else s1
  else s

/-- The Recorder at a publication (R144, R150). -/
def recorderPublication (s : State) : State := recorderTimeLimit (recorderCapture (recorderTakes s))

/-- The CUE_GO trigger action at the Recorder (R143). -/
def recorderGo (s : State) : State :=
  if s.recorder.state = .armed then
    let s' := { s with recorder := { s.recorder with state := .recording } }
    match s.recorder.move with
    | some m => raise (.recordStarted m) s'
    | none => s'
  else s

/-- A RECORD_START request: the state it leaves and its result code (R142, R87). DESIGN CHOICE (log 31): an on_trigger byte
other than 0 or 1 is refused within check 1, before BUSY and WRONG_STATE. -/
def recordStartRequest (id : Nat) (name : List Nat) (mask decimation shape onTrigger : Nat) (s : State) : State × Result :=
  match moveOf? id, maskOf? mask, shapeOf? shape, boolOf? onTrigger with
  | some m, some k, some sh, some armed =>
    if nameOk 1 name = false ∨ within 1 64 decimation = false then (s, .badValue)
    else if s.recorder.state ≠ .idle then (s, .busy)
    else if (s.entry m).state ≠ .empty then (s, .wrongState)
    else
      ({ s.setEntry m (Entry.opened name k .recorder) with
          recorder :=
            { s.recorder with
              state := if armed then .armed else .recording, move := some m, mask := some k, decimation := decimation,
              shape := sh, frames := none, lastQueued := none, fifo := [], outstanding := false, skipped := 0,
              cause := .stopped } },
        .ok)
  | _, _, _, _ => (s, .badValue)

/-- The abort of an entry that holds no key (R87, R147). -/
def abortTake (s : State) : State :=
  match s.recorder.move with
  | some m =>
    let s' := emptyEntry m s
    { s' with recorder := s'.recorder.toIdle }
  | none => { s with recorder := s.recorder.toIdle }

/-- A RECORD_STOP request: the state it leaves and its result code (R147). -/
def recordStopRequest (s : State) : State × Result :=
  match s.recorder.state with
  | .idle => (s, .wrongState)
  | .armed => (abortTake s, .ok)
  | .recording => if s.recorder.frames.isNone then (abortTake s, .ok) else (endTake .stopped s, .ok)
  | .closing => (s, .ok)

/-- The Recorder counts and keeps the publication that an ENDREC runs in, when it records a take and has not yet taken that
publication (R166; log 32). -/
def recorderHears (s : State) : State :=
  if s.recorder.state = .recording ∧ s.recorder.awaiting = true then
    { s with recorder := { s.recorder with frames := s.recorder.frames.map (· + 1), outs := s.outputSet } }
  else s

/-- The RECORD_STOP request of an ENDREC step: its final key is formed from the publication the step runs in, whether or not
the Recorder has taken that publication (R166; DESIGN CHOICE, log 32, where R147 reads otherwise). -/
def endRecRequest (s : State) : State × Result := recordStopRequest (recorderHears s)

/-- The reply of RECORD_START and RECORD_STOP: the Recorder's state after, on refusal too. -/
def withRecState (r : State × Result) : State × Reply := (r.1, { code := r.2, fields := u8 r.1.recorder.state.code })

/-- RECORD_START (R142). -/
def execRecordStart (id : Nat) (name : List Nat) (mask decimation shape onTrigger : Nat) (s : State) :
    Host.Outcome State Fault Refusal :=
  answered (.recordStart id name mask decimation shape onTrigger)
    (fun s => withRecState (recordStartRequest id name mask decimation shape onTrigger s)) s

/-- RECORD_STOP (R147). -/
def execRecordStop (s : State) : Host.Outcome State Fault Refusal :=
  answered .recordStop (fun s => withRecState (recordStopRequest s)) s

/-- The fields of a GET_RECORDER reply (R152). -/
def recorderFields (r : Recorder) : List Byte :=
  u8 r.state.code ++ encOpt 1 (fun m => u8 (moveId m)) r.move ++ encOpt 1 (fun m : Mask => u8 m.toNat) r.mask
    ++ u8 r.decimation ++ u8 r.shape.code ++ encOpt 3 u24 r.frames ++ encOpt 3 u24 r.lastQueued
    ++ u8 r.fifo.length ++ encBool r.outstanding ++ u16 r.skipped

/-- GET_RECORDER (R152). -/
def execGetRecorder (s : State) : Host.Outcome State Fault Refusal := query .getRecorder (fun s => recorderFields s.recorder) s

/-- RECORDER_TIME_LIMIT (R150). -/
def execRecorderTimeLimit (s : State) : Host.Outcome State Fault Refusal := event recorderTimeLimit s

end Sys2Proof.Machine
end

