-- ==== Sys2Proof/Machine/Cue.lean ====
section
/-! DEFINITION. The Cue Sequencer and the trigger table (chapter 8). -/

namespace Sys2Proof.Machine

/-! ### Halts, advances and control steps -/

/-- Changes the cue record. -/
def State.setCue (s : State) (c : Cue) : State := { s with cue := c }

/-- The step the cue stands at. -/
def State.cueStepAt (s : State) : CueStep := s.cueList[s.cue.current]

/-- A halt with cause REFUSED and its CUE notice (R161, R162, R165). -/
def cueRefused (c : Result) (ax : Option (Fin 8)) (s : State) : State :=
  raise (.cueHalted s.cue.current c ax)
    (s.setCue { s.cue with state := .halted, haltCause := some .refused, haltCode := some c, haltAxis := ax, remaining := none })

/-- The end of the cue at its current step, with its CUE notice (R160, R165). -/
def cueDone (s : State) : State :=
  raise (.cueDone s.cue.current) (s.setCue { s.cue with state := .done, remaining := none })

/-- The current step advances to the next index; past step 47 the cue ends there (R160). -/
def cueAdvance (s : State) : State :=
  match indexOf? 48 (s.cue.current.val + 1) with
  | some i => s.setCue { s.cue with state := .running, current := i, remaining := none }
  | none => cueDone s

/-- The cue becomes WAITING at its current step (R160). -/
def cueWait (remaining : Option Nat) (s : State) : State := s.setCue { s.cue with state := .waiting, remaining := remaining }

/-- The outcome of an action step's request (R161). -/
def cueResult (r : State × Result × Option (Fin 8)) : State :=
  if r.2.1 = .ok then cueAdvance r.1 else cueRefused r.2.1 r.2.2 r.1

/-- The outcome of a request that names no axis on refusal. -/
def cueResult1 (r : State × Result) : State := cueResult (r.1, r.2, none)

/-- The name of a take that a RECORD step starts: CUE and the move id in decimal (R161). -/
def cueTakeName (m : MoveIx) : List Nat :=
  if moveId m < 10 then [67, 85, 69, 48 + moveId m] else [67, 85, 69, 48 + moveId m / 10, 48 + moveId m % 10]

/-- A LOOP step (R164). -/
def cueLoop (target : Fin 48) (count : Nat) (s : State) : State :=
  let c := s.cue
  let n := (c.counters[c.current]).getD count
  if 1 < n then s.setCue { c with counters := c.counters.set c.current (some (n - 1)), current := target }
  else cueAdvance (s.setCue { c with counters := c.counters.set c.current none })

/-! ### Wait steps (R162) -/

/-- The condition of WAIT_AT: every axis of the mark lies within the window in the published output set. -/
def atMark (s : State) (x : MarkData) (window : Nat) : Bool :=
  (Mask.axes x.mask).all fun i => decide ((((s.outputSet[i]).getD 0) - positionFor x.mask x.positions i).natAbs ≤ window)

/-- The test of WAIT_END. -/
def testEnd (p : PlayerId) (s : State) : State := if (s.player p).state = .ended then cueAdvance s else cueWait none s

/-- The test of WAIT_AT: an EMPTY mark halts the cue. -/
def testAt (k : Fin 64) (window : Nat) (s : State) : State :=
  match s.marks[k] with
  | none => cueRefused .notFound none s
  | some x => if atMark s x window then cueAdvance s else cueWait none s

/-! ### Execution (R160) -/

/-- One step executed in RUNNING (R160 to R165). -/
def cueExecute (s : State) : State :=
  match s.cueStepAt with
  | .load p m rate => cueResult1 (loadRequest p.code (moveId m) rate s)
  | .goTo p k frames => cueResult1 (goToRequest p.code k.val frames s)
  | .run p => cueResult1 (runRequest p.code s)
  | .fade m x len => cueResult (fadeRequest m.toNat x.code len s)
  | .stopPlay p => cueResult1 (stopRequest p.code s)
  | .record m k d => cueResult1 (recordStartRequest (moveId m) (cueTakeName m) k.toNat d Shape.linear.code 0 s)
  | .endRec => cueResult1 (endRecRequest s)
  | .waitTrigger _ => cueWait none s
  | .waitFrames n => cueWait (some n) s
  | .waitEnd p => testEnd p s
  | .waitAt k w => testAt k w s
  | .loop t n => cueLoop t n s
  | .note v => cueAdvance (raise (.cueNote s.cue.current v) s)
  | .finish => cueDone s

/-- Execution of at most `n` steps: it ends when the cue is no longer RUNNING (R160). -/
def cueRun : Nat → State → State
  | 0, s => s
  | n + 1, s => if s.cue.state = .running then cueRun n (cueExecute s) else s

/-- The condition of a WAIT_FRAMES step is met (R162): frames remaining has reached 0. The step counts among the 16 of the
publication, which continues. -/
def waitFramesExpired (s : State) : State :=
  match s.cueStepAt with
  | .waitFrames _ =>
    if s.cue.state = .waiting ∧ s.cue.remaining = some 0 then cueRun (Config.cueBudget - 1) (cueAdvance s) else s
  | _ => s

/-- A WAITING cue at a publication (R160, R162). -/
def cueWaiting (s : State) : State :=
  match s.cueStepAt with
  | .waitFrames _ => waitFramesExpired (s.setCue { s.cue with remaining := s.cue.remaining.map (· - 1) })
  | .waitEnd p => cueRun (Config.cueBudget - 1) (testEnd p s)
  | .waitAt k w => cueRun (Config.cueBudget - 1) (testAt k w s)
  | _ => s

/-- The steps a RUNNING cue may still execute at this publication: a WAIT_TRIGGER met since the last one counts (R163). -/
def Cue.budget (c : Cue) : Nat := if c.triggerMet then Config.cueBudget - 1 else Config.cueBudget

/-- A RUNNING cue at a publication (R160): it goes on from its current step; one that a CUE_GO has moved past step 47 ends
there as END does. -/
def cueRunning (s : State) : State :=
  let s' := s.setCue { s.cue with triggerMet := false, pastEnd := false }
  if s.cue.pastEnd then cueDone s' else cueRun s.cue.budget s'

/-- The Cue Sequencer at a publication (R160). -/
def cuePublication (s : State) : State :=
  match s.cue.state with
  | .waiting => cueWaiting s
  | .running => cueRunning s
  | .idle | .halted | .done => s

/-- The stop cascade at the Cue Sequencer (R167). -/
def cueStopped (s : State) : State :=
  if s.cue.state = .running ∨ s.cue.state = .waiting then
    s.setCue { s.cue with
      state := .halted, haltCause := some .stopped, haltCode := none, haltAxis := none, remaining := none, triggerMet := false,
      pastEnd := false }
  else s

/-! ### The trigger table (R168 to R170) -/

/-- The WAIT_TRIGGER that the cue waits at is met (R163): the cue is RUNNING at the next index and executes nothing. DEDUCED (log
21): after step 47, which no index follows, the cue is RUNNING with its current step left at 47 until the next publication. -/
def cueMet (s : State) : State :=
  match indexOf? 48 (s.cue.current.val + 1) with
  | some i => s.setCue { s.cue with state := .running, current := i, remaining := none, triggerMet := true }
  | none => s.setCue { s.cue with state := .running, remaining := none, triggerMet := true, pastEnd := true }

/-- The CUE_GO trigger action at the Cue Sequencer (R163). -/
def cueGo (code : Nat) (s : State) : State :=
  if s.cue.state = .waiting then
    match s.cueStepAt with
    | .waitTrigger c =>
      if c = 0 ∨ c = code then cueMet s else s
    | _ => s
  else s

/-- RESUME_PLAY at one player (R170): a PAUSED player takes the RUN effect. -/
def resumePlayer (p : PlayerId) (s : State) : State := if (s.player p).state = .paused then runEffect p s else s

/-- The entry of the trigger table that takes a button code (R169). -/
def State.lookup (s : State) (code : Nat) : Option (Fin 8) :=
  allAxes.find? fun e =>
    decide ((s.triggers[e]).action ≠ .none) && (decide ((s.triggers[e]).code = 0) || decide ((s.triggers[e]).code = code))

/-- An action of the trigger table (R170), of entry `e` for a button code. -/
def triggerAct (a : TriggerAction) (code : Nat) (e : Fin 8) (s : State) : State :=
  match a with
  | .none => s
  | .cueGo => recorderGo (cueGo code s)
  | .pauseAll => pausePlayers s
  | .resumePlay =>
    if s.anyAxis fun a => decide (a.state = .stopping ∨ a.state = .held) then s else resumePlayer .b (resumePlayer .a s)
  | .takeOver => takeOver s
  | .report => raise (.button code e) s

/-- A button code arrives at the trigger table (R169). -/
def buttonCode (s : State) (code : Nat) : State :=
  match s.lookup code with
  | some e => triggerAct (s.triggers[e]).action code e s
  | none => s

/-! ### Requests -/

/-- The states in which the list may be written and the cue started (R156, R158). -/
def Cue.atRest (c : Cue) : Bool := decide (c.state = .idle ∨ c.state = .halted ∨ c.state = .done)

/-- Writes steps from an index upward; steps beyond the end of the list are not written. -/
def putSteps (l : Vector CueStep 48) (first : Nat) (cs : List CueStep) : Vector CueStep 48 :=
  Vector.ofFn fun i => if first ≤ i.val then cs.getD (i.val - first) l[i] else l[i]

/-- PUT_CUE (R156): the reply names the index of the first step that fails. A number of steps other than 1 to 8 is a length
that the Console Link answers (R196). DESIGN CHOICE (log 43): the cue record is kept whole, so a loop counter present at a LOOP
step that the request replaces stays present until a CUE_START or CUE_STOP, where R155 reads otherwise. -/
def execPutCue (first : Nat) (steps : List WireStep) (s : State) : Host.Outcome State Fault Refusal :=
  answered (.putCue first steps)
    (fun s =>
      let no (c : Result) (i : Option Nat) : State × Reply := (s, { code := c, fields := encOpt 1 u8 i })
      if within 1 8 steps.length = false then refuse .badLength s
      else if within 0 47 first = false ∨ 48 < first + steps.length then no .badValue none
      else if s.cue.atRest = false then no .busy none
      else
        match stepsOf? steps with
        | .error n => no .badValue (some (first + n))
        | .ok cs => ({ s with cueList := putSteps s.cueList first cs }, { code := .ok, fields := encOpt 1 u8 none })) s

/-- READ_CUE (R157). -/
def execReadCue (first count : Nat) (s : State) : Host.Outcome State Fault Refusal :=
  answered (.readCue first count)
    (fun s =>
      if within 0 47 first = false ∨ within 1 8 count = false ∨ 48 < first + count then refuse .badValue s
      else (s, { code := .ok, fields := encList encStep ((s.cueList.toList.drop first).take count) })) s

/-- The fields of a GET_CUE reply (R157). -/
def cueFields (c : Cue) : List Byte :=
  u8 c.state.code ++ u8 c.current.val ++ encOpt 2 u16 c.remaining ++ encOpt 1 (fun h : HaltCause => u8 h.code) c.haltCause
    ++ encOpt 1 (fun r : Result => u8 r.code) c.haltCode ++ encAxis? c.haltAxis
    ++ encList (fun q : Fin 48 × Nat => u8 q.1.val ++ u8 q.2)
        ((List.finRange 48).filterMap fun i => (c.counters[i]).map fun n => (i, n))

/-- GET_CUE (R157). -/
def execGetCue (s : State) : Host.Outcome State Fault Refusal := query .getCue (fun s => cueFields s.cue) s

/-- CUE_START (R158). -/
def execCueStart (step : Nat) (s : State) : Host.Outcome State Fault Refusal :=
  answered (.cueStart step)
    (fun s =>
      match indexOf? 48 step with
      | none => refuse .badValue s
      | some i =>
        if s.cue.atRest = false then refuse .busy s else accept (s.setCue { Cue.reset with state := .running, current := i })) s

/-- CUE_STOP (R159). -/
def execCueStop (s : State) : Host.Outcome State Fault Refusal :=
  answered .cueStop (fun s => accept (s.setCue { Cue.reset with current := s.cue.current })) s

/-- PUT_TRIGGER (R168). -/
def execPutTrigger (index code action : Nat) (s : State) : Host.Outcome State Fault Refusal :=
  answered (.putTrigger index code action)
    (fun s =>
      match indexOf? 8 index, actionOf? action with
      | some e, some a =>
        if code ≤ 255 then accept { s with triggers := s.triggers.set e { code := code, action := a } } else refuse .badValue s
      | _, _ => refuse .badValue s) s

/-- GET_TRIGGERS (R168). -/
def execGetTriggers (s : State) : Host.Outcome State Fault Refusal :=
  query .getTriggers (fun s => s.triggers.toList.flatMap fun t => u8 t.code ++ u8 t.action.code) s

/-- WAIT_FRAMES_EXPIRED (R162). -/
def execWaitFramesExpired (s : State) : Host.Outcome State Fault Refusal := event waitFramesExpired s

end Sys2Proof.Machine
end

