-- ==== Sys2Proof/Machine/AxisControl.lean ====
section
/-! DEFINITION. Axis Control and the Drive Line (chapter 9), the STOP line and the stop cascade (section 3.6). -/

namespace Sys2Proof.Machine

/-! ### The stop cascade (R70) -/

/-- Steps 1 and 2 of the cascade at one axis: ACTIVE becomes STOPPING, and every configured axis is cut to steady LIVE. -/
def Axis.cascaded (a : Axis) : Axis :=
  if a.configured then
    { a with state := (if a.state = .active then .stopping else a.state), blend := a.blend.leaveActive a.out }
  else a

/-- The stop cascade (R70). -/
def cascade (s : State) : State := cueStopped (pausePlayers (withClears s (s.mapAxes fun _ a => a.cascaded)))

/-! ### ALL_HELD (R66, R175) -/

/-- Some axis is STOPPING. -/
def State.anyStopping (s : State) : Bool := s.anyAxis fun a => decide (a.state = .stopping)

/-- Some axis is HELD. -/
def State.anyHeld (s : State) : Bool := s.anyAxis fun a => decide (a.state = .held)

/-- The ALL_HELD notice of a change after which `s` has no axis STOPPING while at least one is HELD, when some axis was
STOPPING before it (R66). -/
def allHeldIf (before : Bool) (s : State) : State :=
  if before && !s.anyStopping && s.anyHeld then raise (.axis .allHeld none none) s else s

/-! ### Entering FAULT (R183) -/

/-- The kind of the fault report of a cause (R183). -/
def FaultCause.kind : FaultCause → FaultKind
  | .driveSilent => .driveSilent
  | .driveReported => .driveReported
  | .following => .following

/-- The cause of the AXIS notice of a fault (R183). -/
def FaultCause.notice : FaultCause → AxisCause
  | .driveSilent => .driveSilent
  | .driveReported => .driveReported
  | .following => .following

/-- An axis that leaves ACTIVE, STOPPING or HELD for another state (R175): cut if it was ACTIVE, v_prev 0, no flags. -/
def Axis.left (a : Axis) (st : AxisState) : Axis :=
  { a with
    state := st, vPrev := 0, flags := ClampFlags.none,
    blend := if a.state = .active then a.blend.leaveActive a.out else a.blend }

/-- The entry of an axis into FAULT (R183), with the setpoint and the drive code of its fault report. -/
def enterFault (i : Fin 8) (c : FaultCause) (setpoint : Int) (code : Option Nat) (s : State) : State :=
  let a := s.axis i
  let s1 := allHeldIf s.anyStopping (withClears s (s.setAxis i { a.left .fault with cause := some c }))
  let s2 := faultReport
    { kind := c.kind, axis := some i, player := none, frame := s1.timer.number, setpoint := some setpoint,
      actual := a.actual, code := code, move := none, index := none } s1
  cascade (raise (.axis c.notice (some i) code) s2)

/-! ### Exchanges (R179, R181) -/

/-- The miss count of an axis has reached its miss_limit while the axis is ACTIVE, STOPPING or HELD (R181). -/
def Axis.silent (a : Axis) : Bool :=
  a.enabled &&
    match a.cfg with
    | some c => decide (c.missLimit ≤ a.miss)
    | none => false

/-- The setpoint of an axis's last exchange. -/
def Axis.lastSetpoint (a : Axis) : Int :=
  match a.window with
  | some w => w.setpoint
  | none => a.out

/-- The fault of a silent drive (R181). -/
def driveSilent (i : Fin 8) (s : State) : State :=
  if (s.axis i).silent then enterFault i .driveSilent (s.axis i).lastSetpoint none s else s

/-- A window closed with no valid reply counts a miss (R181). -/
def Axis.missed (a : Axis) : Axis := { a with miss := min (a.miss + 1) Config.maxMiss }

/-- The close of the reply window of an axis (R179, R181). -/
def closeWindow (i : Fin 8) (s : State) : State :=
  match (s.axis i).window with
  | some w => if w.answered then s else driveSilent i (s.modAxis i Axis.missed)
  | none => s

/-- The exchange of a publication that gave the axis this out and v_prev (R179). -/
def Axis.exchange (a : Axis) (i : Fin 8) (out vPrev : Int) : Exchange :=
  { address := i, seq := a.nextSeq, enable := a.enabled, setpoint := out, feedForward := vPrev }

/-- The axis after its exchange is sent (R179): a new window, the exchange before it kept. -/
def Axis.sent (a : Axis) (out : Int) : Axis :=
  { a with
    nextSeq := (a.nextSeq + 1) % 16,
    window := some { seq := a.nextSeq, setpoint := out, enable := a.enabled, answered := false },
    prev := a.window.map fun w => { setpoint := w.setpoint, enable := w.enable } }

/-- The Drive Line at a publication, for one axis; `f` is the state published (R179). DESIGN CHOICE (log 40): the first exchange after an
ENABLE_AXIS carries the published out like any other, where R177 speaks of the seated out. -/
def driveAxis (f : State) (s : State) (i : Fin 8) : State :=
  if (f.axis i).configured then
    let s1 := closeWindow i s
    let x := (s1.axis i).exchange i (f.axis i).out (f.axis i).vPrev
    { s1.modAxis i (fun a => a.sent (f.axis i).out) with exchanges := s1.exchanges ++ [x] }
  else s

/-- The Drive Line at a publication (R179): every configured axis in ascending index. -/
def drivePublication (f s : State) : State := allAxes.foldl (driveAxis f) { s with exchanges := [] }

/-! ### Replies (R180, R182) -/

/-- The drive status of a reply whose status and code lie within their ranges (Table 9-4). -/
def driveStatusOf? (status code : Nat) : Option DriveStatus :=
  match status with
  | 0 => if code = 0 then some .ok else none
  | 1 => if code = 0 then some .warn else none
  | 2 => if within 1 255 code then some (.fault code) else none
  | _ => none

/-- The reply's sequence is that of the open, unanswered window (R180). -/
def Axis.awaits (a : Axis) (seq : Nat) : Bool :=
  match a.window with
  | some w => decide (w.seq = seq) && !w.answered
  | none => false

/-- A valid reply marks its window and updates the drive record (R180, R182); in DISABLED and FAULT out follows actual. -/
def Axis.answeredBy (a : Axis) (actual : Int) (st : DriveStatus) : Axis :=
  let b := { a with
    miss := 0, actual := some actual, drive := some st, window := a.window.map fun w => { w with answered := true } }
  if a.enabled then b else { b with out := actual, vPrev := 0 }

/-- The following error of a reply exceeds fe_limit (R182): tested while ACTIVE or STOPPING, against the setpoint of the
exchange before the one answered, if that was sent with the enable flag. DESIGN CHOICE (log 37): the flag alone decides, also
where the axis has been disabled and enabled again since that exchange. -/
def Axis.followingSetpoint? (a : Axis) (actual : Int) : Option Int :=
  match a.prev, a.cfg with
  | some p, some c => if a.moving ∧ p.enable = true ∧ c.feLimit < (p.setpoint - actual).natAbs then some p.setpoint else none
  | _, _ => none

/-- A valid reply at Axis Control (R182). -/
def replyAct (i : Fin 8) (actual : Int) (st : DriveStatus) (s : State) : State :=
  let a := s.axis i
  let s1 := s.setAxis i (a.answeredBy actual st)
  if a.enabled then
    match st with
    | .fault c => enterFault i .driveReported a.lastSetpoint (some c) s1
    | .ok | .warn =>
      match a.followingSetpoint? actual with
      | some sp => enterFault i .following sp none s1
      | none => s1
  else s1

/-- A reply on the drive line (R180): every reply that is not valid is discarded. -/
def driveReply (address sequence : Nat) (actual : Int) (status code check : Nat) (s : State) : State :=
  match indexOf? 8 address, driveStatusOf? status code with
  | some i, some st =>
    if check = driveCheck address sequence actual status code ∧ sequence ≤ 15 ∧ inPosRange actual = true
        ∧ (s.axis i).configured = true ∧ (s.axis i).awaits sequence = true then
      replyAct i actual st s
    else s
  | _, _ => s

/-- DRIVE_REPLY (R180, R182). -/
def execDriveReply (address sequence : Nat) (actual : Int) (status code check : Nat) (s : State) :
    Host.Outcome State Fault Refusal :=
  event (driveReply address sequence actual status code check) s

/-- DRIVE_SILENT (R181). -/
def execDriveSilent (axis : Nat) (s : State) : Host.Outcome State Fault Refusal :=
  event (fun s =>
    match indexOf? 8 axis with
    | some i => driveSilent i s
    | none => s) s

/-! ### The STOP line, STOP_ALL and RESUME_ALL (R68, R69, R71) -/

/-- STOP_LINE_ASSERT (R68): a change from RELEASED. -/
def execStopLineAssert (s : State) : Host.Outcome State Fault Refusal :=
  event (fun s =>
    if s.stopLine = .released then cascade (raise (.axis .stopLineAsserted none none) { s with stopLine := .asserted }) else s) s

/-- STOP_LINE_RELEASE (R68): a change from ASSERTED. -/
def execStopLineRelease (s : State) : Host.Outcome State Fault Refusal :=
  event (fun s =>
    if s.stopLine = .asserted then raise (.axis .stopLineReleased none none) { s with stopLine := .released } else s) s

/-- STOP_ALL (R69). -/
def execStopAll (s : State) : Host.Outcome State Fault Refusal :=
  answered .stopAll
    (fun s => (cascade (raise (.axis .stopAll none none) s), { code := .ok, fields := u8 s.stopLine.code })) s

/-- A HELD axis resumed (R71). -/
def Axis.resumed (a : Axis) : Axis := if a.state = .held then { a with state := .active, vPrev := 0 } else a

/-- The number of HELD axes. -/
def State.heldCount (s : State) : Nat := (allAxes.filter fun i => decide ((s.axis i).state = .held)).length

/-- RESUME_ALL (R71). -/
def execResumeAll (s : State) : Host.Outcome State Fault Refusal :=
  answered .resumeAll
    (fun s =>
      if s.stopLine = .asserted then (s, { code := .wrongState, fields := u8 s.stopLine.code ++ u8 0 })
      else (s.mapAxes fun _ a => a.resumed, { code := .ok, fields := u8 s.stopLine.code ++ u8 s.heldCount })) s

/-! ### SET_AXIS and RELEASE_AXIS (R173, R174) -/

/-- The axis after an accepted SET_AXIS (R173, R47). -/
def Axis.configure (a : Axis) (c : AxisConfig) : Axis :=
  let b : Axis := { a with
    cfg := some c, blend := { a.blend.steadyOn .live with live := a.out, trim := 0, mode := c.mode } }
  if a.state = .unconfigured then
    { b with state := .disabled, miss := 0, actual := none, drive := none, nextSeq := 0, window := none, prev := none }
  else b

/-- The channel a new record binds its axis to, if the axis was not bound to it before (R11). -/
def Axis.newChannel? (a : Axis) (c : AxisConfig) : Option (Fin 8) :=
  match c.channel with
  | some ch => if a.boundTo ch then none else some ch
  | none => none

/-- A channel enters CENTRED_WAIT (R11). -/
def centreChannel (ch : Option (Fin 8)) (s : State) : State :=
  match ch with
  | some j => { s with stick := { s.stick with channels := s.stick.channels.set j .centredWait } }
  | none => s

/-- SET_AXIS (R173): the reply names the first field that failed check 3. -/
def execSetAxis (axis : Nat) (fields : WireAxis) (s : State) : Host.Outcome State Fault Refusal :=
  answered (.setAxis axis fields)
    (fun s =>
      let no (c : Result) (f : Option Nat) : State × Reply := (s, { code := c, fields := encOpt 1 u8 f })
      match indexOf? 8 axis with
      | none => no .badValue none
      | some i =>
        let a := s.axis i
        if ¬ (a.state = .unconfigured ∨ a.state = .disabled) then no .wrongState none
        else
          match badField? fields with
          | some f => no .badValue (some f)
          | none =>
            let c := configOf fields
            (withClears s (centreChannel (a.newChannel? c) (s.setAxis i (a.configure c))),
              { code := .ok, fields := encOpt 1 u8 none })) s

/-- The axis after an accepted RELEASE_AXIS: its output record keeps its values (R174). -/
def Axis.unconfigure (a : Axis) : Axis := { Axis.reset with out := a.out, vPrev := a.vPrev, flags := a.flags }

/-- RELEASE_AXIS (R174). -/
def execReleaseAxis (axis : Nat) (s : State) : Host.Outcome State Fault Refusal :=
  answered (.releaseAxis axis)
    (fun s =>
      match indexOf? 8 axis with
      | none => refuse .badValue s
      | some i =>
        if (s.axis i).state ≠ .disabled then refuse .wrongState s
        else if geometric i && s.inEnabledZone (pointOf fun j => if j = i then 0 else s.geoOut j) then refuse .zoneConflict s
        else accept (withClears s (s.setAxis i (s.axis i).unconfigure))) s

/-! ### ENABLE_AXIS, DISABLE_AXIS, CLEAR_FAULT (R176 to R178, R184) -/

/-- The checks of one axis of an ENABLE_AXIS, in order (R176, check 3). DESIGN CHOICE (log 39): they go by the record alone, so a silent
drive whose miss count a CLEAR_FAULT has set to 0 passes until the next window close, where R184 reads otherwise. -/
def enableCheck (s : State) (i : Fin 8) : Result :=
  let a := s.axis i
  if a.state ≠ .disabled then .wrongState
  else
    match a.actual, a.cfg with
    | some x, some c =>
      if a.miss ≠ 0 then .wrongState
      else if a.drive ≠ some .ok then .wrongState
      else if x < c.softMin ∨ c.softMax < x then .outsideLimits
      else .ok
    | _, _ => .wrongState

/-- The point of the geometric axes with the axes of the mask at their actual positions (R176, check 4). -/
def State.enablePoint (s : State) (m : Mask) : Point :=
  pointOf fun j => if Mask.has m j then (s.axis j).actual.getD 0 else s.geoOut j

/-- An axis seated at its actual position and ACTIVE (R177, R49, R46). -/
def Axis.seated (a : Axis) : Axis :=
  let x := a.actual.getD 0
  { a with state := .active, out := x, vPrev := 0, flags := ClampFlags.none, blend := a.blend.seat x }

/-- ENABLE_AXIS (R176, R177). -/
def execEnableAxis (mask : Nat) (s : State) : Host.Outcome State Fault Refusal :=
  answered (.enableAxis mask)
    (fun s =>
      let no (c : Result) (i : Option (Fin 8)) : State × Reply := (s, { code := c, fields := encAxis? i })
      match maskOf? mask with
      | none => no .badValue none
      | some m =>
        if s.stopLine = .asserted then no .wrongState none
        else
          match firstFailing (enableCheck s) (Mask.axes m) with
          | some (i, c) => no c (some i)
          | none =>
            if (Mask.axes m).any geometric && s.inEnabledZone (s.enablePoint m) then no .zoneConflict none
            else
              (withClears s (s.mapAxes fun i a => if Mask.has m i then a.seated else a),
                { code := .ok, fields := encAxis? none })) s

/-- The check of one axis of a DISABLE_AXIS (R178). -/
def disableCheck (s : State) (i : Fin 8) : Result := if (s.axis i).enabled then .ok else .wrongState

/-- DISABLE_AXIS (R178, R175). -/
def execDisableAxis (mask : Nat) (s : State) : Host.Outcome State Fault Refusal :=
  answered (.disableAxis mask)
    (fun s =>
      match maskOf? mask with
      | none => (s, { code := .badValue, fields := encAxis? none })
      | some m =>
        match firstFailing (disableCheck s) (Mask.axes m) with
        | some (i, c) => (s, { code := c, fields := encAxis? (some i) })
        | none =>
          (allHeldIf s.anyStopping (withClears s (s.mapAxes fun i a => if Mask.has m i then a.left .disabled else a)),
            { code := .ok, fields := encAxis? none })) s

/-- The log holds a record that names the axis (R184, check 3). -/
def FaultLog.holds (l : FaultLog) (i : Fin 8) : Bool :=
  l.locked &&
    match l.record with
    | some r => decide (r.axis = some i)
    | none => false

/-- CLEAR_FAULT (R184): the miss count becomes 0 and the drive status is kept; what an ENABLE_AXIS taken before the next window
close makes of them is log 39 (DESIGN CHOICE). -/
def execClearFault (axis : Nat) (s : State) : Host.Outcome State Fault Refusal :=
  answered (.clearFault axis)
    (fun s =>
      match indexOf? 8 axis with
      | none => refuse .badValue s
      | some i =>
        if (s.axis i).state ≠ .fault then refuse .wrongState s
        else if s.log.holds i then refuse .locked s
        else accept (s.setAxis i { s.axis i with state := .disabled, cause := none, miss := 0 })) s

/-! ### GET_AXIS (R185) -/

/-- The fields of a GET_AXIS reply (R185). DESIGN CHOICE (log 41): the drive status and the drive code are two optional fields. -/
def axisFields (a : Axis) (line : StopLine) : List Byte :=
  u8 a.state.code ++ encOpt 1 (fun c : FaultCause => u8 c.code) a.cause ++ encOpt 30 encConfig a.cfg ++ u8 a.miss
    ++ encOpt 3 s24 a.actual ++ encOpt 1 (fun d : DriveStatus => u8 d.code) a.drive
    ++ encOpt 1 u8 (a.drive.bind DriveStatus.driveCode?) ++ encOpt 1 (fun w : Window => u8 w.seq) a.window
    ++ s24 a.out ++ s24 a.vPrev ++ u8 a.flags.bits ++ u8 line.code

/-- GET_AXIS (R185). -/
def execGetAxis (axis : Nat) (s : State) : Host.Outcome State Fault Refusal :=
  answered (.getAxis axis)
    (fun s =>
      match indexOf? 8 axis with
      | none => refuse .badValue s
      | some i => (s, { code := .ok, fields := axisFields (s.axis i) s.stopLine })) s

end Sys2Proof.Machine
end

