-- ==== Sys2Proof/Machine/Zones.lean ====
section
/-! DEFINITION. The requests of the zone table (section 3.3). -/

namespace Sys2Proof.Machine

/-- Zone `i` of the state. -/
def State.zone (s : State) (i : Fin 8) : Zone := s.zones[i]

/-- Replaces zone `i`. -/
def State.setZone (s : State) (i : Fin 8) (z : Zone) : State := { s with zones := s.zones.set i z }

/-- SET_ZONE (R57). -/
def execSetZone (index : Nat) (swing lift reach track : WireBound) (s : State) : Host.Outcome State Fault Refusal :=
  answered (.setZone index swing lift reach track)
    (fun s =>
      match indexOf? 8 index with
      | none => refuse .badValue s
      | some i =>
        let z : Zone := { s.zone i with swing := swing, lift := lift, reach := reach, track := track }
        if (s.zone i).enabled then refuse .wrongState s
        else if z.isDefined && boundOk swing && boundOk lift && boundOk reach && boundOk track then accept (s.setZone i z)
        else refuse .badValue s) s

/-- CLEAR_ZONE (R58). -/
def execClearZone (index : Nat) (s : State) : Host.Outcome State Fault Refusal :=
  answered (.clearZone index)
    (fun s =>
      match indexOf? 8 index with
      | none => refuse .badValue s
      | some i =>
        if (s.zone i).enabled then refuse .wrongState s
        else accept (s.setZone i { s.zone i with swing := none, lift := none, reach := none, track := none })) s

/-- ZONE_ON (R59). -/
def execZoneOn (index : Nat) (s : State) : Host.Outcome State Fault Refusal :=
  answered (.zoneOn index)
    (fun s =>
      match indexOf? 8 index with
      | none => refuse .badValue s
      | some i =>
        if (s.zone i).isDefined = false then refuse .wrongState s
        else if (s.zone i).enabled then accept s
        else if (s.zone i).contains s.outPoint then refuse .zoneConflict s
        else accept (s.setZone i { s.zone i with enabled := true, holding := false })) s

/-- ZONE_OFF (R60). -/
def execZoneOff (index : Nat) (s : State) : Host.Outcome State Fault Refusal :=
  answered (.zoneOff index)
    (fun s =>
      match indexOf? 8 index with
      | none => refuse .badValue s
      | some i => accept (s.setZone i { s.zone i with enabled := false, holding := false })) s

/-- A bound in a reply: a presence byte, lo and hi. -/
def encBound (b : WireBound) : List Byte := encOpt 6 (fun q : Int × Int => s24 q.1 ++ s24 q.2) b

/-- The fields of a GET_ZONE reply (R61). -/
def zoneFields (z : Zone) : List Byte :=
  encBound z.swing ++ encBound z.lift ++ encBound z.reach ++ encBound z.track ++ encBool z.enabled ++ encBool z.holding

/-- GET_ZONE (R61). -/
def execGetZone (index : Nat) (s : State) : Host.Outcome State Fault Refusal :=
  answered (.getZone index)
    (fun s =>
      match indexOf? 8 index with
      | none => refuse .badValue s
      | some i => (s, { code := .ok, fields := zoneFields (s.zone i) })) s

end Sys2Proof.Machine
end

