-- ==== Sys2Proof/Machine/Limit.lean ====
section
/-! DEFINITION. The Limit Stage (chapter 3): the limit chain, the stop ramp, the zone check and the output records. -/

namespace Sys2Proof.Machine

/-- Step 4, the slowing band (R53): the velocity after the band. -/
def bandStep (c : AxisConfig) (out vc : Int) : Int :=
  if c.band = 0 then vc
  else if 0 < vc ∧ c.softMax - out < c.band then min vc (floorDiv (c.vmax * (c.softMax - out)) c.band)
  else if vc < 0 ∧ out - c.softMin < c.band then max vc (- floorDiv (c.vmax * (out - c.softMin)) c.band)
  else vc

/-- The velocity after step 2 (R52). -/
def accelStep (c : AxisConfig) (vPrev vc : Int) : Int := sat (vPrev - c.amax) (vPrev + c.amax) vc

/-- The velocity after step 3 (R52). -/
def speedStep (c : AxisConfig) (vc : Int) : Int := sat (- (c.vmax : Int)) c.vmax vc

/-- The stop ramp (R65): v_prev moved toward 0 by 2 × amax, not past it. -/
def rampStep (c : AxisConfig) (vPrev : Int) : Int :=
  if 0 < vPrev then max 0 (vPrev - 2 * c.amax) else if vPrev < 0 then min 0 (vPrev + 2 * c.amax) else 0

/-- What steps 1 to 5, or the stop ramp and step 5, propose for an axis: its position and its clamp flags. -/
structure Proposal where
  p : Int
  flags : ClampFlags
deriving DecidableEq, Repr

/-- Step 5, the soft-limit clamp (R54), on a velocity and the flags so far. -/
def softStep (c : AxisConfig) (out vc : Int) (f : ClampFlags) : Proposal :=
  let p := sat c.softMin c.softMax (out + vc)
  { p := p, flags := { f with soft := decide (p ≠ out + vc) } }

/-- Steps 1 to 5 for an ACTIVE axis with its candidate and the flags handed over (R50, R52 to R54). -/
def limitChain (c : AxisConfig) (out vPrev cand : Int) (f : ClampFlags) : Proposal :=
  let v1 := cand - out
  let v2 := accelStep c vPrev v1
  let v3 := speedStep c v2
  let v4 := bandStep c out v3
  softStep c out v4 { f with accel := decide (v2 ≠ v1), velocity := decide (v3 ≠ v2), band := decide (v4 ≠ v3) }

/-- The stop ramp and step 5 for a STOPPING axis (R65). -/
def stopChain (c : AxisConfig) (out vPrev : Int) : Proposal :=
  softStep c out (rampStep c vPrev) { ClampFlags.none with stop := true }

/-- The proposal of an ACTIVE or STOPPING axis; none for any other. -/
def Axis.propose (a : Axis) (cand : Int) (f : ClampFlags) : Option Proposal :=
  match a.cfg with
  | none => none
  | some c =>
    match a.state with
    | .active => some (limitChain c a.out a.vPrev cand f)
    | .stopping => some (stopChain c a.out a.vPrev)
    | .unconfigured | .disabled | .held | .fault => none

/-- The record of an axis whose position is settled (R51): a STOPPING axis that publishes a velocity of 0 is HELD (R66). -/
def Axis.settle (a : Axis) (p : Int) (f : ClampFlags) : Axis :=
  { a with
    out := p, vPrev := p - a.out, flags := f,
    state := if a.state = .stopping ∧ p = a.out then .held else a.state }

/-- The output record of an axis after stage 5 (R51, R55, R63); `hold` tells that the zone hold acts on it. -/
def Axis.limited (a : Axis) (hold : Bool) (q : Option Proposal) : Axis :=
  match q with
  | some x => if hold then a.settle a.out { x.flags with zone := true } else a.settle x.p x.flags
  | none => if a.state = .held then { a with vPrev := 0, flags := ClampFlags.none } else a

/-- Some geometric axis is ACTIVE or STOPPING (R62). -/
def State.geometricMoving (s : State) : Bool := allAxes.any fun i => geometric i && (s.axis i).moving

/-- The point q of the zone check (R62). -/
def State.checkPoint (s : State) (q : Fin 8 → Option Proposal) : Point :=
  pointOf fun i =>
    match q i with
    | some x => x.p
    | none => s.geoOut i

/-- The HOLDING flag of a zone after a zone check (R64); cleared when no check is made (R62). -/
def Zone.checked (z : Zone) (made : Bool) (q : Point) : Zone := { z with holding := made && z.enabled && z.contains q }

/-- The ZONE notices of a check, in ascending index (R64): `s` is the state before it. -/
def zoneNotices (s : State) (q : Point) (s' : State) : State :=
  (allAxes.filter fun i => !(s.zone i).holding && (s'.zone i).holding).foldl
    (fun t i => raise (.zone i q.swing q.lift q.reach q.track) t) s'

/-- Stage 5 (R51): the candidates and flags handed over are `cand` and `f`. -/
def limitStage (cand : Fin 8 → Int) (f : Fin 8 → ClampFlags) (s : State) : State :=
  let prop (i : Fin 8) := (s.axis i).propose (cand i) (f i)
  let q := s.checkPoint prop
  let made := s.geometricMoving
  let hold := made && s.inEnabledZone q
  let s1 := s.mapAxes fun i a => a.limited (hold && geometric i) (prop i)
  let s2 := { s1 with zones := Vector.ofFn fun i => (s.zone i).checked made q }
  let stopped := allAxes.any fun i => decide ((s.axis i).state = .stopping) && decide ((s2.axis i).state = .held)
  allHeldIf stopped (zoneNotices s q s2)

end Sys2Proof.Machine
end

