-- ==== Sys2Proof/Machine/Panel.lean ====
section
/-! DEFINITION. The Stick Port's frame receiver, the arrival of a panel frame and the requests of the Stick Port
(chapter 1). -/

namespace Sys2Proof.Machine

/-! ### The arrival of a frame (R2 to R5) -/

/-- The substitution of R5: a sample of −2048 is stored as −2047. -/
def storedSample (x : Int) : Int := if x = -2048 then -2047 else x

/-- A completed frame is valid (R2). -/
def panelValid (seq : Nat) (samples : List Int) (codes : List Nat) (check : Nat) : Bool :=
  decide (check = panelCheck seq samples codes) && samples.all (fun x => decide (-2048 ≤ x) && decide (x ≤ 2047))
    && codes.all (within 1 255)

/-- Stages 1 to 4 of R3 at the port, without the notice. -/
def StickPort.arrive (p : StickPort) (seq : Nat) (samples : List Int) : StickPort :=
  { p with
    held := Vector.ofFn fun ch : Fin 8 => storedSample (samples.getD ch.val 0), port := .live, elapsed := 0, seq := some seq }

/-- Stage 5 of R3 at every channel (R10). -/
def releaseChannels (s : State) : State :=
  { s with stick := { s.stick with channels := Vector.ofFn fun ch => s.released ch } }

/-- The arrival of a valid frame at the port (R3): samples, port state, timer, sequence number and channels. Beside the state
it leaves, the button codes to hand on: those of a frame whose number differs from the recorded one (R4). -/
def portArrival (seq : Nat) (samples : List Int) (codes : List Nat) (s : State) : State × List Nat :=
  let s1 := { s with stick := s.stick.arrive seq samples }
  (releaseChannels (if s.stick.port = .stale then raise (.stick .live (some seq)) s1 else s1),
    if s.stick.seq = some seq then [] else codes)

/-- The codes are handed on, in their order (R3, R16). -/
def handOn (r : State × List Nat) : State := r.2.foldl buttonCode r.1

/-- A completed frame at the port: valid frames arrive, malformed ones are discarded (R2). -/
def portComplete (seq : Nat) (samples : List Int) (codes : List Nat) (check : Nat) (s : State) : State × List Nat :=
  if panelValid seq samples codes check then portArrival seq samples codes s else (s, [])

/-- A completed frame, whose button codes act at once. -/
def panelComplete (seq : Nat) (samples : List Int) (codes : List Nat) (check : Nat) (s : State) : State :=
  handOn (portComplete seq samples codes check s)

/-- The frame receiver is HUNTING. -/
def panelHunt (s : State) : State := { s with stick := { s.stick with receiver := none } }

/-- The fields of a frame of these operands are those a frame on the line can carry: eight 16-bit samples, at most four
one-byte codes and a one-byte sequence number. -/
def panelShape (seq : Nat) (samples : List Int) (codes : List Nat) : Bool :=
  decide (seq ≤ 255) && decide (samples.length = 8) && decide (codes.length ≤ 4)

/-- The receiver completes a frame of these fields (R1 to R3). Fields that no line carries are discarded. -/
def portFrame (seq : Nat) (samples : List Int) (codes : List Nat) (check : Nat) (s : State) : State × List Nat :=
  if panelShape seq samples codes then portComplete seq samples codes check (panelHunt s) else (panelHunt s, [])

/-- PANEL_FRAME. -/
def execPanelFrame (seq : Nat) (samples : List Int) (codes : List Nat) (check : Nat) (s : State) :
    Host.Outcome State Fault Refusal :=
  event (fun s => handOn (portFrame seq samples codes check s)) s

/-- An event at the Stick Port while an output frame is in progress (R12). -/
def stickEvent (e : StickEvent) (s : State) : State × List Nat :=
  match e with
  | .frame seq samples codes check => portFrame seq samples codes check s
  | .expiry => (staleExpire s, [])

/-- Events at the Stick Port one after the other, with all the button codes to hand on. -/
def stickEvents : List StickEvent → State → State × List Nat
  | [], s => (s, [])
  | e :: t, s => ((stickEvents t (stickEvent e s).1).1, (stickEvent e s).2 ++ (stickEvents t (stickEvent e s).1).2)

/-! ### The frame receiver (R1) -/

/-- A signed two-byte field at offset `o`. -/
def fieldS16 (l : List Byte) (o : Nat) : Int := signedOf 16 (fieldN l o 2)

/-- The frame in the receiver is complete: its fields (Table 1-1). -/
def panelBytes (l : List Byte) (s : State) : State :=
  let n := fieldN l 2 1
  panelComplete (fieldN l 1 1) ((List.range 8).map fun i => fieldS16 l (3 + 2 * i))
    (((l.drop 19).take n).map BitVec.toNat) (fieldN l (19 + n) 1) (panelHunt s)

/-- A byte at the frame receiver (R1). -/
def panelReceive (b : Byte) (framingError : Bool) (s : State) : State :=
  match s.stick.receiver with
  | none => if framingError = false ∧ b = 165#8 then { s with stick := { s.stick with receiver := some [b] } } else s
  | some buf =>
    let l := buf ++ [b]
    if framingError then panelHunt s
    else if l.length = 3 ∧ 4 < fieldN l 2 1 then panelHunt s
    else if 3 ≤ l.length ∧ l.length = 20 + fieldN l 2 1 then panelBytes l s
    else { s with stick := { s.stick with receiver := some l } }

/-- PANEL_BYTE: one byte on the panel line (R1). -/
def execPanelByte (byte : Byte) (framingError : Bool) (s : State) : Host.Outcome State Fault Refusal :=
  event (panelReceive byte framingError) s

/-- PANEL_GAP_TIMEOUT: the frame under assembly is abandoned (R1). -/
def execPanelGapTimeout (s : State) : Host.Outcome State Fault Refusal := event panelHunt s

/-! ### Requests (R8, R9) -/

/-- SET_PANEL (R8): a timer whose elapsed time has reached the new value expires at once. -/
def execSetPanel (timeout : Nat) (s : State) : Host.Outcome State Fault Refusal :=
  answered (.setPanel timeout)
    (fun s =>
      if within 10 500 timeout = false then refuse .badValue s
      else
        let s' := { s with stick := { s.stick with timeout := timeout } }
        accept (if s.stick.port = .live ∧ timeout ≤ s.stick.elapsed then staleExpire s' else s')) s

/-- The fields of a GET_PANEL reply (R9). -/
def panelFields (p : StickPort) : List Byte :=
  u8 p.port.code ++ u16 p.timeout ++ encOpt 1 u8 p.seq
    ++ allAxes.flatMap fun ch => s16 p.held[ch] ++ u8 (p.channels[ch]).code

/-- GET_PANEL (R9). -/
def execGetPanel (s : State) : Host.Outcome State Fault Refusal := query .getPanel (fun s => panelFields s.stick) s

end Sys2Proof.Machine
end

