-- ==== Sys2Proof/Machine/Frame.lean ====
section
/-! DEFINITION. The output frame (section 2.2): its seven stages and its publication. -/

namespace Sys2Proof.Machine

/-! ### Stage 1 (R19, R20) -/

/-- The frame number advances; the interval that begins has the period as last set. -/
def FrameTimer.expire (t : FrameTimer) : FrameTimer :=
  { t with interval := t.period, elapsed := 0, number := (t.number + 1) % Config.frameWrap }

/-! ### Stick velocity and tip-speed scaling (R29, R31) -/

/-- The scale s before its clamp (R31). -/
def Geometry.rawScale (g : Geometry) (reachOut : Int) : Int :=
  floorDiv ((g.rRef : Int) * 4096) (max ((g.rBase : Int) + reachOut) g.rMin)

/-- The scale s (R31). -/
def Geometry.scale (g : Geometry) (reachOut : Int) : Int := sat 256 16384 (g.rawScale reachOut)

/-- The stick velocity of an ACTIVE axis (R29, R31) for its demand. -/
def stickVelocity (c : AxisConfig) (g : Geometry) (reachOut d : Int) : Int :=
  let v := truncDiv (d * c.vstick) 32767
  if c.tipScaled then truncDiv (v * g.scale reachOut) 4096 else v

/-- TIP_CLAMP of an ACTIVE axis (R31): the clamp on the scale acted. -/
def tipClamp (c : AxisConfig) (g : Geometry) (reachOut : Int) : Bool :=
  c.tipScaled && decide (g.scale reachOut ≠ g.rawScale reachOut)

/-! ### Routing and the candidate (R32, R34) -/

/-- The record after routing v (R32). -/
def Blend.route (b : Blend) (c : AxisConfig) (v : Int) : Blend :=
  if b.names .live then { b with live := sat c.softMin c.softMax (b.live + v) }
  else if b.mode = .trim then { b with trim := sat (- (c.trimMax : Int)) c.trimMax (b.trim + v) }
  else b

/-- TRIM_SAT (R32): the trim was routed and its sum lay outside the range. -/
def Blend.trimSat (b : Blend) (c : AxisConfig) (v : Int) : Bool :=
  !(b.names .live) && decide (b.mode = .trim) && decide ((c.trimMax : Int) < (b.trim + v).natAbs)

/-- The position of a source (R27), from the players' answers for the axis. -/
def Blend.position (b : Blend) (a p : Int) : Source → Int
  | .live => b.live
  | .playA => a + b.trim
  | .playB => p + b.trim

/-- The candidate (R34), from the record after routing and the players' answers. -/
def Blend.candidate (b : Blend) (a p : Int) : Int :=
  b.position a p b.fromSrc + roundDiv ((b.position a p b.toSrc - b.position a p b.fromSrc) * b.weight) 1024

/-! ### Stage 4 at one axis; `s` is the state after stage 2 -/

/-- The stick velocity, in this frame, of an ACTIVE axis with record `c`. -/
def State.velocity (s : State) (c : AxisConfig) : Int :=
  stickVelocity c s.geometry (s.geoOut reach) (s.stick.axisDemand c)

/-- The record of axis `i` after routing (R32). -/
def State.routed (s : State) (i : Fin 8) : Blend :=
  match (s.axis i).cfg with
  | some c => (s.axis i).blend.route c (s.velocity c)
  | none => (s.axis i).blend

/-- The candidate of axis `i` (R34). -/
def State.candidate (s : State) (i : Fin 8) : Int := (s.routed i).candidate (s.playerA.answer i) (s.playerB.answer i)

/-- The flags the Blend Engine hands over for axis `i` (R35). -/
def State.handedFlags (s : State) (i : Fin 8) : ClampFlags :=
  match (s.axis i).cfg with
  | some c =>
    { ClampFlags.none with
      trimSat := (s.axis i).blend.trimSat c (s.velocity c), tipClamp := tipClamp c s.geometry (s.geoOut reach) }
  | none => ClampFlags.none

/-- Stage 4 at every ACTIVE axis: routing and fade progress, with the reference-clear arrivals (R28, R32, R36). -/
def blendStage (s : State) : State :=
  withClears s (s.mapAxes fun i a => if a.state = .active then { a with blend := (s.routed i).progress } else a)

/-! ### Stages 6 and 7 (R33, R25) -/

/-- Stage 6: L is tracked against out at every configured axis. -/
def trackStage (s : State) : State :=
  s.mapAxes fun _ a => if a.configured then { a with blend := a.blend.track a.out } else a

/-- The output set: the out of every configured axis (R25). -/
def State.publishedOuts (s : State) : Vector (Option Int) 8 :=
  Vector.ofFn fun i => if (s.axis i).configured then some (s.axis i).out else none

/-- A publication at one of the four blocks; `f` is the state published (R25). -/
def publishTo (f s : State) : Sink → State
  | .driveLine => drivePublication f s
  | .recorder => recorderPublication s
  | .cue => cuePublication s
  | .noticeUnit => dividerCount f s

/-- The order in which the four blocks, once each, take a publication: the order given, with its repetitions left out and
the blocks it does not name after it. -/
def sinkOrder (order : List Sink) : List Sink :=
  (order ++ [Sink.noticeUnit, Sink.driveLine, Sink.recorder, Sink.cue]).foldl (fun l x => if x ∈ l then l else l ++ [x]) []

/-- The player asked first. -/
def firstAsked : PlayerOrder → PlayerId
  | .aFirst => .a
  | .bFirst => .b

/-- The player asked second. -/
def secondAsked : PlayerOrder → PlayerId
  | .aFirst => .b
  | .bFirst => .a

/-- Stage 2: both players are asked, in this order (R22, R114). Each request is answered whole from the held samples as they
then stand, and panel frames and stale expiries may fall between the two requests and between the second one and the Blend
Engine's (R12, R113); which of them do is open, so they are operands (log 29). So are the key accesses that complete before,
between and after the two requests (R114, R123; log 35). Beside the state, the button codes that the frames handed on. -/
def askPlayers (players : PlayerTurns) (s : State) : State × List Nat :=
  let s1 := positionRequest (firstAsked players.order) (frameAccesses players.accesses s)
  let r1 := stickEvents players.mid (frameAccesses players.midAccesses s1)
  let s2 := positionRequest (secondAsked players.order) r1.1
  let r2 := stickEvents players.late (frameAccesses players.lateAccesses s2)
  (r2.1, r1.2 ++ r2.2)

/-- Stages 3 to 6 (R22). The demand of every axis is formed from one set of held samples, those of `s` (R12). -/
def blendAndLimit (s : State) : State := trackStage (limitStage s.candidate s.handedFlags (blendStage s))

/-- Stages 1 to 6 (R22), with the button codes handed on meanwhile. -/
def computeFrame (players : PlayerTurns) (s : State) : State × List Nat :=
  let r := askPlayers players { s with timer := s.timer.expire }
  (blendAndLimit r.1, r.2)

/-- Stage 7 (R25): the four blocks take the publication in this order. -/
def publish (order : List Sink) (s : State) : State :=
  let f := { s with outputSet := s.publishedOuts, recorder := { s.recorder with awaiting := true } }
  (sinkOrder order).foldl (publishTo f) f

/-- After the publication: the players take the DAMAGED outcomes delivered in the frame (R123), in this order. -/
def takeFaults (order : PlayerOrder) (s : State) : State := takeArrived (secondAsked order) (takeArrived (firstAsked order) s)

/-- One output frame (R22), after whose publication the players take the DAMAGED outcomes delivered in it (R123). The actions of
the button codes that arrived meanwhile are taken between this frame and the next, as requests are (R23, R170; log 29). -/
def outputFrame (order : List Sink) (players : PlayerTurns) (s : State) : State :=
  let r := computeFrame players s
  handOn (takeFaults players.faults (publish order r.1), r.2)

/-- OUTPUT_FRAME: the Frame Timer expires (R18, R22). -/
def execOutputFrame (order : List Sink) (players : PlayerTurns) (s : State) : Host.Outcome State Fault Refusal :=
  event (outputFrame order players) s

/-- STATUS_REPORT_DUE (R192). -/
def execStatusReportDue (s : State) : Host.Outcome State Fault Refusal := event (fun s => statusDue s s) s

end Sys2Proof.Machine
end

