-- ==== Sys2Proof/Machine/Clock.lean ====
section
/-! DEFINITION. What passes while no command waits: a millisecond of the block's own clocks. -/

namespace Sys2Proof.Machine

/-- The stale timer of a LIVE port counts a millisecond, and expires when it has reached stick_timeout (R6, R7). -/
def stickMillisecond (s : State) : State :=
  if s.stick.port = .live then
    let s' := { s with stick := { s.stick with elapsed := s.stick.elapsed + 1 } }
    if s'.stick.timeout ≤ s'.stick.elapsed then staleExpire s' else s'
  else s

/-- The Frame Timer counts a millisecond, and expires at the end of the interval in progress (R18, R20); the four blocks take
the publication in the order that `sinkOrder` gives by itself, and nothing comes about at the Stick Port or at the key store port
meanwhile (logs 2, 29 and 35). -/
def frameMillisecond (s : State) : State :=
  let s' := { s with timer := { s.timer with elapsed := s.timer.elapsed + 1 } }
  if s'.timer.interval ≤ s'.timer.elapsed then outputFrame [] { order := .aFirst } s' else s'

/-- A millisecond in which no command comes: both receive lines are silent for longer than their gaps (R1, R195), the stale
timer counts and then the Frame Timer. -/
def millisecond (s : State) : State := frameMillisecond (stickMillisecond (consoleGap (panelHunt s)))

/-- The delivery of the oldest WAITING request (R196): one that fails the Console Link's own check is answered there. -/
def delivery? (s : State) : Option (Place × Decoded) :=
  if s.delivers then s.link.oldest?.map fun p => (p, s.decoded p) else none

end Sys2Proof.Machine
end

