-- ==== Sys2Proof/Machine/NoticeRequests.lean ====
section
/-! DEFINITION. The requests of the Notice Unit (chapter 10). -/

namespace Sys2Proof.Machine

/-- Every class takes its enable flag from the bits of a number (Note 3 to Table 11-5). -/
def NoticeUnit.enabledBy (u : NoticeUnit) (enables : Nat) (multi : Bool) : NoticeUnit :=
  { slots := Vector.ofFn fun i => { u.slots[i] with enabled := Nat.testBit enables i.val }, multi := multi }

/-- SET_NOTICES (R189): bits beyond the ten classes must be 0. -/
def execSetNotices (enables multi : Nat) (s : State) : Host.Outcome State Fault Refusal :=
  answered (.setNotices enables multi)
    (fun s =>
      match boolOf? multi with
      | some m => if enables < 1024 then accept { s with notices := s.notices.enabledBy enables m } else refuse .badValue s
      | none => refuse .badValue s) s

/-- The fields of a GET_NOTICES reply (R189). -/
def noticeFields (u : NoticeUnit) : List Byte :=
  (u.slots.toList.flatMap fun x => encBool x.enabled ++ encBool x.pending ++ encBool x.coalesced) ++ encBool u.multi

/-- GET_NOTICES (R189). -/
def execGetNotices (s : State) : Host.Outcome State Fault Refusal := query .getNotices (fun s => noticeFields s.notices) s

/-- The bytes of a fault log record (Table 10-2): kind, axis, player, frame number, setpoint, actual, drive code, move and
key index. -/
def faultRecordWidth : Nat := 1 + 2 + 2 + 4 + 4 + 4 + 2 + 2 + 3

/-- The fields of a READ_LOG reply (R191). -/
def logFields (l : FaultLog) : List Byte :=
  u8 (if l.locked then 1 else 0) ++ encOpt faultRecordWidth encFaultRecord l.record ++ encBool l.multiple
    ++ u8 (laterBits l.later)

/-- READ_LOG (R191). -/
def execReadLog (s : State) : Host.Outcome State Fault Refusal := query .readLog (fun s => logFields s.log) s

/-- CLEAR_LOG (R191). -/
def execClearLog (s : State) : Host.Outcome State Fault Refusal :=
  answered .clearLog (fun s => accept { s with log := FaultLog.reset }) s

/-- SET_STATUS (R193). -/
def execSetStatus (interval : Nat) (s : State) : Host.Outcome State Fault Refusal :=
  answered (.setStatus interval)
    (fun s =>
      if 1000 < interval then refuse .badValue s
      else accept { s with status := { s.status with interval := interval, count := 0 } }) s

/-- GET_STATUS (R193). -/
def execGetStatus (s : State) : Host.Outcome State Fault Refusal := query .getStatus (fun s => encStatus (buildStatus s s 0)) s

end Sys2Proof.Machine
end

