-- ==== Sys2Proof/Machine/Power.lean ====
section
/-! DEFINITION. Power-on, loss of power, retention and recovery (section 4.10), RESTART, IDENT and the end of a transmission
(chapter 11). -/

namespace Sys2Proof.Machine

/-! ### The volatile state (R98, R101 and the value tables of the chapters) -/

/-- Every block at its values after reset, with no retained table touched but for the users counts (Table 4-8) and the
enabled and HOLDING flags of the zones (R73); `line` is the STOP line state. -/
def resetVolatile (line : StopLine) (s : State) : State :=
  { State.reset with
    power := s.power, stopLine := line,
    lib := { s.lib with dir := s.lib.dir.map fun e => { e with users := 0 } },
    zones := s.zones.map fun z => { z with enabled := false, holding := false },
    marks := s.marks, cueList := s.cueList, triggers := s.triggers, pending := s.pending }

/-- The retained tables at their initial values (R99). -/
def initialiseRetained (s : State) : State :=
  { s with
    lib := Library.initial, zones := Vector.replicate 8 Zone.blank, marks := Vector.replicate 64 none,
    cueList := Vector.replicate 48 .finish, triggers := Vector.replicate 8 Trigger.blank }

/-- What the end of a reset reads at the STOP line (R68). -/
def stopLineRead : LoopCurrent → StopLine
  | .belowTwo => .asserted
  | .between => .asserted
  | .aboveFive => .released

/-! ### Recovery (R100) -/

/-- The blocks of a chain that hold the first `n` keys. -/
def blocksFor (n : Nat) : Nat := (n + (Config.slots - 1)) / Config.slots

/-- The trim of a WRITING entry's chain (R100): the blocks after the last stored key are released. -/
def trimChain (m : MoveIx) (s : State) : State :=
  let e := s.entry m
  let keep := (s.chain e).take (blocksFor e.keys)
  let s1 := releaseBlocks m ((s.chain e).drop (blocksFor e.keys)) s
  let s2 :=
    match keep.getLast? with
    | some b => s1.setBlock b { s1.block b with link := none }
    | none => s1
  s2.setEntry m { e with first := keep.head?, last := keep.getLast? }

/-- The recovery of one entry, if it is WRITING (R100). -/
def recoverEntry (s : State) (m : MoveIx) : State :=
  if (s.entry m).state = .writing then
    let s1 := trimChain m s
    let e := s1.entry m
    if 2 ≤ e.keys then s1.setEntry m { e with state := .ready, writer := none, flags := { e.flags with truncated := true } }
    else emptyEntry m s1
  else s

/-- Recovery: every WRITING entry, in ascending id (R100). -/
def recover (s : State) : State := allMoves.foldl recoverEntry s

/-! ### Power (R98, R99) -/

/-- POWER_ON (R99, R100): the monitor is examined once, the retained tables are kept or initialised, every block takes its
reset values, and the library recovers. A part that has main power already sees no power-on. -/
def powerOn (loop : LoopCurrent) (s : State) : State :=
  let lost := s.power.monitorLoss
  let s1 := if lost then initialiseRetained s else s
  recover (resetVolatile (stopLineRead loop) { s1 with power := { on := true, monitorLoss := false, retentionLost := lost } })

/-- POWER_ON. -/
def execPowerOn (loop : LoopCurrent) (s : State) : Host.Outcome State Fault Refusal :=
  if s.power.on then .next s else .next (pump (powerOn loop s))

/-- Main power is lost (R98): the volatile state is lost, the retained tables are kept whole. -/
def powerLost (s : State) : State := resetVolatile s.stopLine { s with power := { s.power with on := false } }

/-- MAIN_POWER_LOSS (R98). -/
def execMainPowerLoss (s : State) : Host.Outcome State Fault Refusal := if s.power.on then .next (powerLost s) else .next s

/-- RETENTION_SUPPLY_LOSS (R99): the store is without main and backup supply, loses its contents, and the monitor will
report loss. -/
def execRetentionSupplyLoss (s : State) : Host.Outcome State Fault Refusal :=
  let t := powerLost (initialiseRetained s)
  .next { t with power := { t.power with monitorLoss := true } }

/-! ### RESTART (R202) -/

/-- RESTART: answered OK, and nothing further is delivered. -/
def execRestart (s : State) : Host.Outcome State Fault Refusal :=
  answered .restart (fun s => accept { s with link := { s.link with delivering := false } }) s

/-- The access in progress at the port completes at the library, and its outcome is delivered to no one (R100). -/
def finishForReset (check : KeyCheck) (s : State) : State :=
  match s.port.serving with
  | some v => finishAccess v check s
  | none => s

/-- The reset of a RESTART takes effect (R202, R100). -/
def restartEffect (loop : LoopCurrent) (check : KeyCheck) (s : State) : State :=
  recover (resetVolatile (stopLineRead loop) (finishForReset check s))

/-- The frame is the OK reply of a RESTART. -/
def TxFrame.isRestartReply (f : TxFrame) : Bool := decide (f.kind = 0x82) && decide (f.payload = (Reply.bare .ok).bytes)

/-- The last bit of the frame being sent has been sent (R200, R202). An IDLE transmitter has nothing to complete. -/
def transmitDone (loop : LoopCurrent) (check : KeyCheck) (s : State) : State :=
  match s.link.sending with
  | none => s
  | some f => if f.isRestartReply then restartEffect loop check s else { s with link := { s.link with sending := none } }

/-- TRANSMIT_DONE (R200): the free transmitter then chooses its next frame. -/
def execTransmitDone (loop : LoopCurrent) (check : KeyCheck) (s : State) : Host.Outcome State Fault Refusal :=
  event (transmitDone loop check) s

/-! ### IDENT (R201) -/

/-- The part name ZK-880. -/
def partName : List Nat := [90, 75, 45, 56, 56, 48]

/-- The fields of an IDENT reply (R201). -/
def identFields (s : State) : List Byte :=
  encName partName ++ u8 1 ++ encBool s.power.retentionLost ++ u16 Config.blocks ++ u8 Config.slots ++ u8 Config.moves
    ++ u8 Config.marks ++ u8 Config.zones ++ u8 Config.cueSteps ++ u8 Config.triggers ++ u8 Config.queueDepth
    ++ u8 Config.maxPayload ++ u16 s.lib.freeList.length

/-- IDENT (R201). -/
def execIdent (s : State) : Host.Outcome State Fault Refusal := query .ident identFields s

end Sys2Proof.Machine
end

