-- ==== Sys2Proof/Machine/Dispatch.lean ====
section
/-! DEFINITION. The meaning of every command, one arm each. -/

namespace Sys2Proof.Machine

/-- The effect of a command on everything but the queue of waiting commands. -/
def exec (i : Instr) (s : State) : Host.Outcome State Fault Refusal :=
  match i with
  | .powerOn loop => Sys2Proof.Machine.execPowerOn loop s
  | .panelFrame seq samples codes check => Sys2Proof.Machine.execPanelFrame seq samples codes check s
  | .panelGapTimeout => Sys2Proof.Machine.execPanelGapTimeout s
  | .staleTimeout => Sys2Proof.Machine.execStaleTimeout s
  | .outputFrame order players => Sys2Proof.Machine.execOutputFrame order players s
  | .fadeComplete axis => Sys2Proof.Machine.execFadeComplete axis s
  | .driveSilent axis => Sys2Proof.Machine.execDriveSilent axis s
  | .recorderTimeLimit => Sys2Proof.Machine.execRecorderTimeLimit s
  | .waitFramesExpired => Sys2Proof.Machine.execWaitFramesExpired s
  | .statusReportDue => Sys2Proof.Machine.execStatusReportDue s
  | .keyAccessComplete check => Sys2Proof.Machine.execKeyAccessComplete check s
  | .driveReply address sequence actual status code check => Sys2Proof.Machine.execDriveReply address sequence actual status code check s
  | .stopLineAssert => Sys2Proof.Machine.execStopLineAssert s
  | .stopLineRelease => Sys2Proof.Machine.execStopLineRelease s
  | .requestFrame kind tag payload check => Sys2Proof.Machine.execRequestFrame kind tag payload check s
  | .consoleGapTimeout => Sys2Proof.Machine.execConsoleGapTimeout s
  | .transmitDone loop check => Sys2Proof.Machine.execTransmitDone loop check s
  | .ident => Sys2Proof.Machine.execIdent s
  | .restart => Sys2Proof.Machine.execRestart s
  | .setPanel timeout => Sys2Proof.Machine.execSetPanel timeout s
  | .getPanel => Sys2Proof.Machine.execGetPanel s
  | .setFrame period => Sys2Proof.Machine.execSetFrame period s
  | .getFrame => Sys2Proof.Machine.execGetFrame s
  | .fade mask target len => Sys2Proof.Machine.execFade mask target len s
  | .takeOver => Sys2Proof.Machine.execTakeOver s
  | .getBlend axis => Sys2Proof.Machine.execGetBlend axis s
  | .setGeometry rBase rRef rMin releaseFrames => Sys2Proof.Machine.execSetGeometry rBase rRef rMin releaseFrames s
  | .getGeometry => Sys2Proof.Machine.execGetGeometry s
  | .setZone index swing lift reach track => Sys2Proof.Machine.execSetZone index swing lift reach track s
  | .clearZone index => Sys2Proof.Machine.execClearZone index s
  | .zoneOn index => Sys2Proof.Machine.execZoneOn index s
  | .zoneOff index => Sys2Proof.Machine.execZoneOff index s
  | .getZone index => Sys2Proof.Machine.execGetZone index s
  | .stopAll => Sys2Proof.Machine.execStopAll s
  | .resumeAll => Sys2Proof.Machine.execResumeAll s
  | .openMove id name mask => Sys2Proof.Machine.execOpenMove id name mask s
  | .putKeys id keys => Sys2Proof.Machine.execPutKeys id keys s
  | .closeMove id => Sys2Proof.Machine.execCloseMove id s
  | .readKeys id first count => Sys2Proof.Machine.execReadKeys id first count s
  | .deleteMove id => Sys2Proof.Machine.execDeleteMove id s
  | .protectMove id on => Sys2Proof.Machine.execProtectMove id on s
  | .getMove id => Sys2Proof.Machine.execGetMove id s
  | .listMoves => Sys2Proof.Machine.execListMoves s
  | .load channel id rate => Sys2Proof.Machine.execLoad channel id rate s
  | .run channel => Sys2Proof.Machine.execRun channel s
  | .pause channel => Sys2Proof.Machine.execPause channel s
  | .stop channel => Sys2Proof.Machine.execStop channel s
  | .setRate channel rate binding => Sys2Proof.Machine.execSetRate channel rate binding s
  | .getPlayer channel => Sys2Proof.Machine.execGetPlayer channel s
  | .setMark index name mask positions => Sys2Proof.Machine.execSetMark index name mask positions s
  | .storeMark index name mask => Sys2Proof.Machine.execStoreMark index name mask s
  | .clearMark index => Sys2Proof.Machine.execClearMark index s
  | .getMark index => Sys2Proof.Machine.execGetMark index s
  | .goTo channel mark frames => Sys2Proof.Machine.execGoTo channel mark frames s
  | .recordStart id name mask decimation shape onTrigger => Sys2Proof.Machine.execRecordStart id name mask decimation shape onTrigger s
  | .recordStop => Sys2Proof.Machine.execRecordStop s
  | .getRecorder => Sys2Proof.Machine.execGetRecorder s
  | .putCue first steps => Sys2Proof.Machine.execPutCue first steps s
  | .readCue first count => Sys2Proof.Machine.execReadCue first count s
  | .getCue => Sys2Proof.Machine.execGetCue s
  | .cueStart step => Sys2Proof.Machine.execCueStart step s
  | .cueStop => Sys2Proof.Machine.execCueStop s
  | .putTrigger index code action => Sys2Proof.Machine.execPutTrigger index code action s
  | .getTriggers => Sys2Proof.Machine.execGetTriggers s
  | .setAxis axis fields => Sys2Proof.Machine.execSetAxis axis fields s
  | .releaseAxis axis => Sys2Proof.Machine.execReleaseAxis axis s
  | .enableAxis mask => Sys2Proof.Machine.execEnableAxis mask s
  | .disableAxis mask => Sys2Proof.Machine.execDisableAxis mask s
  | .clearFault axis => Sys2Proof.Machine.execClearFault axis s
  | .getAxis axis => Sys2Proof.Machine.execGetAxis axis s
  | .setNotices enables multi => Sys2Proof.Machine.execSetNotices enables multi s
  | .getNotices => Sys2Proof.Machine.execGetNotices s
  | .readLog => Sys2Proof.Machine.execReadLog s
  | .clearLog => Sys2Proof.Machine.execClearLog s
  | .setStatus interval => Sys2Proof.Machine.execSetStatus interval s
  | .getStatus => Sys2Proof.Machine.execGetStatus s
  | .panelByte byte framingError => Sys2Proof.Machine.execPanelByte byte framingError s
  | .consoleByte byte framingError => Sys2Proof.Machine.execConsoleByte byte framingError s
  | .mainPowerLoss => Sys2Proof.Machine.execMainPowerLoss s
  | .retentionSupplyLoss => Sys2Proof.Machine.execRetentionSupplyLoss s

end Sys2Proof.Machine
end

