-- ==== Sys2Proof/Machine/Step.lean ====
section
/-! DEFINITION. One step: the command at the front of the queue, or, on an empty queue, the delivery of the oldest WAITING
request, or a millisecond of time. -/

namespace Sys2Proof.Machine

/-- A step on an empty queue: a part without main power idles; a WAITING request is delivered at once (R196); otherwise a
millisecond passes. -/
def idle (s : State) : Host.Outcome State Fault Refusal :=
  if s.power.on then
    match delivery? s with
    | some (_, .request i) => exec i s
    | some (p, .unknownKind) => .next (answerUndelivered p .unknownKind s)
    | some (p, .badLength) => .next (answerUndelivered p .badLength s)
    | none => .next (pump (millisecond s))
  else .next s

/-- One step: the command at the front of the queue has its effect on the state with the rest of the queue. -/
def step (s : State) : Host.Outcome State Fault Refusal :=
  match s.pending with
  | c :: rest => exec c { s with pending := rest }
  | [] => idle s

/-- The state with the command that a word spells put at the front of its queue. -/
def State.withFetchWord (s : State) (nbits w : Nat) : State :=
  match decodeTableWord nbits w with
  | some c => { s with pending := c :: s.pending }
  | none => s

end Sys2Proof.Machine
end

