-- ==== Sys2Proof/Safety.lean ====
section
/-! DEFINITION. What counts as a lawful state: the laws of the device that the manual states, and the ranges it gives, in the
terms statements use. -/

namespace Sys2Proof.Machine

/-! ### How statements speak of an outcome -/

/-- An event that leaves `t` behind, after which the transmitter acts if it is free (R200). -/
def happened (t : State) : Host.Outcome State Fault Refusal := .next (pump t)

/-- The delivery of request `i` in `s` that leaves `t` behind and makes the reply `r` ready (R197). -/
def delivered (i : Instr) (s t : State) (r : Reply) : Host.Outcome State Fault Refusal :=
  happened (readyReply (s.via i) r.bytes t)

/-- The request is accepted and answered by OK alone, and leaves `t` behind. -/
def accepted (i : Instr) (s t : State) : Host.Outcome State Fault Refusal := delivered i s t (Reply.bare .ok)

/-- The request changes nothing at its block and is answered by the code alone. -/
def turnedAway (i : Instr) (s : State) (c : Result) : Host.Outcome State Fault Refusal := delivered i s s (Reply.bare c)

/-- The request changes nothing at its block and is answered OK with these fields. -/
def told (i : Instr) (s : State) (fields : List Byte) : Host.Outcome State Fault Refusal :=
  delivered i s s { code := .ok, fields := fields }

/-! ### Axes (R26, R32, R52, R54, R172, R181) -/

/-- Every field of a configuration record lies within its range (Table 9-1). -/
def AxisConfig.ok (c : AxisConfig) : Bool :=
  inPosRange c.softMin && inPosRange c.softMax && decide (c.softMin < c.softMax) && within 0 1000000 c.band
    && within 1 65535 c.vmax && within 1 4095 c.amax && within 0 65535 c.vstick && within 0 512 c.deadband
    && within 0 1000000 c.trimMax && within 1 1000000 c.feLimit && within 1 15 c.missLimit

/-- The law of the blend record (R26), between output frames: a fading record has 0 ≤ k < F with F 1 to 65535; a steady one
has k 0 and no F. -/
def Blend.lawful (b : Blend) : Bool :=
  if b.fading then
    match b.len with
    | some f => decide (b.k < f) && within 1 65535 f
    | none => false
  else decide (b.k = 0) && b.len.isNone

/-- A steady record on LIVE. -/
def Blend.steadyLive (b : Blend) : Bool := decide (b.fromSrc = .live) && decide (b.toSrc = .live)

/-- The position lies within the soft limits. -/
def AxisConfig.inLimits (c : AxisConfig) (x : Int) : Bool := decide (c.softMin ≤ x) && decide (x ≤ c.softMax)

/-- The laws of an axis under its record `c`: its trim lies within ±trim_max (R32); while it is ACTIVE, STOPPING or HELD its
out and L lie within the soft limits (R54, R32), its v_prev within ±vmax (R52) and its miss count below miss_limit (R181). -/
def Axis.lawfulWith (a : Axis) (c : AxisConfig) : Bool :=
  c.ok && decide (a.blend.mode = c.mode) && decide (a.blend.trim.natAbs ≤ c.trimMax)
    && (!a.enabled
        || (c.inLimits a.out && c.inLimits a.blend.live && decide (a.vPrev.natAbs ≤ c.vmax) && decide (a.miss < c.missLimit)))

/-- The laws of an axis: it has a record exactly when it is configured (R172), a fault cause exactly in FAULT, a lawful blend
record, which is steady LIVE unless the axis is ACTIVE (R28), and v_prev 0 unless it is ACTIVE or STOPPING. -/
def Axis.lawful (a : Axis) : Bool :=
  decide (a.cfg.isSome = a.configured) && decide (a.cause.isSome = decide (a.state = .fault)) && a.blend.lawful
    && (decide (a.state = .active) || a.blend.steadyLive) && (a.moving || decide (a.vPrev = 0))
    && (match a.cfg with
        | some c => a.lawfulWith c
        | none => true)

/-- Every axis is lawful, and so is the geometry record that hand-back reads. -/
def State.axesLawful (s : State) : Bool := s.geometry.ok && allAxes.all fun i => (s.axis i).lawful

/-! ### Zones (R63) -/

/-- The law of the zones (R63): whenever at least one of SWING, LIFT, REACH and TRACK is configured and every configured one
is ACTIVE, STOPPING or HELD, the point of their outs lies outside every enabled zone. -/
def State.zonesLawful (s : State) : Bool :=
  !(allAxes.any (fun i => geometric i && (s.axis i).configured)
      && allAxes.all (fun i => !(geometric i && (s.axis i).configured) || (s.axis i).enabled))
    || !(s.inEnabledZone s.outPoint)

/-! ### Players and the records that name them (R24, R28, R105) -/

/-- A player that has its start key has a published position; one that is filled has its start key (R105); an IDLE one has
nothing (R125). -/
def Player.lawful (r : Player) : Bool :=
  (r.startKey.isNone || r.published.isSome) && (!r.filled || r.startKey.isSome)
    && (decide (r.state ≠ .idle) || (!r.filled && r.startKey.isNone && r.move.isNone && decide (r.fifo = [])))

/-- A player that a record of axis `i` may name: not IDLE, filled, and giving a position for the axis (R24). -/
def Player.gives (r : Player) (i : Fin 8) : Bool :=
  decide (r.state ≠ .idle) && r.filled && r.published.isSome && r.covers i

/-- Both players are lawful, and no blend record names a player that gives no position for its axis (R24). -/
def State.playersLawful (s : State) : Bool :=
  s.playerA.lawful && s.playerB.lawful
    && allAxes.all fun i =>
        (!((s.axis i).blend.names .playA) || s.playerA.gives i) && (!((s.axis i).blend.names .playB) || s.playerB.gives i)

/-! ### The keys a player streams (R82, R105, R107, R108) -/

/-- The keys a player holds, in order: start key, end key, FIFO. -/
def Player.keysHeld (r : Player) : List PlayerKey := r.startKey.toList ++ r.endKey.toList ++ r.fifo

/-- The index of the key that follows those a player holds. -/
def Player.nextIndex (r : Player) : Nat :=
  match r.keysHeld.getLast? with
  | some k => k.index + 1
  | none => 0

/-- The law of R108: the FIFO holds at most 8 keys, and they follow the segment's keys in key order; without its end key, as
in STARVED, the player holds nothing beyond its start key. A player that fetches has its cursor at the key that comes next. Between
output frames no DAMAGED outcome stands delivered and not yet taken (R123). -/
def Player.streamLawful (r : Player) : Bool :=
  decide (r.fifo.length ≤ Config.fifoDepth)
    && (r.keysHeld.zip r.keysHeld.tail).all (fun q => decide (q.2.index = q.1.index + 1))
    && (r.startKey.isSome || r.endKey.isNone) && (r.endKey.isSome || decide (r.fifo = []))
    && (decide (r.state ≠ .starved) || r.endKey.isNone) && (decide (r.state ≠ .idle) || !r.outstanding) && r.arrived.isNone
    && (!r.fetches || match r.cursor with
        | some c => decide (c.index = r.nextIndex)
        | none => true)

/-- The fetches of a player at the port whose outcome it wants, waiting or being served. -/
def KeyPort.fetchesOf (q : KeyPort) (p : PlayerId) : List Access :=
  (match p with
    | .a => q.waitA.toList
    | .b => q.waitB.toList)
    ++ (match q.serving with
      | some v => if v.wanted && v.access.isFetchOf p then [v.access] else []
      | none => [])

/-- The law of a player and its fetches (R82, R107, R108): fetch outstanding is set exactly while one fetch of its own is at the
port, waiting or being served; that fetch names the cursor's key, for which the player has room. -/
def State.streamLawful (s : State) (p : PlayerId) : Bool :=
  let r := s.player p
  r.streamLawful &&
    match r.outstanding, r.move, r.cursor with
    | false, _, _ => decide (s.port.fetchesOf p = [])
    | true, some m, some c =>
      decide (s.port.fetchesOf p = [.fetch p m c.index c.block c.slot]) && r.hasRoom && r.keysRemain
    | true, _, _ => false

/-- Both players and their fetches are lawful. -/
def State.streamsLawful (s : State) : Bool := s.streamLawful .a && s.streamLawful .b

/-! ### Ownership of directory entries (R88, R141) -/

/-- How many players hold the move: not IDLE, with that move loaded. -/
def State.holders (s : State) (m : MoveIx) : Nat :=
  (if s.playerA.state ≠ .idle ∧ s.playerA.move = some m then 1 else 0)
    + (if s.playerB.state ≠ .idle ∧ s.playerB.move = some m then 1 else 0)

/-- The users law (R88): each users count is the number of players that hold the move, and an entry with users is READY. -/
def State.usersLawful (s : State) : Bool :=
  allMoves.all fun m =>
    decide ((s.entry m).users = s.holders m) && (decide ((s.entry m).users = 0) || decide ((s.entry m).state = .ready))

/-- The Recorder holds a move exactly when it is not IDLE, and the entry it holds is WRITING with writer RECORDER (R141). -/
def State.recorderLawful (s : State) : Bool :=
  decide (s.recorder.move.isSome = decide (s.recorder.state ≠ .idle)) &&
    match s.recorder.move with
    | some m => (s.entry m).byRecorder
    | none => true

/-- An IDLE player holds no move. -/
def State.idleHoldsNone (s : State) : Bool :=
  (decide (s.playerA.state ≠ .idle) || s.playerA.move.isNone) && (decide (s.playerB.state ≠ .idle) || s.playerB.move.isNone)

/-- The laws of ownership together. -/
def State.ownersLawful (s : State) : Bool := s.usersLawful && s.recorderLawful && s.idleHoldsNone

/-! ### The laws of the Move Library (R76 to R80) -/

/-- The blocks of every chain, entry after entry. -/
def State.chains (s : State) : List Nat := allMoves.flatMap fun m => s.chain (s.entry m)

/-- The laws of the blocks. -/
structure State.BlocksLawful (s : State) : Prop where
  /-- Each of the 2048 blocks is in exactly one of the free list, the bad set or the chain of exactly one entry, and once
  there (R76, R77, R78). -/
  once : (s.lib.freeList ++ s.lib.badSet ++ s.chains).Perm (List.range Config.blocks)
  /-- A block on the free list is FREE and has no next (R76, R77). -/
  free : ∀ b ∈ s.lib.freeList, (s.block b).cls = .free ∧ (s.block b).link = none
  /-- A block of the bad set is BAD, has no next and keeps its suspect flag (R76, R78). -/
  bad : ∀ b ∈ s.lib.badSet, (s.block b).cls = .bad ∧ (s.block b).link = none ∧ (s.block b).suspect = true
  /-- A block of a chain is CHAINED (R76). -/
  chained : ∀ b ∈ s.chains, (s.block b).cls = .chained
  /-- An entry's last block is the last of its chain, and has no next (R76, Table 4-3). -/
  last : ∀ m : MoveIx, (s.entry m).last = (s.chain (s.entry m)).getLast?
  ends : ∀ (m : MoveIx) (b : Nat), (s.entry m).last = some b → (s.block b).link = none
  /-- An EMPTY entry has no chain (R79). -/
  empty : ∀ m : MoveIx, (s.entry m).state = .empty → (s.entry m).first = none

/-- The time of key `i` of an entry, as the store holds it (R74). -/
def State.keyTime (s : State) (e : Entry) (i : Nat) : Nat :=
  (s.slot ((s.chain e).getD (i / Config.slots) 0) (i % Config.slots)).key.time

/-- The entry an access writes, if it is a write. -/
def Access.writes? : Access → Option MoveIx
  | .recorderWrite m _ => some m
  | .consoleWrite m _ => some m
  | .fetch .. => none
  | .consoleRead .. => none

/-- A write of entry `m` is in progress at the port. -/
def State.writeOn (s : State) (m : MoveIx) : Prop := ∃ v : Serving, s.port.serving = some v ∧ v.access.writes? = some m

/-- The laws of the keys of entry `m` (R79). -/
structure State.KeysLawful (s : State) (m : MoveIx) : Prop where
  /-- An EMPTY entry has key count 0. -/
  empty : (s.entry m).state = .empty → (s.entry m).keys = 0
  /-- The chain has the blocks its keys need, and with a write in progress the block of the key being written (R74, R80); an
  entry found WRITING at a loss of main power may have kept that block without its key (R98). -/
  written : s.writeOn m → (s.chain (s.entry m)).length = (s.entry m).keys / Config.slots + 1
  length : ¬ s.writeOn m → (s.chain (s.entry m)).length = blocksFor (s.entry m).keys ∨
    (s.power.on = false ∧ (s.entry m).state = .writing ∧
      (s.chain (s.entry m)).length = (s.entry m).keys / Config.slots + 1)
  /-- The end time is the time of the last stored key. -/
  endTime : (s.entry m).endTime =
    if (s.entry m).keys = 0 then none else some (s.keyTime (s.entry m) ((s.entry m).keys - 1))
  /-- The first key's time is 0, and each later key's time is greater than the one before. -/
  first : 0 < (s.entry m).keys → s.keyTime (s.entry m) 0 = 0
  rising : ∀ i : Nat, i + 1 < (s.entry m).keys → s.keyTime (s.entry m) i < s.keyTime (s.entry m) (i + 1)

/-- The accesses of the Recorder at the port, waiting or being served. -/
def KeyPort.recorderAccesses (q : KeyPort) : List Access :=
  q.waitRecorder.toList ++ (match q.serving with
    | some { access := .recorderWrite m k, .. } => [.recorderWrite m k]
    | _ => [])

/-- The accesses of the console at the port, waiting or being served. -/
def KeyPort.consoleAccesses (q : KeyPort) : List Access :=
  q.waitConsole.toList ++ (match q.serving with
    | some { access := .consoleWrite m k, .. } => [.consoleWrite m k]
    | some { access := .consoleRead m i b n, .. } => [.consoleRead m i b n]
    | _ => [])

/-- The laws of the port (R82, R89, R146): each requester has one request there at most. The Recorder's is the write of its FIFO
head; the console's is the next access of the transaction held, and a key it writes is in order for an entry it writes. -/
structure State.PortLawful (s : State) : Prop where
  waitA : ∀ a : Access, s.port.waitA = some a → a.isFetchOf .a = true
  waitB : ∀ a : Access, s.port.waitB = some a → a.isFetchOf .b = true
  recorder : (s.recorder.outstanding = false ∧ s.port.recorderAccesses = []) ∨
    (s.recorder.outstanding = true ∧ ∃ (m : MoveIx) (k : Key), s.recorder.move = some m ∧ s.recorder.fifo.head? = some k ∧
      s.port.recorderAccesses = [.recorderWrite m k])
  console : s.port.consoleAccesses = [] ∨ ∃ t : Txn, s.txn = some t ∧
    ((∃ (k : Key) (rest : List Key) (n : Nat), t.work = .put (k :: rest) n ∧ (s.entry t.move).byConsole = true ∧
        keyInOrder (s.entry t.move) k = true ∧ s.port.consoleAccesses = [.consoleWrite t.move k]) ∨
      (∃ (i left : Nat) (got : List Key) (b n : Nat), t.work = .read i left got ∧
        s.port.consoleAccesses = [.consoleRead t.move i b n]))

/-- The laws of a take (R80, R144): the keys of the FIFO follow the stored ones in key order, last queued time is that of the
last key queued, and frames since start has reached it. -/
structure State.TakeLawful (s : State) (m : MoveIx) : Prop where
  mask : s.recorder.mask ≠ none
  rising : s.recorder.fifo.Pairwise fun a b => a.time < b.time
  head : ∀ k : Key, s.recorder.fifo.head? = some k → keyInOrder (s.entry m) k = true
  lastQueued : s.recorder.lastQueued =
    match s.recorder.fifo.getLast? with
    | some k => some k.time
    | none => (s.entry m).endTime
  started : s.recorder.frames = none ↔ s.recorder.lastQueued = none
  reached : ∀ n q : Nat, s.recorder.frames = some n → s.recorder.lastQueued = some q → q ≤ n
  armed : s.recorder.state = .armed → s.recorder.frames = none

/-- The laws of the Move Library together, with those of the port and of the Recorder's take, on which they rest. -/
structure State.LibraryLawful (s : State) : Prop where
  canonical : s.lib.wf = true
  blocks : s.BlocksLawful
  keys : ∀ m : MoveIx, s.KeysLawful m
  owner : s.recorderLawful = true
  port : s.PortLawful
  take : ∀ m : MoveIx, s.recorder.move = some m → s.TakeLawful m

/-! ### Bounded buffers (R144, R196, R198) -/

/-- The places of the request queue are at most four, told apart by numbers 0 to 3; the refusal list holds at most eight
entries; the Recorder's FIFO holds at most eight keys. -/
def State.buffersLawful (s : State) : Bool :=
  decide (s.link.places.length ≤ Config.queueDepth) && decide ((s.link.places.map (·.slot)).Nodup)
    && s.link.places.all (fun p => decide (p.slot < Config.queueDepth))
    && decide (s.link.refusals.length ≤ Config.refusalDepth) && decide (s.recorder.fifo.length ≤ Config.fifoDepth)

/-! ### Ranges (R5, R6, R18, R19, R112, R145, R192) -/

/-- A frame period the manual allows. -/
def periodOk (n : Nat) : Bool := decide (n = 1 ∨ n = 2 ∨ n = 4)

/-- The ranges of the Frame Timer, the Stick Port, the players' rates, the Recorder and the status divider. -/
def State.rangesLawful (s : State) : Bool :=
  periodOk s.timer.period && periodOk s.timer.interval && decide (s.timer.number < Config.frameWrap)
    && within 10 500 s.stick.timeout && (s.stick.held.toList.all fun x => decide (x.natAbs ≤ 2047))
    && decide (s.playerA.rate ≤ 512) && decide (s.playerB.rate ≤ 512)
    && within 1 64 s.recorder.decimation && decide (s.recorder.skipped ≤ Config.maxSkipped)
    && decide (s.status.interval ≤ 1000) && decide (s.status.replaced ≤ Config.maxReplaced)

end Sys2Proof.Machine
end

