-- ==== Sys2Proof/Certificates/Slice0/Obligations.lean ====
section
/-! DEFINITION. The statements for the provers. `delivered`, `accepted`, `turnedAway`, `told` and `happened` (Safety.lean) name
the outcomes of requests and events; a state written as a record update of `s` leaves every field it does not name as in `s`.
A statement that says it rests on a log entry states the model's choice there, not a rule of the spec. -/

open Sys2Proof Sys2Proof.Machine

/-! ### The block as a whole -/

/-- A step takes the command at the front of the queue and runs it on the state with the queue's rest. -/
def Obligations.StepRunsFrontCommand : Prop :=
  ∀ (c : Instr) (rest : List Instr) (s : State), s.pending = c :: rest → step s = exec c { s with pending := rest }

/-- A step on an empty queue (log 2): without main power the block idles; a powered block with no request to deliver lets a
millisecond pass; an undeliverable request is answered UNKNOWN_KIND or BAD_LENGTH and any other is run.
The clocks in that millisecond (R6, R7, R18, R20): both receivers are HUNTING after it; the stale timer of a LIVE port counts,
and expires when it has reached stick_timeout; the Frame Timer counts, and at the end of the interval in progress an output
frame comes, with no Stick Port event inside it (logs 2, 29), and the next interval has the period as last set. -/
def Obligations.StepOnEmptyQueue : Prop :=
  ∀ s : State, s.pending = [] →
    (s.power.on = false → step s = .next s) ∧
    (s.power.on = true → (s.link.delivering = false ∨ s.link.oldest? = none) → step s = happened (millisecond s)) ∧
    (∀ p : Place, s.delivers = true → s.link.oldest? = some p →
      (s.decoded p = .unknownKind → step s = happened (readyReply (.place p.slot) [0x01#8] s)) ∧
      (s.decoded p = .badLength → step s = happened (readyReply (.place p.slot) [0x02#8] s)) ∧
      (∀ i : Instr, s.decoded p = .request i → step s = exec i s)) ∧
    let t := millisecond s
    t.stick.receiver = none ∧ t.link.framer = none ∧
    (s.stick.port = .stale → t.stick = { s.stick with receiver := none }) ∧
    (s.stick.port = .live → s.stick.elapsed + 1 < s.stick.timeout →
      t.stick = { s.stick with receiver := none, elapsed := s.stick.elapsed + 1 }) ∧
    (s.stick.port = .live → s.stick.timeout ≤ s.stick.elapsed + 1 →
      t.stick = { s.stick with
        receiver := none, port := .stale, elapsed := 0, seq := none, channels := Vector.replicate 8 .centredWait } ∧
      t.noticeSlot .stick = (s.noticeSlot .stick).raised { frame := s.timer.number, detail := .stick .stale none }) ∧
    (s.timer.elapsed + 1 < s.timer.interval →
      t.timer = { s.timer with elapsed := s.timer.elapsed + 1 } ∧ t.axes = s.axes ∧ t.outputSet = s.outputSet ∧
      t.playerA = s.playerA ∧ t.playerB = s.playerB ∧ t.recorder = s.recorder ∧ t.cue = s.cue) ∧
    (s.timer.interval ≤ s.timer.elapsed + 1 →
      t = outputFrame [] { order := .aFirst } (stickMillisecond (consoleGap (panelHunt s))) ∧
      t.timer = { s.timer with
        interval := s.timer.period, elapsed := 0, number := (s.timer.number + 1) % 4294967296 })

/-- No command stops the block, and none touches the queue of commands behind it. -/
def Obligations.EveryCommandCompletes : Prop :=
  ∀ (c : Instr) (s : State), ∃ t : State, exec c s = .next t ∧ t.pending = s.pending

/-- The state after reset has the values of Tables 1-4, 2-9, 3-5, 4-8, 5-6, 7-4, 8-6, 9-5, 10-4 and 11-5a. -/
def Obligations.ResetHasTheTablesValues : Prop :=
  let s := State.reset
  (s.stick.receiver = none ∧ s.stick.port = .stale ∧ s.stick.timeout = 50 ∧ s.stick.seq = none
    ∧ ∀ ch : Fin 8, s.stick.held[ch] = 0 ∧ s.stick.channels[ch] = .centredWait) ∧
  (s.timer.period = 2 ∧ s.timer.number = 0
    ∧ s.geometry = { rBase := 100000, rRef := 100000, rMin := 10000, releaseFrames := 50 }) ∧
  (∀ i : Fin 8, s.axis i = {
      state := .unconfigured, cfg := none, cause := none, miss := 0, actual := none, drive := none, nextSeq := 0, window := none, prev := none,
      out := 0, vPrev := 0, flags := ClampFlags.none,
      blend := { fromSrc := .live, toSrc := .live, k := 0, len := none, live := 0, trim := 0, mode := .liveOnly } }) ∧
  (∀ i : Fin 8, (s.zone i).enabled = false ∧ (s.zone i).holding = false) ∧
  (s.port = KeyPort.idle ∧ s.txn = none ∧ ∀ m : MoveIx, (s.entry m).users = 0 ∧ (s.entry m).state ≠ .writing) ∧
  (∀ p : PlayerId, s.player p = {
      state := .idle, move := none, mark := none, mask := none, keyCount := none, rate := 256, binding := none, time := 0,
      startKey := none, endKey := none, filled := false, fifo := [], cursor := none, outstanding := false,
      published := none, faultKey := none, arrived := none }) ∧
  (s.recorder.state = .idle ∧ s.recorder.move = none ∧ s.recorder.mask = none ∧ s.recorder.decimation = 1
    ∧ s.recorder.shape = .linear ∧ s.recorder.frames = none ∧ s.recorder.lastQueued = none ∧ s.recorder.fifo = []
    ∧ s.recorder.outstanding = false ∧ s.recorder.skipped = 0) ∧
  (s.cue.state = .idle ∧ s.cue.current = 0 ∧ s.cue.remaining = none ∧ s.cue.haltCause = none ∧ s.cue.haltCode = none
    ∧ s.cue.haltAxis = none ∧ ∀ i : Fin 48, s.cue.counters[i] = none) ∧
  (s.log = FaultLog.reset ∧ s.status = { interval := 0, count := 0, held := none, replaced := 0 } ∧ s.notices.multi = false
    ∧ ∀ c : NoticeClass, s.noticeSlot c =
        { enabled := decide (c ≠ .button), pending := false, coalesced := false, detail := none }) ∧
  (s.link.framer = none ∧ s.link.places = [] ∧ s.link.ready = [] ∧ s.link.delivering = true ∧ s.link.sending = none)

/-- The state after reset meets every law that a step is stated to keep. -/
def Obligations.ResetIsLawful : Prop :=
  State.reset.lib.wf = true ∧ State.reset.axesLawful = true ∧ State.reset.playersLawful = true
    ∧ State.reset.streamsLawful = true ∧ State.reset.ownersLawful = true ∧ State.reset.zonesLawful = true
    ∧ State.reset.buffersLawful = true ∧ State.reset.rangesLawful = true ∧ State.reset.LibraryLawful

/-! ### Laws that every step keeps -/

/-- The key store and the block map keep their canonical form: addresses strictly rise, and nothing blank is listed (log 6). -/
def Obligations.StepKeepsLibraryCanonical : Prop :=
  ∀ s t : State, s.lib.wf = true → step s = .next t → t.lib.wf = true

/-- The laws of the Move Library (R76 to R79): every block is in exactly one of the free list, the bad set and the chain of one
entry, once, with the class that says so; a chain has the blocks its keys need, its key times rise from 0 and the end time is
the last; with what they rest on at the port and in a take (R80, R82, R92, R144, R146). -/
def Obligations.StepKeepsLibraryLawful : Prop :=
  ∀ s t : State, s.LibraryLawful → step s = .next t → t.LibraryLawful

/-- The laws of the axes: the configuration is in range; the blend record obeys its law; a trim lies within trim_max; out and
L of an ACTIVE, STOPPING or HELD axis lie within its soft limits and its v_prev within vmax; a record that names a player
belongs to an ACTIVE axis. -/
def Obligations.StepKeepsAxesLawful : Prop :=
  ∀ s t : State, s.axesLawful = true → step s = .next t → t.axesLawful = true

/-- No blend record names a player that gives no position for its axis.
The keys a player streams (R82, R107, R108): its FIFO holds at most 8 keys, which follow the segment's end key in key order and
are none in STARVED; and it has one fetch at the port at most, of the key that comes next. -/
def Obligations.StepKeepsPlayersLawful : Prop :=
  (∀ s t : State, s.axesLawful = true → s.playersLawful = true → step s = .next t → t.playersLawful = true) ∧
  (∀ s t : State, s.LibraryLawful → s.streamsLawful = true → step s = .next t → t.streamsLawful = true)

/-- The ownership of directory entries: users counts, the Recorder's entry, and IDLE players that hold nothing. -/
def Obligations.StepKeepsOwnersLawful : Prop :=
  ∀ s t : State, s.ownersLawful = true → step s = .next t → t.ownersLawful = true

/-- The request queue, the refusal list and the Recorder's FIFO stay within their sizes.
The ranges of the Frame Timer, the Stick Port, the players' rates, the Recorder and the status divider. -/
def Obligations.StepKeepsBoundsLawful : Prop :=
  (∀ s t : State, s.buffersLawful = true → step s = .next t → t.buffersLawful = true) ∧
  (∀ s t : State, s.rangesLawful = true → step s = .next t → t.rangesLawful = true)

/-! ### Power, retention and recovery -/

/-- POWER_ON (R99, R101): the monitor's finding becomes RETENTION_LOST, the retained tables are initialised exactly on a loss,
every other block has its values after reset, no entry is WRITING and every users count is 0.
The Notice Unit has the values of Table 10-4 but for the STORE notices that the recovery raises, stamped with frame number 0
and pending; on a loss, and where no entry was WRITING, it has them whole (R194).
Without a loss the key store is kept, and an entry that is not WRITING keeps its record and its chain; recovery only appends
to the free list and adds to the bad set, and with no entry WRITING the block map and both are kept whole (R98, R100). -/
def Obligations.PowerOnResetsAndRetains : Prop :=
  ∀ (loop : LoopCurrent) (s : State), s.power.on = false →
    ∃ t : State, exec (.powerOn loop) s = happened t ∧
      t.power = { on := true, monitorLoss := false, retentionLost := s.power.monitorLoss } ∧
      (s.power.monitorLoss = true → t.lib = Library.initial ∧ (∀ i : Fin 8, t.zone i = Zone.blank) ∧
        (∀ k : Fin 64, t.marks[k] = none) ∧ (∀ k : Fin 48, t.cueList[k] = .finish) ∧
        ∀ e : Fin 8, t.triggers[e] = { code := 0, action := .none }) ∧
      (s.power.monitorLoss = false → t.marks = s.marks ∧ t.cueList = s.cueList ∧ t.triggers = s.triggers ∧
        (∀ i : Fin 8, t.zone i = { s.zone i with enabled := false, holding := false }) ∧
        (∀ m : MoveIx, (s.entry m).state ≠ .writing → t.entry m = { s.entry m with users := 0 }) ∧
        t.lib.keyStore = s.lib.keyStore ∧ s.lib.freeList <+: t.lib.freeList ∧ s.lib.badSet ⊆ t.lib.badSet ∧
        ((∀ m : MoveIx, (s.entry m).state ≠ .writing) → t.lib.blockMap = s.lib.blockMap ∧
          t.lib.freeList = s.lib.freeList ∧ t.lib.badSet = s.lib.badSet) ∧
        (s.LibraryLawful → ∀ m : MoveIx, (s.entry m).state ≠ .writing → t.chain (t.entry m) = s.chain (s.entry m) ∧
          ∀ b ∈ s.chain (s.entry m), t.block b = s.block b)) ∧
      (t.stick = StickPort.reset ∧ t.timer = FrameTimer.reset ∧ t.geometry = Geometry.reset ∧ t.axes = State.reset.axes ∧
        t.stopLine = stopLineRead loop ∧ t.port = KeyPort.idle ∧ t.txn = none ∧ t.playerA = Player.reset ∧
        t.playerB = Player.reset ∧ t.recorder = Recorder.reset ∧ t.cue = Cue.reset ∧ t.log = FaultLog.reset ∧
        t.status = StatusUnit.reset ∧ t.link = Link.reset) ∧
      (t.notices.multi = false ∧ (t.noticeSlot .store).enabled = true ∧
        (∀ c : NoticeClass, c ≠ .store → t.noticeSlot c =
          { enabled := decide (c ≠ .button), pending := false, coalesced := false, detail := none }) ∧
        (∀ d : Stamped, (t.noticeSlot .store).detail = some d → (t.noticeSlot .store).pending = true ∧ d.frame = 0) ∧
        (s.power.monitorLoss = true ∨ (∀ m : MoveIx, (s.entry m).state ≠ .writing) → t.notices = NoticeUnit.reset)) ∧
      ∀ m : MoveIx, (t.entry m).state ≠ .writing ∧ (t.entry m).users = 0

/-- Recovery of a WRITING entry of 2 keys or more (R100): it is READY with TRUNCATED, its keys, end time and other flags are
kept and its writer is absent; with fewer keys it is EMPTY. -/
def Obligations.RecoveryClosesWritingEntries : Prop :=
  ∀ (s : State) (m : MoveIx), (s.entry m).state = .writing →
    (2 ≤ (s.entry m).keys →
      ((recover s).entry m).state = .ready ∧ ((recover s).entry m).writer = none ∧
      ((recover s).entry m).flags = { (s.entry m).flags with truncated := true } ∧
      ((recover s).entry m).keys = (s.entry m).keys ∧ ((recover s).entry m).endTime = (s.entry m).endTime ∧
      ((recover s).entry m).name = (s.entry m).name ∧ ((recover s).entry m).mask = (s.entry m).mask) ∧
    ((s.entry m).keys < 2 → (recover s).entry m = Entry.blank)

/-- A part without main power takes no command but POWER_ON and RETENTION_SUPPLY_LOSS (R98; log 8).
MAIN_POWER_LOSS keeps the retained tables but for the users counts and the zones' flags, which are not retained (R98,
R73), and loses the rest, every other block being at its values after reset meanwhile and the STOP line at its last reading
(log 8); RETENTION_SUPPLY_LOSS loses the retained tables too, and the monitor will tell it (R99; log 8). -/
def Obligations.PowerLossKeepsRetainedTables : Prop :=
  (∀ (c : Instr) (s : State), s.power.on = false → c ≠ .retentionSupplyLoss → (∀ loop, c ≠ .powerOn loop) → exec c s = .next s) ∧
  (∀ s : State,
    let lost (t : State) : Prop :=
      t.stick = StickPort.reset ∧ t.timer = FrameTimer.reset ∧ t.geometry = Geometry.reset ∧ t.axes = State.reset.axes ∧
        t.port = KeyPort.idle ∧ t.txn = none ∧ t.playerA = Player.reset ∧ t.playerB = Player.reset ∧
        t.recorder = Recorder.reset ∧ t.cue = Cue.reset ∧ t.notices = NoticeUnit.reset ∧ t.log = FaultLog.reset ∧
        t.status = StatusUnit.reset ∧ t.link = Link.reset ∧ t.stopLine = s.stopLine
    (s.power.on = true → ∃ t : State, exec .mainPowerLoss s = .next t ∧
      t.power = { s.power with on := false } ∧ t.marks = s.marks ∧ t.cueList = s.cueList ∧ t.triggers = s.triggers ∧
      t.lib.keyStore = s.lib.keyStore ∧ t.lib.blockMap = s.lib.blockMap ∧ t.lib.freeList = s.lib.freeList ∧
      t.lib.badSet = s.lib.badSet ∧ (∀ m : MoveIx, t.entry m = { s.entry m with users := 0 }) ∧
      (∀ i : Fin 8, t.zone i = { s.zone i with enabled := false, holding := false }) ∧
      lost t) ∧
    (∃ t : State, exec .retentionSupplyLoss s = .next t ∧
      t.power = { on := false, monitorLoss := true, retentionLost := s.power.retentionLost } ∧ t.lib = Library.initial ∧
      (∀ i : Fin 8, t.zone i = Zone.blank) ∧ (∀ k : Fin 64, t.marks[k] = none) ∧
      (∀ k : Fin 48, t.cueList[k] = .finish) ∧ (∀ e : Fin 8, t.triggers[e] = { code := 0, action := .none }) ∧
      lost t))

/-- TRANSMIT_DONE (R200, R202): the transmitter is free and chooses again; the end of a RESTART's reply, told by kind 0x82
and payload 0 (log 23), puts every block at its values after reset, keeps the retained tables and RETENTION_LOST, and leaves
no entry WRITING. The Notice Unit has the values of Table 10-4 but for the STORE notices that the recovery raises, stamped with
frame number 0 and pending; with no entry WRITING it has them whole (R194). An access in progress at the port completes at the library first (R100); then the key store is kept, an
entry that is not WRITING keeps its record and its chain, and recovery only appends to the free list and adds to the bad set. -/
def Obligations.TransmitDoneFreesOrRestarts : Prop :=
  ∀ (loop : LoopCurrent) (check : KeyCheck) (s : State) (f : TxFrame), s.power.on = true → s.link.sending = some f →
    (¬ (f.kind = 0x82 ∧ f.payload = [0x00#8]) →
      exec (.transmitDone loop check) s = happened { s with link := { s.link with sending := none } }) ∧
    (f.kind = 0x82 ∧ f.payload = [0x00#8] →
      ∃ t : State, exec (.transmitDone loop check) s = happened t ∧ t.power = s.power ∧ t.marks = s.marks ∧
        t.cueList = s.cueList ∧ t.triggers = s.triggers ∧ t.stopLine = stopLineRead loop ∧ t.stick = StickPort.reset ∧
        t.timer = FrameTimer.reset ∧ t.geometry = Geometry.reset ∧ t.axes = State.reset.axes ∧
        (∀ i : Fin 8, t.zone i = { s.zone i with enabled := false, holding := false }) ∧ t.port = KeyPort.idle ∧
        t.txn = none ∧ t.playerA = Player.reset ∧ t.playerB = Player.reset ∧ t.recorder = Recorder.reset ∧
        t.cue = Cue.reset ∧ t.log = FaultLog.reset ∧ t.status = StatusUnit.reset ∧ t.link = Link.reset ∧
        (∀ m : MoveIx, (t.entry m).state ≠ .writing ∧ (t.entry m).users = 0) ∧
        let u := finishForReset check s
        (s.port.serving = none → u = s) ∧ (∀ v : Serving, s.port.serving = some v → u = finishAccess v check s) ∧
        (∀ m : MoveIx, (u.entry m).state ≠ .writing → t.entry m = { u.entry m with users := 0 }) ∧
        t.lib.keyStore = u.lib.keyStore ∧ u.lib.freeList <+: t.lib.freeList ∧ u.lib.badSet ⊆ t.lib.badSet ∧
        ((∀ m : MoveIx, (u.entry m).state ≠ .writing) → t.lib.blockMap = u.lib.blockMap ∧
          t.lib.freeList = u.lib.freeList ∧ t.lib.badSet = u.lib.badSet) ∧
        (t.notices.multi = false ∧ (t.noticeSlot .store).enabled = true ∧
          (∀ c : NoticeClass, c ≠ .store → t.noticeSlot c =
            { enabled := decide (c ≠ .button), pending := false, coalesced := false, detail := none }) ∧
          (∀ d : Stamped, (t.noticeSlot .store).detail = some d → (t.noticeSlot .store).pending = true ∧ d.frame = 0) ∧
          ((∀ m : MoveIx, (u.entry m).state ≠ .writing) → t.notices = NoticeUnit.reset)) ∧
        (s.LibraryLawful → ∀ m : MoveIx, (u.entry m).state ≠ .writing → t.chain (t.entry m) = u.chain (u.entry m) ∧
          ∀ b ∈ u.chain (u.entry m), t.block b = u.block b))

/-! ### The Console Link and the transmitter -/

/-- RESTART (R202): answered OK with nothing changed but that delivery stops; afterwards no request has any effect, be it given as
a command (log 1).
IDENT (R201).
SET_NOTICES, GET_NOTICES, READ_LOG, CLEAR_LOG, SET_STATUS and GET_STATUS (R189, R191 to R194), their fields laid out as logs 12
and 44 say; STATUS_REPORT_DUE as a command (R192; log 5) acts exactly when the count has reached the interval. -/
def Obligations.LinkAndNoticeRequestsComplete : Prop :=
  (((∀ s : State, s.delivers = true →
    exec .restart s = accepted .restart s { s with link := { s.link with delivering := false } }) ∧
  (∀ (c : Instr) (s : State), s.link.delivering = false → requestKind c ≠ none → exec c s = .next s)) ∧
  (∀ s : State, s.delivers = true →
    exec .ident s = told .ident s
      ([6#8] ++ [0x5A#8, 0x4B#8, 0x2D#8, 0x38#8, 0x38#8, 0x30#8] ++ List.replicate 6 0#8 ++ [1#8] ++
        encBool s.power.retentionLost ++ u16 2048 ++ [16#8, 32#8, 64#8, 8#8, 48#8, 8#8, 4#8, 240#8] ++
        u16 s.lib.freeList.length))) ∧
  (∀ s : State,
    (s.delivers = true →
      (∀ (e : Nat) (b : Bool), e < 1024 → ∃ t : State,
        exec (.setNotices e b.toNat) s = accepted (.setNotices e b.toNat) s t ∧ t = { s with notices := t.notices } ∧
          t.notices.multi = b ∧
          ∀ c : NoticeClass, t.noticeSlot c = { s.noticeSlot c with enabled := Nat.testBit e c.index.val }) ∧
      (∀ e b : Nat, (1024 ≤ e ∨ 2 ≤ b) → exec (.setNotices e b) s = turnedAway (.setNotices e b) s .badValue) ∧
      exec .getNotices s = told .getNotices s
        ((allClasses.flatMap fun c => encBool (s.noticeSlot c).enabled ++ encBool (s.noticeSlot c).pending ++
          encBool (s.noticeSlot c).coalesced) ++ encBool s.notices.multi) ∧
      exec .readLog s = told .readLog s (logFields s.log) ∧
      exec .clearLog s = accepted .clearLog s
        { s with log := { locked := false, record := none, multiple := false, later := [] } } ∧
      (∀ n : Nat, n ≤ 1000 → exec (.setStatus n) s = accepted (.setStatus n) s
        { s with status := { s.status with interval := n, count := 0 } }) ∧
      (∀ n : Nat, 1000 < n → exec (.setStatus n) s = turnedAway (.setStatus n) s .badValue) ∧
      exec .getStatus s = told .getStatus s (encStatus (buildStatus s s 0))) ∧
    (s.power.on = true →
      (s.status.interval = 0 ∨ s.status.count < s.status.interval → exec .statusReportDue s = happened s) ∧
      (s.status.interval ≠ 0 → s.status.interval ≤ s.status.count →
        let n := if s.status.held.isSome then min (s.status.replaced + 1) 255 else s.status.replaced
        exec .statusReportDue s = happened { s with status := {
          interval := s.status.interval, count := 0, held := some (buildStatus s s n), replaced := n } })))

/-- A free transmitter sends the first ready reply, else a NOTICE of the eligible class of highest priority, whose pending
and coalesced flags clear and whose detail stays, else the held status report, else nothing; a sending one goes on.
A reply and the transmitter's act touch the link, the notice flags and the report holder, and nothing else: no detail
record, no enable flag, no divider count. -/
def Obligations.TransmitterChoosesInOrder : Prop :=
  (∀ s : State,
    (s.link.sending ≠ none → pump s = s) ∧
    (∀ (k : Nat) (rest : List Ready) (p : Place), s.link.sending = none → s.link.ready = .place k :: rest →
      p ∈ s.link.places → p.slot = k → (s.link.places.map (·.slot)).Nodup →
      pump s = { s with link := { s.link with
        ready := rest,
        places := s.link.places.filter (fun q => decide (q.slot ≠ k)),
        sending := some { kind := p.kind + 0x80, tag := p.tag, payload := p.reply } } }) ∧
    (∀ (kind tag : Nat) (rest : List Ready), s.link.sending = none → s.link.ready = .refusal kind tag :: rest →
      pump s = { s with link := { s.link with
        ready := rest, sending := some { kind := kind + 0x80, tag := tag, payload := [0x0D#8] } } }) ∧
    (∀ (c : NoticeClass) (d : Stamped), s.link.sending = none → s.link.ready = [] →
      (s.noticeSlot c).enabled = true → (s.noticeSlot c).pending = true → (s.noticeSlot c).detail = some d →
      (∀ b : NoticeClass, b.index < c.index → (s.noticeSlot b).enabled = false ∨ (s.noticeSlot b).pending = false) →
      pump s = { s.setNoticeSlot c { s.noticeSlot c with pending := false, coalesced := false } with
        link := { s.link with sending := some { kind := 0xE0, tag := 0, payload := encNotice (s.noticeSlot c).coalesced d } } }) ∧
    (s.link.sending = none → s.link.ready = [] →
      (∀ b : NoticeClass, (s.noticeSlot b).enabled = false ∨ (s.noticeSlot b).pending = false) →
      pump s = match s.status.held with
        | some r => { s with
            status := { s.status with held := none, replaced := 0 },
            link := { s.link with sending := some { kind := 0xE1, tag := 0, payload := encStatus r } } }
        | none => s)) ∧
  (∀ (v : Via) (reply : List Byte) (s : State), ∃ t : State,
    pump (readyReply v reply s) = { s with link := t.link, notices := t.notices, status := t.status } ∧
      t.notices.multi = s.notices.multi ∧
      (∀ c : NoticeClass, (t.noticeSlot c).enabled = (s.noticeSlot c).enabled ∧
        (t.noticeSlot c).detail = (s.noticeSlot c).detail) ∧
      t.status.interval = s.status.interval ∧ t.status.count = s.status.count ∧
      t.link.framer = s.link.framer ∧ t.link.delivering = s.link.delivering)

/-- The bytes of a good request frame, received one after the other by a HUNTING framer, are the arrival of that request. -/
def Obligations.ConsoleBytesAssembleTheFrame : Prop :=
  ∀ (f : TxFrame) (s : State), f.kind < 128 → f.tag < 256 → f.payload.length ≤ 240 → s.link.framer = none →
    f.bytes.foldl (fun t b => consoleReceive b false t) s = requestArrival f.kind f.tag f.payload s

/-- REQUEST_FRAME (R195, R196, R198): a good request takes a free place as WAITING; with all places occupied its kind and tag
join the refusal list; with that full too it is discarded as OVERRUN; a frame that is not good is discarded with its cause (one with more than 240 payload bytes as LENGTH, log 27).
CONSOLE_BYTE and CONSOLE_GAP_TIMEOUT (R195): what a HUNTING framer drops and takes, and what an ASSEMBLING one abandons
or goes on with. -/
def Obligations.RequestFrameArrives : Prop :=
  (∀ (kind tag check : Nat) (payload : List Byte) (s : State), s.power.on = true →
    (240 < payload.length →
      exec (.requestFrame kind tag payload check) s =
        happened (raise (.link .length) { s with link := { s.link with framer := none } })) ∧
    (payload.length ≤ 240 → check ≠ consoleCheck kind tag payload →
      exec (.requestFrame kind tag payload check) s =
        happened (raise (.link .check) { s with link := { s.link with framer := none } })) ∧
    (payload.length ≤ 240 → check = consoleCheck kind tag payload → 128 ≤ kind →
      exec (.requestFrame kind tag payload check) s =
        happened (raise (.link .kind) { s with link := { s.link with framer := none } })) ∧
    (payload.length ≤ 240 → check = consoleCheck kind tag payload → kind < 128 → s.link.places.length < 4 →
      ∃ n : Nat, (s.buffersLawful = true → n < 4 ∧ ∀ p ∈ s.link.places, p.slot ≠ n) ∧
        exec (.requestFrame kind tag payload check) s =
          happened { s with link := { s.link with
            framer := none,
            places := s.link.places ++ [{ slot := n, kind := kind, tag := tag, payload := payload, state := .waiting }] } }) ∧
    (payload.length ≤ 240 → check = consoleCheck kind tag payload → kind < 128 → 4 ≤ s.link.places.length →
      s.link.refusals.length < 8 →
      exec (.requestFrame kind tag payload check) s =
        happened { s with link := { s.link with framer := none, ready := s.link.ready ++ [.refusal kind tag] } }) ∧
    (payload.length ≤ 240 → check = consoleCheck kind tag payload → kind < 128 → 4 ≤ s.link.places.length →
      8 ≤ s.link.refusals.length →
      exec (.requestFrame kind tag payload check) s =
        happened (raise (.link .overrun) { s with link := { s.link with framer := none } }))) ∧
  (∀ (b : Byte) (err : Bool) (s : State), s.power.on = true →
    (s.link.framer = none →
      exec .consoleGapTimeout s = happened s ∧
      exec (.consoleByte b err) s =
        happened (if err = false ∧ b = 0x5C#8 then { s with link := { s.link with framer := some [0x5C#8] } } else s)) ∧
    (∀ buf : List Byte, s.link.framer = some buf →
      exec .consoleGapTimeout s = happened (raise (.link .gap) { s with link := { s.link with framer := none } }) ∧
      exec (.consoleByte b true) s = happened (raise (.link .framing) { s with link := { s.link with framer := none } }) ∧
      (buf.length = 1 → 240 < b.toNat →
        exec (.consoleByte b false) s = happened (raise (.link .length) { s with link := { s.link with framer := none } })) ∧
      (buf.length = 1 → b.toNat ≤ 240 →
        exec (.consoleByte b false) s = happened { s with link := { s.link with framer := some (buf ++ [b]) } }) ∧
      (∀ n : Byte, 2 ≤ buf.length → buf.length + 1 < 6 + n.toNat → buf[1]? = some n →
        exec (.consoleByte b false) s = happened { s with link := { s.link with framer := some (buf ++ [b]) } })))

/-! ### The Stick Port -/

/-- PANEL_FRAME (R2 to R5, R10): a valid frame replaces the held samples, brings the port LIVE, restarts the stale timer,
records its number and releases the centred channels, whatever its button codes do after that; a frame without codes, or a
repeated one, does no more. The codes of a new frame, one whose number is not the last recorded, are handed on to the trigger
table one after the other, in their order in the frame (R3, R16, R169). A frame that is not valid only leaves the receiver HUNTING.
The threshold of a channel (R10): the smallest deadband of the axes bound to it, 64 with none. -/
def Obligations.PanelFrameArrives : Prop :=
  (∀ (seq check : Nat) (samples : List Int) (codes : List Nat) (s : State), s.power.on = true → seq ≤ 255 →
    samples.length = 8 → codes.length ≤ 4 →
    (panelValid seq samples codes check = false →
      exec (.panelFrame seq samples codes check) s = happened { s with stick := { s.stick with receiver := none } }) ∧
    (panelValid seq samples codes check = true → ∃ t : State,
      exec (.panelFrame seq samples codes check) s = happened t ∧
      t.stick.port = .live ∧ t.stick.elapsed = 0 ∧ t.stick.seq = some seq ∧ t.stick.timeout = s.stick.timeout ∧
      (∀ (ch : Fin 8) (x : Int), samples[ch.val]? = some x → t.stick.held[ch] = if x = -2048 then -2047 else x) ∧
      (∀ ch : Fin 8, t.stick.channels[ch] =
        if s.stick.channels[ch] = .centredWait ∧ s.threshold ch < t.stick.held[ch].natAbs then .centredWait else .live) ∧
      (codes = [] ∨ s.stick.seq = some seq →
        t.axes = s.axes ∧ t.playerA = s.playerA ∧ t.playerB = s.playerB ∧ t.recorder = s.recorder ∧ t.cue = s.cue ∧
        t.port = s.port ∧ t.lib = s.lib ∧ t.timer = s.timer ∧ t.log = s.log ∧
        t.noticeSlot .stick = (if s.stick.port = .stale then
          (s.noticeSlot .stick).raised { frame := s.timer.number, detail := .stick .live (some seq) }
          else s.noticeSlot .stick)) ∧
      (s.stick.seq ≠ some seq → ∃ u : State,
        t = codes.foldl buttonCode u ∧ u = { s with stick := t.stick, notices := u.notices } ∧
        u.notices.multi = s.notices.multi ∧
        u.noticeSlot .stick = (if s.stick.port = .stale then
          (s.noticeSlot .stick).raised { frame := s.timer.number, detail := .stick .live (some seq) }
          else s.noticeSlot .stick) ∧
        ∀ c : NoticeClass, c ≠ .stick → u.noticeSlot c = s.noticeSlot c))) ∧
  (∀ (s : State) (ch : Fin 8),
    ((∀ i : Fin 8, (s.axis i).boundTo ch = false) → s.threshold ch = 64) ∧
    (∀ (i : Fin 8) (c : AxisConfig), (s.axis i).cfg = some c → c.channel = some ch → s.threshold ch ≤ c.deadband) ∧
    ((∃ i : Fin 8, (s.axis i).boundTo ch = true) →
      ∃ (i : Fin 8) (c : AxisConfig), (s.axis i).cfg = some c ∧ c.channel = some ch ∧ s.threshold ch = c.deadband))

/-- The bytes of a panel frame, received one after the other by a HUNTING receiver, are the completion of that frame.
PANEL_BYTE and PANEL_GAP_TIMEOUT (R1): a HUNTING receiver takes only 0xA5 without a framing error; an assembling one
abandons the frame at a framing error, at a count above 4 and at a gap, and takes any other byte that does not complete it. -/
def Obligations.PanelBytesAssembleTheFrame : Prop :=
  (∀ (seq check : Nat) (samples : List Int) (codes : List Nat) (s : State), seq < 256 → check < 256 → samples.length = 8 →
    (∀ x ∈ samples, -32768 ≤ x ∧ x ≤ 32767) → codes.length ≤ 4 → (∀ c ∈ codes, c < 256) → s.stick.receiver = none →
    ([0xA5#8] ++ u8 seq ++ u8 codes.length ++ samples.flatMap s16 ++ codes.flatMap u8 ++ u8 check).foldl
      (fun t b => panelReceive b false t) s = panelComplete seq samples codes check s) ∧
  (∀ (b : Byte) (err : Bool) (s : State), s.power.on = true →
    exec .panelGapTimeout s = happened { s with stick := { s.stick with receiver := none } } ∧
    (s.stick.receiver = none →
      exec (.panelByte b err) s =
        happened (if err = false ∧ b = 0xA5#8 then { s with stick := { s.stick with receiver := some [0xA5#8] } } else s)) ∧
    (∀ buf : List Byte, s.stick.receiver = some buf →
      exec (.panelByte b true) s = happened { s with stick := { s.stick with receiver := none } } ∧
      (buf.length = 2 → 4 < b.toNat → exec (.panelByte b false) s = happened { s with stick := { s.stick with receiver := none } }) ∧
      ((buf.length = 1 ∨ (buf.length = 2 ∧ b.toNat ≤ 4) ∨
          ∃ n : Byte, 3 ≤ buf.length ∧ buf[2]? = some n ∧ buf.length + 1 < 20 + n.toNat) →
        exec (.panelByte b false) s = happened { s with stick := { s.stick with receiver := some (buf ++ [b]) } })))

/-- STALE_TIMEOUT (R7): in LIVE the port becomes STALE with a STICK notice, and until the next valid frame every demand is 0;
in STALE nothing expires, and given as a command it acts in LIVE whatever the milliseconds counted (log 27).
SET_PANEL and GET_PANEL (R8, R9).
SET_FRAME, GET_FRAME, SET_GEOMETRY, GET_GEOMETRY and GET_BLEND (R20, R21, R30, R42). -/
def Obligations.StickAndFrameRequestsComplete : Prop :=
  ((∀ s : State, s.power.on = true →
    (s.stick.port = .stale → exec .staleTimeout s = happened s) ∧
    (s.stick.port = .live → ∃ t : State, exec .staleTimeout s = happened (raise (.stick .stale none) t) ∧
      t = { s with stick := t.stick } ∧ t.stick.port = .stale ∧ t.stick.seq = none ∧ t.stick.held = s.stick.held ∧
      t.stick.timeout = s.stick.timeout ∧ (∀ ch : Fin 8, t.stick.channels[ch] = .centredWait) ∧
      (∀ c : AxisConfig, t.stick.axisDemand c = 0) ∧ ∀ ch : Fin 8, t.stick.channelDemand ch = 0)) ∧
  (∀ s : State, s.delivers = true →
    (∀ n : Nat, 10 ≤ n → n ≤ 500 → (s.stick.port = .stale ∨ s.stick.elapsed < n) →
      exec (.setPanel n) s = accepted (.setPanel n) s { s with stick := { s.stick with timeout := n } }) ∧
    (∀ n : Nat, 10 ≤ n → n ≤ 500 → s.stick.port = .live → n ≤ s.stick.elapsed →
      exec (.setPanel n) s = accepted (.setPanel n) s (raise (.stick .stale none) { s with stick := { s.stick with
        timeout := n, port := .stale, elapsed := 0, seq := none, channels := Vector.replicate 8 .centredWait } })) ∧
    (∀ n : Nat, n < 10 ∨ 500 < n → exec (.setPanel n) s = turnedAway (.setPanel n) s .badValue) ∧
    exec .getPanel s = told .getPanel s (u8 s.stick.port.code ++ u16 s.stick.timeout ++ encOpt 1 u8 s.stick.seq ++
      allAxes.flatMap fun ch => s16 s.stick.held[ch] ++ u8 (s.stick.channels[ch]).code))) ∧
  (∀ s : State, s.delivers = true →
    (∀ p : Nat, (p = 1 ∨ p = 2 ∨ p = 4) →
      (∀ i : Fin 8, (s.axis i).state ≠ .active ∧ (s.axis i).state ≠ .stopping ∧ (s.axis i).state ≠ .held) →
      exec (.setFrame p) s = accepted (.setFrame p) s { s with timer := { s.timer with period := p } }) ∧
    (∀ p : Nat, ¬ (p = 1 ∨ p = 2 ∨ p = 4) → exec (.setFrame p) s = turnedAway (.setFrame p) s .badValue) ∧
    (∀ (p : Nat) (i : Fin 8), (p = 1 ∨ p = 2 ∨ p = 4) →
      ((s.axis i).state = .active ∨ (s.axis i).state = .stopping ∨ (s.axis i).state = .held) →
      exec (.setFrame p) s = turnedAway (.setFrame p) s .wrongState) ∧
    exec .getFrame s = told .getFrame s (u8 s.timer.period ++ u32 s.timer.number) ∧
    (∀ a b c d : Nat, (a ≤ 4000000 ∧ 1 ≤ b ∧ b ≤ 4000000 ∧ 1 ≤ c ∧ c ≤ 4000000 ∧ 1 ≤ d ∧ d ≤ 65535) →
      exec (.setGeometry a b c d) s = accepted (.setGeometry a b c d) s
        { s with geometry := { rBase := a, rRef := b, rMin := c, releaseFrames := d } }) ∧
    (∀ a b c d : Nat, ¬ (a ≤ 4000000 ∧ 1 ≤ b ∧ b ≤ 4000000 ∧ 1 ≤ c ∧ c ≤ 4000000 ∧ 1 ≤ d ∧ d ≤ 65535) →
      exec (.setGeometry a b c d) s = turnedAway (.setGeometry a b c d) s .badValue) ∧
    exec .getGeometry s = told .getGeometry s
      (u24 s.geometry.rBase ++ u24 s.geometry.rRef ++ u24 s.geometry.rMin ++ u16 s.geometry.releaseFrames) ∧
    (∀ n : Nat, 8 ≤ n → exec (.getBlend n) s = turnedAway (.getBlend n) s .badValue) ∧
    ∀ i : Fin 8, exec (.getBlend i.val) s = told (.getBlend i.val) s
      (u8 (s.axis i).blend.fromSrc.code ++ u8 (s.axis i).blend.toSrc.code ++ u16 (s.axis i).blend.k ++
        encOpt 2 u16 (s.axis i).blend.len ++ u16 (s.axis i).blend.weight ++ s24 (s.axis i).blend.live ++
        s24 (s.axis i).blend.trim ++ u8 (s.axis i).blend.mode.code ++ u8 (s.refCount .a) ++ u8 (s.refCount .b)))

/-- The demand of an axis (R13, R14): within −32767 to 32767, 0 within the deadband, 32767 at full deflection, odd in the
sample, reversed by the invert flag, and 0 without a channel, in CENTRED_WAIT and in STALE; beyond the deadband its magnitude
is the rescaled sample shaped by the curve, with the sample's sign, negated by the invert flag.
The demand of a channel for a rate binding (R15): deadband 64, LINEAR, no inversion, 0 in CENTRED_WAIT and in STALE. -/
def Obligations.DemandIsShapedWithinRange : Prop :=
  ∀ (c : AxisConfig) (p : StickPort) (ch : Fin 8), c.deadband ≤ 512 → p.held[ch].natAbs ≤ 2047 →
    (c.channel = none → p.axisDemand c = 0) ∧
    (c.channel = some ch → (p.port = .stale ∨ p.channels[ch] = .centredWait) → p.axisDemand c = 0) ∧
    (c.channel = some ch → (p.axisDemand c).natAbs ≤ 32767) ∧
    (c.channel = some ch → p.held[ch].natAbs ≤ c.deadband → p.axisDemand c = 0) ∧
    (c.channel = some ch → p.port = .live → p.channels[ch] = .live → c.invert = false →
      (p.held[ch] = 2047 → p.axisDemand c = 32767) ∧ (p.held[ch] = -2047 → p.axisDemand c = -32767)) ∧
    (c.channel = some ch → p.port = .live → p.channels[ch] = .live → c.deadband < p.held[ch].natAbs →
      let m := (p.held[ch].natAbs - c.deadband) * 32767 / (2047 - c.deadband)
      let curved : Nat := match c.curve with
        | .linear => m
        | .square => m * m / 32767
        | .mixed => (m + m * m / 32767) / 2
      p.axisDemand c = (if c.invert then -1 else 1) * p.held[ch].sign * curved) ∧
    (∀ j : Int, shape c.deadband c.curve c.invert (-j) = - shape c.deadband c.curve c.invert j ∧
      shape c.deadband c.curve true j = - shape c.deadband c.curve false j ∧
      (c.deadband < j.natAbs →
        let m := (j.natAbs - c.deadband) * 32767 / (2047 - c.deadband)
        (shape c.deadband .linear c.invert j).natAbs = m ∧ (shape c.deadband .square c.invert j).natAbs = m * m / 32767 ∧
        (shape c.deadband .mixed c.invert j).natAbs = (m + m * m / 32767) / 2)) ∧
    ((p.port = .stale ∨ p.channels[ch] = .centredWait) → p.channelDemand ch = 0) ∧
    (p.port = .live → p.channels[ch] = .live →
      p.channelDemand ch = p.held[ch].sign * ((p.held[ch].natAbs - 64) * 32767 / 1983 : Nat)) ∧
    (p.channelDemand ch).natAbs ≤ 32767

/-! ### The Frame Timer, the geometry record and the Blend Engine -/

/-- Stick velocity (R29, R31): trunc(d × vstick / 32767), and trunc of that times the scale / 4096 on a tip-scaled axis; the
scale is floor(r_ref × 4096 / max(r_base + x, r_min)) saturated to 256 to 16384, 4096 with the geometry values after reset and
REACH at 0; the velocity is at most vstick, four times that when scaled; TIP_CLAMP tells when the clamp on the scale acted.
Routing and tracking (R32, R33): the stick moves L while LIVE takes part, the trim in TRIM mode otherwise, each within
its range; afterwards L is out unless the record fades with LIVE.
The candidate (R34): the from-source's position at weight 0, and never outside the two sources' positions. -/
def Obligations.VelocityRoutingAndCandidate : Prop :=
  (∀ (c : AxisConfig) (g : Geometry) (x d : Int), d.natAbs ≤ 32767 →
    g.scale x = max 256 (min 16384 ((g.rRef : Int) * 4096 / max ((g.rBase : Int) + x) g.rMin)) ∧
    256 ≤ g.scale x ∧ g.scale x ≤ 16384 ∧ Geometry.reset.scale 0 = 4096 ∧
    (c.tipScaled = false → stickVelocity c g x d = Int.tdiv (d * c.vstick) 32767) ∧
    (c.tipScaled = true → stickVelocity c g x d = Int.tdiv (Int.tdiv (d * c.vstick) 32767 * g.scale x) 4096) ∧
    (c.tipScaled = false → (stickVelocity c g x d).natAbs ≤ c.vstick) ∧
    (stickVelocity c g x d).natAbs ≤ 4 * c.vstick ∧ stickVelocity c g x 0 = 0 ∧
    (c.tipScaled = true → g.scale x = 4096 →
      stickVelocity c g x d = stickVelocity { c with tipScaled := false } g x d) ∧
    (c.tipScaled = true → (tipClamp c g x = true ↔ g.rawScale x < 256 ∨ 16384 < g.rawScale x))) ∧
  (∀ (b : Blend) (c : AxisConfig) (v out : Int), c.softMin < c.softMax →
    (b.fromSrc = .live ∨ b.toSrc = .live →
      b.route c v = { b with live := max c.softMin (min c.softMax (b.live + v)) } ∧ b.trimSat c v = false) ∧
    (b.fromSrc ≠ .live → b.toSrc ≠ .live → b.mode = .trim →
      b.route c v = { b with trim := max (-(c.trimMax : Int)) (min c.trimMax (b.trim + v)) } ∧
      (b.trimSat c v = true ↔ b.trim + v < -(c.trimMax : Int) ∨ (c.trimMax : Int) < b.trim + v)) ∧
    (b.fromSrc ≠ .live → b.toSrc ≠ .live → b.mode = .liveOnly → b.route c v = b ∧ b.trimSat c v = false) ∧
    (b.fromSrc ≠ b.toSrc → (b.fromSrc = .live ∨ b.toSrc = .live) → b.track out = b) ∧
    ((b.fromSrc = b.toSrc ∨ (b.fromSrc ≠ .live ∧ b.toSrc ≠ .live)) → b.track out = { b with live := out })) ∧
  (∀ (b : Blend) (a p : Int), b.lawful = true →
    let x := b.position a p b.fromSrc
    let y := b.position a p b.toSrc
    (b.weight = 0 → b.candidate a p = x) ∧ min x y ≤ b.candidate a p ∧ b.candidate a p ≤ max x y ∧
    2 * ((b.candidate a p - x) * 1024 - (y - x) * b.weight).natAbs ≤ 1024 ∧ b.weight ≤ 1023)

/-- The first case of R39 that fits, at one record: unchanged, a cut, a start, or a reversal (R40, R41).
A fade of F frames from a steady record (R36): at frame n below F the record is fading with k equal to n and weight
floor(1024 n / F), and after F frames it is steady on the target, its trim cleared on reaching LIVE.
FADE_COMPLETE (R36): a record whose count has reached F is steady on its target, with no trim on LIVE, and a RELEASING
player that no record then names becomes IDLE; a record whose count has not reached F is left as it is (log 5). -/
def Obligations.FadeChangesAndCountsARecord : Prop :=
  (∀ (b : Blend) (x : Source) (f : Nat) (out : Int),
    (b.fromSrc = b.toSrc → b.fromSrc = x → b.fadeTo x f out = b) ∧
    (¬ (b.fromSrc = b.toSrc ∧ b.fromSrc = x) → f = 0 →
      b.fadeTo x f out = { b with
        fromSrc := x, toSrc := x, k := 0, len := none, live := if x = .live then out else b.live,
        trim := if x = .live then 0 else b.trim }) ∧
    (b.fromSrc = b.toSrc → b.fromSrc ≠ x → 0 < f →
      b.fadeTo x f out = { b with toSrc := x, k := 0, len := some f }) ∧
    (∀ n : Nat, b.fromSrc ≠ b.toSrc → x = b.fromSrc → 0 < f → b.len = some n →
      (1024 * b.k / n = 0 → b.fadeTo x f out = b.fadeTo x 0 out) ∧
      (b.k < n → 1024 * b.k / n ≠ 0 →
        b.fadeTo x f out = { b with
          fromSrc := b.toSrc, toSrc := b.fromSrc, k := (1024 - 1024 * b.k / n) * f / 1024, len := some f } ∧
        (b.fadeTo x f out).weight ≤ 1024 - b.weight))) ∧
  ((∀ (b : Blend) (x : Source) (f : Nat) (out : Int), b.fromSrc = b.toSrc → b.fromSrc ≠ x → 0 < f →
    (∀ n : Nat, n < f →
      Blend.progress^[n] (b.fadeTo x f out) = { b with toSrc := x, k := n, len := some f } ∧
      (Blend.progress^[n] (b.fadeTo x f out)).weight = 1024 * n / f) ∧
    Blend.progress^[f] (b.fadeTo x f out) =
      { b with fromSrc := x, toSrc := x, k := 0, len := none, trim := if x = .live then 0 else b.trim }) ∧
  (∀ (i : Fin 8) (s : State), s.power.on = true →
    (∀ f : Nat, (s.axis i).blend.fromSrc ≠ (s.axis i).blend.toSrc → (s.axis i).blend.len = some f → (s.axis i).blend.k = f →
      ∃ t : State, exec (.fadeComplete i.val) s = happened t ∧
        (t.axis i).blend = { (s.axis i).blend with
          fromSrc := (s.axis i).blend.toSrc, k := 0, len := none,
          trim := if (s.axis i).blend.toSrc = .live then 0 else (s.axis i).blend.trim } ∧
        (∀ j : Fin 8, j ≠ i → t.axis j = s.axis j) ∧
        ∀ p : PlayerId, ((s.player p).state = .releasing → s.refCount p ≠ 0 → t.refCount p = 0 → (t.player p).state = .idle) ∧
          ((s.player p).state ≠ .releasing → t.player p = s.player p)) ∧
    ((s.axis i).blend.len ≠ some (s.axis i).blend.k → exec (.fadeComplete i.val) s = happened s)))

/-- FADE, accepted (R37 to R39): every axis of the mask takes the change of its record, and nothing else of any axis changes;
each player left with no record naming it has its reference-clear arrival.
FADE, refused (R38): the code of the first check that fails at the lowest axis of the mask that fails one, with the
axis's index in the reply; nothing changes. A player that is not filled, or IDLE, RELEASING or FAULTED, is no target.
An empty or overlong mask, a target that is no source and a length above 65535 are refused BAD_VALUE, naming no axis (R37). -/
def Obligations.FadeRequestChecksItsAxes : Prop :=
  (∀ (m : Mask) (x : Source) (f : Nat) (s : State), s.delivers = true → m ≠ 0#8 → f ≤ 65535 →
    (∀ i : Fin 8, Mask.has m i = true → (s.axis i).state = .active ∧
      ((s.axis i).blend.fromSrc = (s.axis i).blend.toSrc ∨ (s.axis i).blend.fromSrc = x) ∧
      ∀ p : PlayerId, x = p.source → (s.player p).filled = true ∧ (s.player p).covers i = true ∧
        ((s.player p).state = .loaded ∨ (s.player p).state = .running ∨ (s.player p).state = .paused ∨
          (s.player p).state = .starved ∨ (s.player p).state = .ended)) →
    ∃ t : State, exec (.fade m.toNat x.code f) s = delivered (.fade m.toNat x.code f) s t { code := .ok, fields := [0#8, 0#8] } ∧
      (∀ i : Fin 8, t.axis i =
        if Mask.has m i then { s.axis i with blend := (s.axis i).blend.fadeTo x f (s.axis i).out } else s.axis i) ∧
      (∀ p : PlayerId, (s.refCount p ≠ 0 → t.refCount p = 0 → (s.player p).state = .releasing →
          (t.player p).state = .idle) ∧
        (t.refCount p ≠ 0 ∨ s.refCount p = 0 ∨ (s.player p).state ≠ .releasing → t.player p = s.player p)) ∧
      t.recorder = s.recorder ∧ t.cue = s.cue ∧ t.timer = s.timer ∧ t.notices = s.notices ∧ t.log = s.log) ∧
  (∀ (m : Mask) (x : Source) (f : Nat) (i : Fin 8) (s : State), s.delivers = true → f ≤ 65535 → Mask.has m i = true →
    (∀ j : Fin 8, j < i → Mask.has m j = true → fadeCheck s x j = .ok) →
    let no (c : Result) := delivered (.fade m.toNat x.code f) s s { code := c, fields := [1#8, BitVec.ofNat 8 i.val] }
    ((s.axis i).state ≠ .active → exec (.fade m.toNat x.code f) s = no .wrongState) ∧
    (∀ p : PlayerId, (s.axis i).state = .active → x = p.source →
      ((s.player p).filled = false ∨ (s.player p).state = .idle ∨ (s.player p).state = .releasing ∨
        (s.player p).state = .faulted) →
      exec (.fade m.toNat x.code f) s = no .wrongState) ∧
    (∀ p : PlayerId, (s.axis i).state = .active → x = p.source → (s.player p).fadable = true →
      (s.player p).covers i = false → exec (.fade m.toNat x.code f) s = no .axisNotInMove) ∧
    ((s.axis i).state = .active → (∀ p : PlayerId, x = p.source → (s.player p).fadable = true ∧ (s.player p).covers i = true) →
      (s.axis i).blend.fromSrc ≠ (s.axis i).blend.toSrc → x ≠ (s.axis i).blend.fromSrc →
      exec (.fade m.toNat x.code f) s = no .busy)) ∧
  (∀ (mask target f : Nat) (s : State), s.delivers = true →
    (mask = 0 ∨ 256 ≤ mask ∨ 3 ≤ target ∨ 65535 < f) →
    exec (.fade mask target f) s = delivered (.fade mask target f) s s { code := .badValue, fields := [0#8, 0#8] })

/-- TAKE_OVER (R43, R44): every ACTIVE axis is steady LIVE or fading to LIVE afterwards: at once where two players were
blended, by a new fade from one player, by the reversal of a fade from LIVE; one on the way to LIVE, or in another state, keeps
its record. A player changes only by its reference-clear arrival while RELEASING, which makes it IDLE (R28, R122). -/
def Obligations.TakeOverHandsBack : Prop :=
  ∀ s : State, s.delivers = true →
    ∃ t : State, exec .takeOver s = accepted .takeOver s t ∧
      (∀ i : Fin 8, (s.axis i).state ≠ .active → t.axis i = s.axis i) ∧
      (∀ i : Fin 8, (s.axis i).state = .active → (t.axis i).blend.toSrc = .live ∧
        t.axis i = { s.axis i with blend := (t.axis i).blend }) ∧
      (∀ i : Fin 8, (s.axis i).state = .active → (s.axis i).blend.toSrc = .live → t.axis i = s.axis i) ∧
      (∀ i : Fin 8, (s.axis i).state = .active → (s.axis i).blend.fromSrc ≠ .live → (s.axis i).blend.fromSrc = (s.axis i).blend.toSrc →
        (t.axis i).blend = { (s.axis i).blend with toSrc := .live, k := 0, len := some s.geometry.releaseFrames }) ∧
      (∀ i : Fin 8, (s.axis i).state = .active → (s.axis i).blend.fromSrc ≠ .live → (s.axis i).blend.toSrc ≠ .live →
        (s.axis i).blend.fromSrc ≠ (s.axis i).blend.toSrc →
        (t.axis i).blend = { (s.axis i).blend with
          fromSrc := .live, toSrc := .live, k := 0, len := none, live := (s.axis i).out, trim := 0 }) ∧
      (∀ (i : Fin 8) (n : Nat), (s.axis i).state = .active → (s.axis i).blend.fromSrc = .live → (s.axis i).blend.toSrc ≠ .live →
        (s.axis i).blend.len = some n → 0 < s.geometry.releaseFrames →
        (t.axis i).blend =
          if 1024 * (s.axis i).blend.k / n = 0 then { (s.axis i).blend with
            fromSrc := .live, toSrc := .live, k := 0, len := none, live := (s.axis i).out, trim := 0 }
          else { (s.axis i).blend with
            fromSrc := (s.axis i).blend.toSrc, toSrc := .live,
            k := (1024 - 1024 * (s.axis i).blend.k / n) * s.geometry.releaseFrames / 1024,
            len := some s.geometry.releaseFrames }) ∧
      ∀ p : PlayerId,
        ((s.player p).state ≠ .releasing ∨ s.refCount p = 0 ∨ t.refCount p ≠ 0 → t.player p = s.player p) ∧
        ((s.player p).state = .releasing → s.refCount p ≠ 0 → t.refCount p = 0 → (t.player p).state = .idle)

/-! ### The output frame and the Limit Stage -/

/-- OUTPUT_FRAME (R19, R22, R25): the frame number advances by one and wraps at 2^32; the players are asked; each ACTIVE axis is
routed and blended, then limited or held by the zone hold, then tracked; the output set is the out of every configured axis;
the Drive Line, the Recorder, the Cue Sequencer and the status divider each take that publication once, in any order, one
given without repetitions being kept. The order in which the players are asked and that of the four takers are operands, since
no rule fixes them (logs 26 and 4, the model's choice).
A fade that completes in the frame sends its reference-clear arrival in it: a RELEASING player whose last record the frame clears
is IDLE after it, and a cue that is at rest leaves it so (R28, R36, R122).
The frame's own next state: an ACTIVE axis's out is the limit chain's position for its candidate and a STOPPING one's the stop
ramp's, the old out where the zone hold acts; v_prev is the move made, unless the publication has put the axis in FAULT.
The panel frames and stale expiries that come while the players and the Blend Engine ask for demand are operands (log 29): the
player asked first answers from the held samples before them, the second from those after the first part (R12, R113), the
Stick Port is left as they leave it, and their button codes act after the publication.
The key accesses that complete before, between and after the two answers are operands too (log 35); the players take the DAMAGED
outcomes among them after the publication (R123).
The publication at the Drive Line (R179): one exchange for each configured axis, in ascending index, carrying the axis's
published out as setpoint and v_prev as feed-forward, under the axis's next sequence number; so also at the first exchange after
an ENABLE_AXIS, where R177 speaks of the seated out (log 40). -/
def Obligations.OutputFramePublishes : Prop :=
  (∀ (order : List Sink) (players : PlayerTurns) (s : State), s.power.on = true →
    ∃ t : State, exec (.outputFrame order players) s = happened t ∧
      t.timer.number = (s.timer.number + 1) % 4294967296 ∧ t.timer.interval = s.timer.period ∧ t.timer.elapsed = 0 ∧
      t.timer.period = s.timer.period ∧
      (∀ i : Fin 8, t.outputSet[i] = if (s.axis i).state = .unconfigured then none else some (t.axis i).out) ∧
      (∀ i : Fin 8, ((s.axis i).state = .disabled ∨ (s.axis i).state = .fault) → (t.axis i).out = (s.axis i).out) ∧
      t.stick = (stickEvents (players.mid ++ players.late) s).1.stick ∧ t.geometry = s.geometry ∧ t.stopLine = s.stopLine ∧
      t.marks = s.marks ∧ t.cueList = s.cueList ∧ t.triggers = s.triggers ∧
      let asked := askPlayers players { s with timer := { s.timer with
        interval := s.timer.period, elapsed := 0, number := (s.timer.number + 1) % 4294967296 } }
      let q := asked.1
      let f := trackStage (limitStage q.candidate q.handedFlags (blendStage q))
      let p := { f with
        outputSet := Vector.ofFn fun i => if (f.axis i).state = .unconfigured then none else some (f.axis i).out,
        recorder := { f.recorder with awaiting := true } }
      t = asked.2.foldl buttonCode (takeFaults players.faults ((sinkOrder order).foldl (publishTo p) p)) ∧
      (sinkOrder order).Perm [.driveLine, .recorder, .cue, .noticeUnit] ∧ (order.Nodup → order <+: sinkOrder order) ∧
      (∀ u : State, publishTo p u .driveLine = drivePublication p u ∧ publishTo p u .recorder = recorderPublication u ∧
        publishTo p u .cue = cuePublication u ∧ publishTo p u .noticeUnit = dividerCount p u) ∧
      (∀ pl : PlayerId,
        let clears := (s.player pl).state = .releasing ∧ s.refCount pl ≠ 0 ∧ f.refCount pl = 0
        (clears → f.player pl = { Player.reset with rate := (s.player pl).rate, binding := (s.player pl).binding } ∧
          (s.cue.state ≠ .running → s.cue.state ≠ .waiting → (t.player pl).state = .idle)) ∧
        (¬ clears → f.player pl = q.player pl)) ∧
      ∀ (i : Fin 8) (c : AxisConfig), (s.axis i).cfg = some c →
        let v := stickVelocity c s.geometry (s.geoOut reach) (q.stick.axisDemand c)
        let routed := (s.axis i).blend.route c v
        let proposed (j : Fin 8) := (s.axis j).propose (q.candidate j) (q.handedFlags j)
        let held := geometric i = true ∧ s.inEnabledZone (s.checkPoint proposed) = true
        q.candidate i = routed.candidate (q.playerA.answer i) (q.playerB.answer i) ∧
        q.handedFlags i = { ClampFlags.none with
          trimSat := (s.axis i).blend.trimSat c v, tipClamp := tipClamp c s.geometry (s.geoOut reach) } ∧
        ((s.axis i).state ≠ .unconfigured → (f.axis i).blend =
          (if (s.axis i).state = .active then routed.progress else (s.axis i).blend).track (f.axis i).out) ∧
        (∀ x : Proposal,
          ((s.axis i).state = .active ∧ x = limitChain c (s.axis i).out (s.axis i).vPrev (q.candidate i) (q.handedFlags i)) ∨
            ((s.axis i).state = .stopping ∧ x = stopChain c (s.axis i).out (s.axis i).vPrev) →
          proposed i = some x ∧
          (held → (t.axis i).out = (s.axis i).out) ∧ (¬ held → (t.axis i).out = x.p) ∧
          ((t.axis i).state ≠ .fault →
            (t.axis i).vPrev = (t.axis i).out - (s.axis i).out ∧
            (held → (t.axis i).flags = { x.flags with zone := true }) ∧ (¬ held → (t.axis i).flags = x.flags)))) ∧
  (∀ (players : PlayerTurns) (s : State),
    let t := (askPlayers players s).1
    let a := positionRequest (firstAsked players.order) (frameAccesses players.accesses s)
    let b := positionRequest (secondAsked players.order) (stickEvents players.mid (frameAccesses players.midAccesses a)).1
    t = (stickEvents players.late (frameAccesses players.lateAccesses b)).1 ∧
    (players.midAccesses = [] → players.lateAccesses = [] →
      t.player (firstAsked players.order) = a.player (firstAsked players.order) ∧
      (players.accesses = [] → t.player (secondAsked players.order) =
        (positionRequest (secondAsked players.order) (stickEvents players.mid s).1).player (secondAsked players.order))) ∧
    t.axes = s.axes ∧ t.stick = (stickEvents (players.mid ++ players.late) s).1.stick) ∧
  (∀ (f s : State), s.axes = f.axes →
    (drivePublication f s).exchanges.map (·.address) = allAxes.filter (fun i => (f.axis i).configured) ∧
    ∀ x ∈ (drivePublication f s).exchanges, x.setpoint = (f.axis x.address).out ∧ x.feedForward = (f.axis x.address).vPrev ∧
      x.seq = (f.axis x.address).nextSeq ∧
      ((drivePublication f s).axis x.address).nextSeq = ((f.axis x.address).nextSeq + 1) % 16 ∧
      (x.enable = true → (f.axis x.address).enabled = true))

/-- The limit chain on an axis (R52 to R54): the move asked for, limited to amax of change, to vmax, by the slowing band toward
the limit ahead, and by the soft limits; ACCEL, VELOCITY, BAND and SOFT are each set exactly when their own step changed the
value, and the other flags are kept. The position lies within the soft limits, the move within vmax and within amax of growth.
The stop ramp (R65): after n frames the velocity v has the magnitude |v| less 2 n amax, with the sign of v, and never
crosses zero; so it is at rest exactly from frame ceil(|v| / (2 amax)) on. -/
def Obligations.LimitChainAndRampBoundTheMove : Prop :=
  (∀ (c : AxisConfig) (out v cand : Int) (f : ClampFlags), c.softMin < c.softMax → c.softMin ≤ out → out ≤ c.softMax →
    let x := limitChain c out v cand f
    let v2 := max (v - c.amax) (min (v + c.amax) (cand - out))
    let v3 := max (-(c.vmax : Int)) (min c.vmax v2)
    let v4 :=
      if 0 < c.band ∧ 0 < v3 ∧ c.softMax - out < c.band then min v3 (c.vmax * (c.softMax - out) / c.band)
      else if 0 < c.band ∧ v3 < 0 ∧ out - c.softMin < c.band then max v3 (-(c.vmax * (out - c.softMin) / c.band))
      else v3
    x.p = max c.softMin (min c.softMax (out + v4)) ∧
    x.flags.velocity = decide (v3 ≠ v2) ∧ x.flags.band = decide (v4 ≠ v3) ∧ x.flags.soft = decide (x.p ≠ out + v4) ∧
    c.softMin ≤ x.p ∧ x.p ≤ c.softMax ∧ (x.p - out).natAbs ≤ c.vmax ∧ (x.p - out).natAbs ≤ v.natAbs + c.amax ∧
    (x.flags.accel = decide ((cand - out - v).natAbs > c.amax)) ∧ x.flags.zone = f.zone ∧ x.flags.stop = f.stop ∧
    x.flags.trimSat = f.trimSat ∧ x.flags.tipClamp = f.tipClamp ∧
    (x.flags.accel = false → x.flags.velocity = false → x.flags.band = false → x.flags.soft = false → x.p = cand) ∧
    (0 < c.band → x.p > out → (x.p - out) * c.band ≤ c.vmax * (c.softMax - out) ∨ (c.band : Int) ≤ c.softMax - out) ∧
    (0 < c.band → x.p < out → (out - x.p) * c.band ≤ c.vmax * (out - c.softMin) ∨ (c.band : Int) ≤ out - c.softMin)) ∧
  (∀ (c : AxisConfig) (v : Int) (n : Nat), 1 ≤ c.amax →
    ((rampStep c)^[n] v).natAbs = v.natAbs - n * (2 * c.amax) ∧
    (0 ≤ v → 0 ≤ (rampStep c)^[n] v) ∧ (v ≤ 0 → (rampStep c)^[n] v ≤ 0) ∧
    ((rampStep c)^[n] v = 0 ↔ (v.natAbs + 2 * c.amax - 1) / (2 * c.amax) ≤ n))

/-- An output frame never moves an axis by more than vmax, nor by more than amax beyond the last move (R52, R65); a HELD,
DISABLED or FAULT axis is not moved (R55, R49), and an axis that has come to rest on its ramp is HELD (R66). The frame that brings the
last STOPPING axis to rest leaves the AXIS detail ALL_HELD, stamped with its own number, where no drive fault comes in it (R66). -/
def Obligations.OutputFrameNeverJumps : Prop :=
  ∀ (order : List Sink) (players : PlayerTurns) (s t : State) (i : Fin 8), s.power.on = true →
    s.axesLawful = true → exec (.outputFrame order players) s = .next t →
    (∀ c : AxisConfig, (s.axis i).cfg = some c → (s.axis i).moving = true →
      ((t.axis i).out - (s.axis i).out).natAbs ≤ c.vmax ∧
      ((t.axis i).out - (s.axis i).out).natAbs ≤ (s.axis i).vPrev.natAbs + c.amax) ∧
    ((s.axis i).moving = false → (t.axis i).out = (s.axis i).out) ∧
    ((s.axis i).state = .stopping → (t.axis i).state ≠ .fault →
      ((t.axis i).state = .held ↔ (t.axis i).out = (s.axis i).out) ∧ (t.axis i).flags.stop = true) ∧
    ((s.axis i).state = .stopping → (t.axis i).state = .held → (∀ j : Fin 8, (t.axis j).state ≠ .stopping) →
      (∀ j : Fin 8, (t.axis j).state = .fault → (s.axis j).state = .fault) →
      (t.noticeSlot .axis).detail =
        some { frame := (s.timer.number + 1) % 4294967296, detail := .axis .allHeld none none })

/-- The zone hold (R63): with q inside an enabled zone every moving geometric axis keeps its position, has velocity 0 and
carries ZONE; with q outside, and on the other axes always, each axis takes its own position.
The ZONE notice (R64): each zone whose HOLDING goes from clear to set raises one, in ascending index, so that the detail left is the
highest such zone's, with the four coordinates of q, and the class is coalesced where there is more than one; a zone that stays
HOLDING, or whose HOLDING clears, raises none.
The AXIS notice ALL_HELD (R66): raised once by the Limit Stage of a frame in which an axis becomes HELD and after which no axis
is STOPPING, and by no other frame's. -/
def Obligations.ZoneHoldStopsTheArm : Prop :=
  (∀ (cand : Fin 8 → Int) (f : Fin 8 → ClampFlags) (s : State),
    let t := limitStage cand f s
    let q := s.checkPoint fun j => (s.axis j).propose (cand j) (f j)
    let fresh := allAxes.filter fun j => !(s.zone j).holding && (t.zone j).holding
    (fresh = [] → t.noticeSlot .zone = s.noticeSlot .zone) ∧
    ∀ j : Fin 8, fresh.getLast? = some j → t.noticeSlot .zone = { s.noticeSlot .zone with
      pending := true,
      coalesced := (s.noticeSlot .zone).coalesced || (s.noticeSlot .zone).pending || decide (1 < fresh.length),
      detail := some { frame := s.timer.number, detail := .zone j q.swing q.lift q.reach q.track } }) ∧
  (∀ (cand : Fin 8 → Int) (f : Fin 8 → ClampFlags) (s : State),
    let t := limitStage cand f s
    let last := (∃ i : Fin 8, (s.axis i).state = .stopping ∧ (t.axis i).state = .held) ∧
      ∀ i : Fin 8, (t.axis i).state ≠ .stopping
    (last → t.noticeSlot .axis =
      (s.noticeSlot .axis).raised { frame := s.timer.number, detail := .axis .allHeld none none }) ∧
    (¬ last → t.noticeSlot .axis = s.noticeSlot .axis)) ∧
  ∀ (cand : Fin 8 → Int) (f : Fin 8 → ClampFlags) (s : State) (i : Fin 8) (x : Proposal),
    (s.axis i).propose (cand i) (f i) = some x →
    let t := limitStage cand f s
    let q := s.checkPoint fun j => (s.axis j).propose (cand j) (f j)
    (geometric i = true → s.geometricMoving = true → s.inEnabledZone q = true →
      (t.axis i).out = (s.axis i).out ∧ (t.axis i).vPrev = 0 ∧ (t.axis i).flags = { x.flags with zone := true }) ∧
    ((geometric i = false ∨ s.inEnabledZone q = false) →
      (t.axis i).out = x.p ∧ (t.axis i).vPrev = x.p - (s.axis i).out ∧ (t.axis i).flags = x.flags) ∧
    (∀ j : Fin 8, (t.zone j).holding = (s.geometricMoving && (s.zone j).enabled && (s.zone j).contains q)) ∧
    (s.inEnabledZone s.outPoint = false → t.inEnabledZone t.outPoint = false)

/-- The law of the zones: a crane whose configured geometric axes are all ACTIVE, STOPPING or HELD stands outside every
enabled zone, and no step of any command takes it inside one. -/
def Obligations.StepKeepsArmOutsideZones : Prop :=
  ∀ s t : State, s.zonesLawful = true → step s = .next t → t.zonesLawful = true

/-- SET_ZONE, CLEAR_ZONE, ZONE_ON, ZONE_OFF and GET_ZONE (R57 to R61).
STOP_ALL, RESUME_ALL and the STOP line (R68, R69, R71); an event of the line that is no change leaves the state as it is
(log 27). -/
def Obligations.ZoneAndStopRequestsComplete : Prop :=
  (∀ (s : State) (i : Fin 8) (a b c d : WireBound), s.delivers = true →
    ((s.zone i).enabled = false → (a ≠ none ∨ b ≠ none ∨ c ≠ none ∨ d ≠ none) →
      (∀ x : WireBound, x ∈ [a, b, c, d] → ∀ lo hi : Int, x = some (lo, hi) → lo ≤ hi ∧ posMin ≤ lo ∧ hi ≤ posMax) →
      exec (.setZone i.val a b c d) s = accepted (.setZone i.val a b c d) s
        (s.setZone i { s.zone i with swing := a, lift := b, reach := c, track := d })) ∧
    ((s.zone i).enabled = true → exec (.setZone i.val a b c d) s = turnedAway (.setZone i.val a b c d) s .wrongState) ∧
    ((s.zone i).enabled = false → a = none → b = none → c = none → d = none →
      exec (.setZone i.val a b c d) s = turnedAway (.setZone i.val a b c d) s .badValue) ∧
    ((s.zone i).enabled = false →
      (∃ lo hi : Int, some (lo, hi) ∈ [a, b, c, d] ∧ (hi < lo ∨ lo < posMin ∨ posMax < hi)) →
      exec (.setZone i.val a b c d) s = turnedAway (.setZone i.val a b c d) s .badValue) ∧
    ((s.zone i).enabled = false → exec (.clearZone i.val) s = accepted (.clearZone i.val) s
        (s.setZone i { s.zone i with swing := none, lift := none, reach := none, track := none })) ∧
    ((s.zone i).enabled = true → exec (.clearZone i.val) s = turnedAway (.clearZone i.val) s .wrongState) ∧
    ((s.zone i).isDefined = false → exec (.zoneOn i.val) s = turnedAway (.zoneOn i.val) s .wrongState) ∧
    ((s.zone i).isDefined = true → (s.zone i).enabled = true → exec (.zoneOn i.val) s = accepted (.zoneOn i.val) s s) ∧
    ((s.zone i).isDefined = true → (s.zone i).enabled = false → (s.zone i).contains s.outPoint = true →
      exec (.zoneOn i.val) s = turnedAway (.zoneOn i.val) s .zoneConflict) ∧
    ((s.zone i).isDefined = true → (s.zone i).enabled = false → (s.zone i).contains s.outPoint = false →
      exec (.zoneOn i.val) s = accepted (.zoneOn i.val) s (s.setZone i { s.zone i with enabled := true, holding := false })) ∧
    exec (.zoneOff i.val) s = accepted (.zoneOff i.val) s (s.setZone i { s.zone i with enabled := false, holding := false }) ∧
    exec (.getZone i.val) s = told (.getZone i.val) s
      (encBound (s.zone i).swing ++ encBound (s.zone i).lift ++ encBound (s.zone i).reach ++ encBound (s.zone i).track ++
        encBool (s.zone i).enabled ++ encBool (s.zone i).holding) ∧
    ∀ n : Nat, 8 ≤ n →
      exec (.setZone n a b c d) s = turnedAway (.setZone n a b c d) s .badValue ∧
      exec (.clearZone n) s = turnedAway (.clearZone n) s .badValue ∧
      exec (.zoneOn n) s = turnedAway (.zoneOn n) s .badValue ∧ exec (.zoneOff n) s = turnedAway (.zoneOff n) s .badValue ∧
      exec (.getZone n) s = turnedAway (.getZone n) s .badValue) ∧
  (∀ s : State,
    (s.delivers = true →
      exec .stopAll s = delivered .stopAll s (cascade (raise (.axis .stopAll none none) s))
        { code := .ok, fields := u8 s.stopLine.code } ∧
      (s.stopLine = .asserted →
        exec .resumeAll s = delivered .resumeAll s s { code := .wrongState, fields := [0#8, 0#8] }) ∧
      (s.stopLine = .released → ∃ t : State,
        exec .resumeAll s = delivered .resumeAll s t
          { code := .ok, fields := [1#8] ++ u8 (allAxes.filter fun i => decide ((s.axis i).state = .held)).length } ∧
        t = { s with axes := t.axes } ∧
        ∀ i : Fin 8, t.axis i =
          if (s.axis i).state = .held then { s.axis i with state := .active, vPrev := 0 } else s.axis i)) ∧
    (s.power.on = true →
      (s.stopLine = .released → exec .stopLineAssert s =
        happened (cascade (raise (.axis .stopLineAsserted none none) { s with stopLine := .asserted }))) ∧
      (s.stopLine = .asserted → exec .stopLineAssert s = happened s ∧ exec .stopLineRelease s =
        happened (raise (.axis .stopLineReleased none none) { s with stopLine := .released })) ∧
      (s.stopLine = .released → exec .stopLineRelease s = happened s)))

/-! ### Stopping -/

/-- The stop cascade (R70): ACTIVE axes become STOPPING with their output records kept, every configured record is steady
LIVE at out with its trim kept, running players are PAUSED, a running cue is HALTED with cause STOPPED, a RELEASING player
that loses its last reference is IDLE, and the Recorder and everything else go on. -/
def Obligations.CascadeStopsTheCrane : Prop :=
  ∀ s : State,
    (∀ i : Fin 8, (cascade s).axis i =
      if (s.axis i).state = .unconfigured then s.axis i
      else { s.axis i with
        state := if (s.axis i).state = .active then .stopping else (s.axis i).state,
        blend := { (s.axis i).blend with fromSrc := .live, toSrc := .live, k := 0, len := none, live := (s.axis i).out } }) ∧
    (∀ p : PlayerId, (s.player p).state ≠ .releasing → (cascade s).player p =
      if (s.player p).state = .running ∨ (s.player p).state = .starved then { s.player p with state := .paused }
      else s.player p) ∧
    (∀ p : PlayerId, (s.player p).state = .releasing → s.refCount p ≠ 0 → (cascade s).refCount p = 0 →
      ((cascade s).player p).state = .idle) ∧
    ((cascade s).cue = if s.cue.state = .running ∨ s.cue.state = .waiting then
        { s.cue with
          state := .halted, haltCause := some .stopped, haltCode := none, haltAxis := none, remaining := none,
          triggerMet := false, pastEnd := false }
      else s.cue) ∧
    (cascade s).recorder = s.recorder ∧ (cascade s).stick = s.stick ∧ (cascade s).timer = s.timer ∧
    (cascade s).zones = s.zones ∧ (cascade s).stopLine = s.stopLine ∧ (cascade s).marks = s.marks ∧
    (cascade s).notices = s.notices ∧ (cascade s).log = s.log ∧ (cascade s).link = s.link

/-- While the STOP line is ASSERTED no axis becomes ACTIVE, and at any time only ENABLE_AXIS and RESUME_ALL make one so
(R68). -/
def Obligations.OnlyEnableOrResumeActivates : Prop :=
  ∀ (c : Instr) (s t : State) (i : Fin 8), exec c s = .next t → (s.axis i).state ≠ .active → (t.axis i).state = .active →
    s.stopLine = .released ∧
      ((c = .resumeAll ∧ (s.axis i).state = .held) ∨
        ∃ m : Nat, c = .enableAxis m ∧ Nat.testBit m i.val = true ∧ (s.axis i).state = .disabled)

/-! ### Axis Control and the Drive Line -/

/-- SET_AXIS, RELEASE_AXIS, CLEAR_FAULT and GET_AXIS (R173, R174, R184, R185).
The check of SET_AXIS fails at the first field of Table 9-1 that lies outside its range, soft_min being the field that fails where it is
not less than soft_max; with none, the record stored is that of the fields, 3 standing for an absent miss_limit. A DISABLED axis
keeps its drive record, its open window, its sequence and its exchange before. The byte that names SET_AXIS's failing field is
that of log 15, and the layout of GET_AXIS that of logs 12 and 41. -/
def Obligations.AxisRequestsComplete : Prop :=
  (∀ w : WireAxis,
    let pos (x : Int) : Prop := -8388608 ≤ x ∧ x ≤ 8388607
    let good (n : Nat) : Prop :=
      match n with
      | 0 => pos w.softMin ∧ (pos w.softMax → w.softMin < w.softMax)
      | 1 => pos w.softMax
      | 2 => w.band ≤ 1000000
      | 3 => 1 ≤ w.vmax ∧ w.vmax ≤ 65535
      | 4 => 1 ≤ w.amax ∧ w.amax ≤ 4095
      | 5 => w.vstick ≤ 65535
      | 6 => ∀ c : Nat, w.channel = some c → c ≤ 7
      | 7 => w.invert = 0 ∨ w.invert = 1
      | 8 => w.deadband ≤ 512
      | 9 => w.curve = 0 ∨ w.curve = 1 ∨ w.curve = 2
      | 10 => w.mode = 0 ∨ w.mode = 1
      | 11 => w.trimMax ≤ 1000000
      | 12 => 1 ≤ w.feLimit ∧ w.feLimit ≤ 1000000
      | 13 => w.tipScaled = 0 ∨ w.tipScaled = 1
      | _ => ∀ n : Nat, w.missLimit = some n → 1 ≤ n ∧ n ≤ 15
    (badField? w = none ↔ ∀ n : Nat, n < 15 → good n) ∧
    (∀ n : Nat, badField? w = some n ↔ n < 15 ∧ ¬ good n ∧ ∀ j : Nat, j < n → good j) ∧
    (badField? w = none →
      let c := configOf w
      c.softMin = w.softMin ∧ c.softMax = w.softMax ∧ c.band = w.band ∧ c.vmax = w.vmax ∧ c.amax = w.amax ∧
      c.vstick = w.vstick ∧ c.channel.map (·.val) = w.channel ∧ (c.invert = true ↔ w.invert = 1) ∧ c.deadband = w.deadband ∧
      (c.curve = .linear ↔ w.curve = 0) ∧ (c.curve = .square ↔ w.curve = 1) ∧ (c.curve = .mixed ↔ w.curve = 2) ∧
      (c.mode = .liveOnly ↔ w.mode = 0) ∧ (c.mode = .trim ↔ w.mode = 1) ∧ c.trimMax = w.trimMax ∧ c.feLimit = w.feLimit ∧
      (c.tipScaled = true ↔ w.tipScaled = 1) ∧ (w.missLimit = none → c.missLimit = 3) ∧
      ∀ n : Nat, w.missLimit = some n → c.missLimit = n)) ∧
  ∀ (s : State) (i : Fin 8), s.delivers = true →
    (∀ w : WireAxis, ((s.axis i).state = .unconfigured ∨ (s.axis i).state = .disabled) → badField? w = none →
      ∃ t : State, exec (.setAxis i.val w) s = delivered (.setAxis i.val w) s t { code := .ok, fields := [0#8, 0#8] } ∧
        (t.axis i).state = .disabled ∧ (t.axis i).cfg = some (configOf w) ∧
        (t.axis i).blend = { (s.axis i).blend with
          fromSrc := .live, toSrc := .live, k := 0, len := none, live := (s.axis i).out, trim := 0,
          mode := (configOf w).mode } ∧
        (t.axis i).out = (s.axis i).out ∧ (t.axis i).vPrev = (s.axis i).vPrev ∧ (t.axis i).flags = (s.axis i).flags ∧
        (∀ j : Fin 8, j ≠ i → t.axis j = s.axis j) ∧
        ((s.axis i).state = .unconfigured → (t.axis i).miss = 0 ∧ (t.axis i).actual = none ∧ (t.axis i).drive = none ∧
          (t.axis i).window = none ∧ (t.axis i).nextSeq = 0 ∧ (t.axis i).prev = none) ∧
        ((s.axis i).state = .disabled → (t.axis i).actual = (s.axis i).actual ∧ (t.axis i).drive = (s.axis i).drive ∧
          (t.axis i).miss = (s.axis i).miss ∧ (t.axis i).window = (s.axis i).window ∧
          (t.axis i).nextSeq = (s.axis i).nextSeq ∧ (t.axis i).prev = (s.axis i).prev) ∧
        ∀ ch : Fin 8, t.stick.channels[ch] =
          if (configOf w).channel = some ch ∧ (s.axis i).boundTo ch = false then .centredWait else s.stick.channels[ch]) ∧
    (∀ w : WireAxis, (s.axis i).state ≠ .unconfigured → (s.axis i).state ≠ .disabled →
      exec (.setAxis i.val w) s = delivered (.setAxis i.val w) s s { code := .wrongState, fields := [0#8, 0#8] }) ∧
    (∀ (w : WireAxis) (n : Nat), ((s.axis i).state = .unconfigured ∨ (s.axis i).state = .disabled) → badField? w = some n →
      exec (.setAxis i.val w) s = delivered (.setAxis i.val w) s s { code := .badValue, fields := u8 1 ++ u8 n }) ∧
    ((s.axis i).state = .disabled → (s.axis i).blend.steadyLive = true →
      (geometric i = false ∨ s.inEnabledZone (pointOf fun j => if j = i then 0 else s.geoOut j) = false) →
      exec (.releaseAxis i.val) s = accepted (.releaseAxis i.val) s (s.setAxis i { Axis.reset with
        out := (s.axis i).out, vPrev := (s.axis i).vPrev, flags := (s.axis i).flags })) ∧
    ((s.axis i).state ≠ .disabled → exec (.releaseAxis i.val) s = turnedAway (.releaseAxis i.val) s .wrongState) ∧
    ((s.axis i).state = .disabled → geometric i = true →
      s.inEnabledZone (pointOf fun j => if j = i then 0 else s.geoOut j) = true →
      exec (.releaseAxis i.val) s = turnedAway (.releaseAxis i.val) s .zoneConflict) ∧
    ((s.axis i).state ≠ .fault → exec (.clearFault i.val) s = turnedAway (.clearFault i.val) s .wrongState) ∧
    (∀ r : FaultRecord, (s.axis i).state = .fault → s.log.locked = true → s.log.record = some r → r.axis = some i →
      exec (.clearFault i.val) s = turnedAway (.clearFault i.val) s .locked) ∧
    ((s.axis i).state = .fault → (s.log.locked = false ∨ ∀ r : FaultRecord, s.log.record = some r → r.axis ≠ some i) →
      exec (.clearFault i.val) s = accepted (.clearFault i.val) s
        (s.setAxis i { s.axis i with state := .disabled, cause := none, miss := 0 })) ∧
    exec (.getAxis i.val) s = told (.getAxis i.val) s (axisFields (s.axis i) s.stopLine) ∧
    ∀ n : Nat, 8 ≤ n →
      (∀ w : WireAxis, exec (.setAxis n w) s = delivered (.setAxis n w) s s { code := .badValue, fields := [0#8, 0#8] }) ∧
      exec (.releaseAxis n) s = turnedAway (.releaseAxis n) s .badValue ∧
      exec (.clearFault n) s = turnedAway (.clearFault n) s .badValue ∧ exec (.getAxis n) s = turnedAway (.getAxis n) s .badValue

/-- ENABLE_AXIS (R176, R177): an axis set whose drives answer OK inside the soft limits, outside the zones and with the STOP
line RELEASED is seated at the drives' actual positions, ACTIVE, steady LIVE and at rest; a failing axis is named.
DISABLE_AXIS (R178, R175): the axes of the mask, each ACTIVE, STOPPING or HELD, become DISABLED at once, cut to steady
LIVE if they were ACTIVE; a mask with any other axis is refused, naming the lowest.
ENABLE_AXIS is refused by the first axis of the mask, in ascending index, that fails (R176): WRONG_STATE for one that is not DISABLED, has
no actual, a miss count other than 0 or a drive status other than OK, and OUTSIDE_LIMITS for an actual outside the soft limits.
ENABLE_AXIS goes by the miss count and the status as recorded, also after a CLEAR_FAULT of a silent drive (log 39).
ALL_HELD after a DISABLE_AXIS is judged over the whole request, and only if an axis was STOPPING before it (log 18). An empty
mask and one of 256 or more are refused by both. -/
def Obligations.EnableAndDisableComplete : Prop :=
  (∀ (m : Mask) (s : State), s.delivers = true → m ≠ 0#8 →
    let passes (j : Fin 8) : Prop := (s.axis j).state = .disabled ∧ (s.axis j).miss = 0 ∧ (s.axis j).drive = some .ok ∧
      ∃ (x : Int) (c : AxisConfig), (s.axis j).actual = some x ∧ (s.axis j).cfg = some c ∧ c.softMin ≤ x ∧ x ≤ c.softMax
    (s.stopLine = .asserted → exec (.enableAxis m.toNat) s =
      delivered (.enableAxis m.toNat) s s { code := .wrongState, fields := [0#8, 0#8] }) ∧
    (∀ i : Fin 8, s.stopLine = .released → Mask.has m i = true → (∀ j : Fin 8, j < i → Mask.has m j = true → passes j) →
      ((s.axis i).state ≠ .disabled ∨ (s.axis i).actual = none ∨ (s.axis i).miss ≠ 0 ∨ (s.axis i).drive ≠ some .ok →
        exec (.enableAxis m.toNat) s =
          delivered (.enableAxis m.toNat) s s { code := .wrongState, fields := u8 1 ++ u8 i.val }) ∧
      (∀ (x : Int) (c : AxisConfig), (s.axis i).state = .disabled → (s.axis i).actual = some x → (s.axis i).miss = 0 →
        (s.axis i).drive = some .ok → (s.axis i).cfg = some c → (x < c.softMin ∨ c.softMax < x) →
        exec (.enableAxis m.toNat) s =
          delivered (.enableAxis m.toNat) s s { code := .outsideLimits, fields := u8 1 ++ u8 i.val })) ∧
    (s.enablePoint m = pointOf fun j =>
      if Mask.has m j = true then (s.axis j).actual.getD 0
      else if (s.axis j).state = .unconfigured then 0 else (s.axis j).out) ∧
    (s.stopLine = .released → (∀ i : Fin 8, Mask.has m i = true → passes i) →
      (∃ i : Fin 8, Mask.has m i = true ∧ geometric i = true) → s.inEnabledZone (s.enablePoint m) = true →
      exec (.enableAxis m.toNat) s =
        delivered (.enableAxis m.toNat) s s { code := .zoneConflict, fields := [0#8, 0#8] }) ∧
    (s.stopLine = .released →
      (∀ i : Fin 8, Mask.has m i = true → passes i ∧ (s.axis i).blend.steadyLive = true) →
      ((∀ i : Fin 8, Mask.has m i = true → geometric i = false) ∨ s.inEnabledZone (s.enablePoint m) = false) →
      ∃ t : State, exec (.enableAxis m.toNat) s = delivered (.enableAxis m.toNat) s t { code := .ok, fields := [0#8, 0#8] } ∧
        t = { s with axes := t.axes } ∧ (∀ i : Fin 8, Mask.has m i = false → t.axis i = s.axis i) ∧
        ∀ (i : Fin 8) (x : Int), Mask.has m i = true → (s.axis i).actual = some x →
          t.axis i = { s.axis i with
            state := .active, out := x, vPrev := 0, flags := ClampFlags.none,
            blend := { (s.axis i).blend with
              fromSrc := .live, toSrc := .live, k := 0, len := none, live := x, trim := 0 } })) ∧
  (∀ (m : Mask) (s : State), s.delivers = true → m ≠ 0#8 →
    (∀ i : Fin 8, Mask.has m i = true → (s.axis i).enabled = false →
      (∀ j : Fin 8, j < i → Mask.has m j = true → (s.axis j).enabled = true) →
      exec (.disableAxis m.toNat) s =
        delivered (.disableAxis m.toNat) s s { code := .wrongState, fields := u8 1 ++ u8 i.val }) ∧
    ((∀ i : Fin 8, Mask.has m i = true → (s.axis i).enabled = true) →
      ∃ t : State, exec (.disableAxis m.toNat) s = delivered (.disableAxis m.toNat) s t { code := .ok, fields := [0#8, 0#8] } ∧
        (∀ i : Fin 8, Mask.has m i = false → t.axis i = s.axis i) ∧
        (∀ i : Fin 8, Mask.has m i = true → t.axis i = { s.axis i with
          state := .disabled, vPrev := 0, flags := ClampFlags.none,
          blend := if (s.axis i).state = .active then { (s.axis i).blend with
              fromSrc := .live, toSrc := .live, k := 0, len := none, live := (s.axis i).out }
            else (s.axis i).blend }) ∧
        (t.noticeSlot .axis = if s.anyStopping = true ∧ t.anyStopping = false ∧ t.anyHeld = true then
            (s.noticeSlot .axis).raised { frame := s.timer.number, detail := .axis .allHeld none none }
          else s.noticeSlot .axis) ∧
        t.recorder = s.recorder ∧ t.cue = s.cue ∧ t.log = s.log ∧ t.timer = s.timer)) ∧
  (∀ (s : State) (n : Nat), s.delivers = true → (n = 0 ∨ 256 ≤ n) →
    exec (.enableAxis n) s = delivered (.enableAxis n) s s { code := .badValue, fields := [0#8, 0#8] } ∧
    exec (.disableAxis n) s = delivered (.disableAxis n) s s { code := .badValue, fields := [0#8, 0#8] })

/-- DRIVE_REPLY (R180, R182): a reply that is not valid changes nothing: one with a field out of range or a wrong check, one
whose address names no axis, an unconfigured axis or one with no open window, one out of sequence or answered before. A valid one clears the miss count and records the
drive's position and status; a DISABLED or FAULT axis's out follows; a drive status FAULT, or a following error above
fe_limit while moving, puts an enabled axis into FAULT.
The following error is that of the exchange before the one answered, if that was sent with the enable flag (log 20); the flag
alone decides, also where the axis was disabled and enabled again since (log 37, the model's choice beside R182). -/
def Obligations.DriveReplyIsTaken : Prop :=
  (∀ (address seq : Nat) (x : Int) (status code check : Nat) (s : State), s.power.on = true →
    (8 ≤ address ∨ 15 < seq ∨ inPosRange x = false ∨ driveStatusOf? status code = none ∨
      check ≠ driveCheck address seq x status code ∨
      (∃ i : Fin 8, i.val = address ∧ ((s.axis i).state = .unconfigured ∨ (s.axis i).window = none))) →
    exec (.driveReply address seq x status code check) s = happened s) ∧
  ∀ (i : Fin 8) (w : Window) (x : Int) (status code check : Nat) (st : DriveStatus) (s : State), s.power.on = true →
    (s.axis i).state ≠ .unconfigured → (s.axis i).window = some w → w.seq ≤ 15 →
    (w.answered = true ∨ check ≠ driveCheck i.val w.seq x status code ∨ driveStatusOf? status code = none →
      exec (.driveReply i.val w.seq x status code check) s = happened s) ∧
    (∀ n : Nat, n ≠ w.seq → exec (.driveReply i.val n x status code check) s = happened s) ∧
    (w.answered = false → check = driveCheck i.val w.seq x status code → driveStatusOf? status code = some st →
      inPosRange x = true →
      ∃ t : State, exec (.driveReply i.val w.seq x status code check) s = happened t ∧
        (t.axis i).miss = 0 ∧ (t.axis i).actual = some x ∧ (t.axis i).drive = some st ∧
        (t.axis i).window = some { w with answered := true } ∧
        ((s.axis i).state = .disabled ∨ (s.axis i).state = .fault →
          t = s.setAxis i { s.axis i with
            miss := 0, actual := some x, drive := some st, window := some { w with answered := true }, out := x,
            vPrev := 0 }) ∧
        ((s.axis i).enabled = true → (t.axis i).out = (s.axis i).out) ∧
        ((s.axis i).enabled = true → (∃ c, st = .fault c) → (t.axis i).state = .fault ∧ (t.axis i).cause = some .driveReported) ∧
        ((s.axis i).enabled = true → (∀ c, st ≠ .fault c) → (s.axis i).followingSetpoint? x = none →
          t = s.setAxis i { s.axis i with
            miss := 0, actual := some x, drive := some st, window := some { w with answered := true } }) ∧
        (∀ (c : AxisConfig) (p : PrevExchange), (s.axis i).moving = true → (∀ c, st ≠ .fault c) → (s.axis i).cfg = some c →
          (s.axis i).prev = some p → p.enable = true → c.feLimit < (p.setpoint - x).natAbs →
          (t.axis i).state = .fault ∧ (t.axis i).cause = some .following))

/-- The entry of an enabled axis into FAULT (R183, R190): its record is cut, the fault report locks an UNLOCKED log with the
axis's actual and setpoint, the AXIS notice tells the cause (that it is the last AXIS detail of the entry is log 18), and the
cascade stops the rest. DRIVE_SILENT (R181) makes that entry exactly when the miss count of an enabled axis has reached its
limit (log 5), and does nothing at an axis that is not enabled (log 18).
The window close of a publication (R179, R181): an unanswered window raises the miss count by 1, saturating at 15; an answered
one does not, and the first exchange after configuration closes none. An enabled axis whose count that raise brings to its limit is in
FAULT before its new exchange is sent; every other axis keeps its state but for the cascade. The new window holds the sequence
number and the setpoint sent, the exchange before it is kept with its enable flag, and the enable flag sent is set exactly for
an axis that is still enabled. -/
def Obligations.AxisFaultStopsTheCrane : Prop :=
  (∀ f s : State, (∀ i : Fin 8, (s.axis i).configured = (f.axis i).configured) →
    let t := drivePublication f s
    let missed (i : Fin 8) : Nat := match (s.axis i).window with
      | some w => if w.answered then (s.axis i).miss else min ((s.axis i).miss + 1) 15
      | none => (s.axis i).miss
    let dies (i : Fin 8) : Prop := (s.axis i).enabled = true ∧
      ∃ (w : Window) (c : AxisConfig), (s.axis i).window = some w ∧ w.answered = false ∧ (s.axis i).cfg = some c ∧
        c.missLimit ≤ missed i
    (∀ i : Fin 8, (s.axis i).configured = false → t.axis i = s.axis i) ∧
    (∀ i : Fin 8, (s.axis i).configured = true →
      (t.axis i).miss = missed i ∧ (t.axis i).nextSeq = ((s.axis i).nextSeq + 1) % 16 ∧
      (t.axis i).actual = (s.axis i).actual ∧ (t.axis i).drive = (s.axis i).drive ∧ (t.axis i).out = (s.axis i).out ∧
      (t.axis i).prev = (s.axis i).window.map (fun w => { setpoint := w.setpoint, enable := w.enable }) ∧
      (dies i → (t.axis i).state = .fault ∧ (t.axis i).cause = some .driveSilent ∧ (t.axis i).window = some {
        seq := (s.axis i).nextSeq, setpoint := (f.axis i).out, enable := false, answered := false }) ∧
      (¬ dies i → (t.axis i).cause = (s.axis i).cause ∧
        ((∃ j : Fin 8, dies j) → (t.axis i).state = if (s.axis i).state = .active then .stopping else (s.axis i).state) ∧
        ((∀ j : Fin 8, ¬ dies j) → (t.axis i).state = (s.axis i).state) ∧
        (t.axis i).window = some {
          seq := (s.axis i).nextSeq, setpoint := (f.axis i).out, enable := (s.axis i).enabled, answered := false })) ∧
    t.exchanges.map (fun x => (x.address, x.seq)) =
      (allAxes.filter fun i => (s.axis i).configured).map (fun i => (i, (s.axis i).nextSeq)) ∧
    ∀ x ∈ t.exchanges, x.setpoint = (f.axis x.address).out ∧ x.feedForward = (f.axis x.address).vPrev ∧
      (x.enable = true ↔ (s.axis x.address).enabled = true ∧ ¬ dies x.address)) ∧
  ∀ (i : Fin 8) (s : State), s.power.on = true →
    ((s.axis i).enabled = false → exec (.driveSilent i.val) s = happened s) ∧
    ((s.axis i).enabled = true →
      (∀ (c : AxisConfig), (s.axis i).cfg = some c → (s.axis i).miss < c.missLimit →
        exec (.driveSilent i.val) s = happened s) ∧
      (∀ (c : AxisConfig), (s.axis i).cfg = some c → c.missLimit ≤ (s.axis i).miss → ∃ t : State,
        exec (.driveSilent i.val) s = happened t ∧
          (t.axis i).state = .fault ∧ (t.axis i).cause = some .driveSilent ∧ (t.axis i).vPrev = 0 ∧
          (t.axis i).flags = ClampFlags.none ∧ (t.axis i).out = (s.axis i).out ∧ (t.axis i).blend.steadyLive = true ∧
          (∀ j : Fin 8, (t.axis j).state ≠ .active) ∧
          (s.log.locked = false → t.log = { s.log with
            locked := true,
            record := some {
              kind := .driveSilent, axis := some i, player := none, frame := s.timer.number,
              setpoint := some (s.axis i).lastSetpoint, actual := (s.axis i).actual, code := none, move := none,
              index := none } }) ∧
          (t.noticeSlot .axis).detail =
            some { frame := s.timer.number, detail := .axis .driveSilent (some i) none }))

/-! ### The Move Library -/

/-- OPEN_MOVE, CLOSE_MOVE, PROTECT_MOVE, GET_MOVE and LIST_MOVES (R90, R93, R96, R97), the layout of the replies of GET_MOVE and LIST_MOVES being that of
log 12; the id of entry m is m + 1. A CLOSE_MOVE is refused BUSY for a PUT_KEYS held on the entry, and not for a READ_KEYS (R93; log 38
beside R89). -/
def Obligations.MoveRequestsComplete : Prop :=
  ∀ (s : State) (m : MoveIx) (k : Mask) (name : List Nat), s.delivers = true → k ≠ 0#8 →
    (1 ≤ name.length → name.length ≤ 12 → (∀ c ∈ name, 32 ≤ c ∧ c ≤ 126) → (s.entry m).state = .empty →
      exec (.openMove (m.val + 1) name k.toNat) s = accepted (.openMove (m.val + 1) name k.toNat) s (s.setEntry m {
        state := .writing, name := some name, mask := some k, keys := 0, endTime := none, first := none, last := none,
        writer := some .console, flags := MoveFlags.none, users := 0 })) ∧
    (name = [] ∨ 12 < name.length ∨ (∃ c ∈ name, c < 32 ∨ 126 < c) →
      exec (.openMove (m.val + 1) name k.toNat) s = turnedAway (.openMove (m.val + 1) name k.toNat) s .badValue) ∧
    (nameOk 1 name = true → (s.entry m).state ≠ .empty →
      exec (.openMove (m.val + 1) name k.toNat) s = turnedAway (.openMove (m.val + 1) name k.toNat) s .wrongState) ∧
    (exec (.openMove (m.val + 1) name 0) s = turnedAway (.openMove (m.val + 1) name 0) s .badValue) ∧
    ((s.entry m).state = .writing → (s.entry m).writer = some .console → s.putOn m = false → 2 ≤ (s.entry m).keys →
      exec (.closeMove (m.val + 1)) s = accepted (.closeMove (m.val + 1)) s
        (s.setEntry m { s.entry m with state := .ready, writer := none })) ∧
    ((s.entry m).state ≠ .writing ∨ (s.entry m).writer ≠ some .console →
      exec (.closeMove (m.val + 1)) s = turnedAway (.closeMove (m.val + 1)) s .wrongState) ∧
    ((s.entry m).state = .writing → (s.entry m).writer = some .console → s.putOn m = true →
      exec (.closeMove (m.val + 1)) s = turnedAway (.closeMove (m.val + 1)) s .busy) ∧
    ((s.entry m).state = .writing → (s.entry m).writer = some .console → s.putOn m = false → (s.entry m).keys < 2 →
      exec (.closeMove (m.val + 1)) s = turnedAway (.closeMove (m.val + 1)) s .wrongState) ∧
    (∀ b : Bool, (s.entry m).state ≠ .empty →
      exec (.protectMove (m.val + 1) b.toNat) s = accepted (.protectMove (m.val + 1) b.toNat) s
        (s.setEntry m { s.entry m with flags := { (s.entry m).flags with isProtected := b } })) ∧
    (∀ b : Bool, (s.entry m).state = .empty →
      exec (.protectMove (m.val + 1) b.toNat) s = turnedAway (.protectMove (m.val + 1) b.toNat) s .notFound) ∧
    exec (.getMove (m.val + 1)) s = told (.getMove (m.val + 1)) s (moveFields s (s.entry m)) ∧
    exec .listMoves s = told .listMoves s (listFields s) ∧
    ∀ n : Nat, (n = 0 ∨ 32 < n) →
      exec (.openMove n name k.toNat) s = turnedAway (.openMove n name k.toNat) s .badValue ∧
      exec (.closeMove n) s = turnedAway (.closeMove n) s .badValue ∧
      (∀ b : Nat, exec (.protectMove n b) s = turnedAway (.protectMove n b) s .badValue) ∧
      exec (.getMove n) s = turnedAway (.getMove n) s .badValue

/-- DELETE_MOVE (R95, R81). It is refused by the first check that fails: an id outside 1 to 32 BAD_VALUE, an EMPTY entry NOT_FOUND,
one that the Recorder writes WRONG_STATE, one on which a console transaction is held BUSY, a PROTECTED one PROTECTED, and one
with users IN_USE. Accepted, the entry is EMPTY, its sound blocks go to the tail of the free list in chain order, its suspect
blocks go to the bad set, and the reply counts both; a STORE notice tells how many were retired, where any was. -/
def Obligations.DeleteMoveReleasesTheChain : Prop :=
  ∀ (s : State) (m : MoveIx), s.delivers = true →
    let cmd := Instr.deleteMove (m.val + 1)
    let ours : Prop := (s.entry m).state ≠ .empty ∧ ¬ ((s.entry m).state = .writing ∧ (s.entry m).writer = some .recorder)
    let quiet : Prop := ∀ x : Txn, s.txn = some x → x.move ≠ m
    (∀ id : Nat, (id = 0 ∨ 32 < id) → exec (.deleteMove id) s = turnedAway (.deleteMove id) s .badValue) ∧
    ((s.entry m).state = .empty → exec cmd s = turnedAway cmd s .notFound) ∧
    ((s.entry m).state = .writing → (s.entry m).writer = some .recorder → exec cmd s = turnedAway cmd s .wrongState) ∧
    (∀ x : Txn, ours → s.txn = some x → x.move = m → exec cmd s = turnedAway cmd s .busy) ∧
    (ours → quiet → (s.entry m).flags.isProtected = true → exec cmd s = turnedAway cmd s .protectedMove) ∧
    (ours → quiet → (s.entry m).flags.isProtected = false → (s.entry m).users ≠ 0 → exec cmd s = turnedAway cmd s .inUse) ∧
    (s.lib.wf = true → (s.chain (s.entry m)).Nodup → (s.entry m).state ≠ .empty →
      ¬ ((s.entry m).state = .writing ∧ (s.entry m).writer = some .recorder) → s.txnOn m = false →
      (s.entry m).flags.isProtected = false → (s.entry m).users = 0 →
      ∃ t : State,
        exec (.deleteMove (m.val + 1)) s = delivered (.deleteMove (m.val + 1)) s t {
          code := .ok,
          fields := u16 ((s.chain (s.entry m)).filter fun b => !(s.block b).suspect).length ++
            u16 ((s.chain (s.entry m)).filter fun b => (s.block b).suspect).length } ∧
        t.entry m = Entry.blank ∧ (∀ n : MoveIx, n ≠ m → t.entry n = s.entry n) ∧
        t.lib.freeList = s.lib.freeList ++ (s.chain (s.entry m)).filter (fun b => !(s.block b).suspect) ∧
        (∀ b ∈ s.chain (s.entry m), (s.block b).suspect = true → t.block b = { cls := .bad, link := none, suspect := true }) ∧
        (∀ b : Nat, b ∈ t.lib.badSet ↔ b ∈ s.lib.badSet ∨ (b ∈ s.chain (s.entry m) ∧ (s.block b).suspect = true)) ∧
        (let retired := (s.chain (s.entry m)).filter fun b => (s.block b).suspect;
          t.noticeSlot .store = if retired = [] then s.noticeSlot .store else
            (s.noticeSlot .store).raised { frame := s.timer.number, detail := .storeRetired m retired.length }) ∧
        (∀ b ∈ s.chain (s.entry m), (s.block b).suspect = false → t.block b = BlockEntry.blank) ∧
        (∀ b, b ∉ s.chain (s.entry m) → t.block b = s.block b) ∧ t.lib.keyStore = s.lib.keyStore ∧
        t.playerA = s.playerA ∧ t.playerB = s.playerB ∧ t.recorder = s.recorder)

/-- PUT_KEYS and READ_KEYS (R91, R92, R94): accepted, the request is held as the console transaction and its first access is
served at once by a FREE port; refused by the checks of R91 (BAD_VALUE, WRONG_STATE, BUSY) or R94, it reports no key and changes
nothing. A PUT_KEYS whose first key is not in order ends at once with BAD_ORDER, and one whose first key needs a block from an
empty free list with STORE_FULL, each with 0 keys stored. -/
def Obligations.KeyTransactionsBegin : Prop :=
  ∀ (s : State) (m : MoveIx), s.delivers = true →
    (∀ (keys : List WireKey) (k : Key) (ks : List Key), (s.entry m).state = .writing → (s.entry m).writer = some .console →
      1 ≤ keys.length → keys.length ≤ 8 → (∀ w ∈ keys, w.positions.length = s.axesOf (m.val + 1)) → s.txn = none →
      keysOf? keys = some (k :: ks) → keyInOrder (s.entry m) k = true → s.port = KeyPort.idle →
      ((s.entry m).keys % 16 ≠ 0 ∨ s.lib.freeList ≠ []) →
      ∃ t : State, exec (.putKeys (m.val + 1) keys) s = happened t ∧
        t.txn = some { via := s.via (.putKeys (m.val + 1) keys), move := m, work := .put (k :: ks) 0 } ∧
        t.port = { KeyPort.idle with
          serving := some { access := .consoleWrite m k, wanted := true, released := false } } ∧
        (t.entry m).keys = (s.entry m).keys ∧ t.lib.keyStore = s.lib.keyStore) ∧
    (∀ keys : List WireKey, ((s.entry m).state ≠ .writing ∨ (s.entry m).writer ≠ some .console) →
      exec (.putKeys (m.val + 1) keys) s =
        delivered (.putKeys (m.val + 1) keys) s s { code := .wrongState, fields := [0#8] }) ∧
    (∀ keys : List WireKey, (s.entry m).state = .writing → (s.entry m).writer = some .console →
      1 ≤ keys.length → keys.length ≤ 8 → (∀ w ∈ keys, w.positions.length = s.axesOf (m.val + 1)) →
      let none_stored (c : Result) := delivered (.putKeys (m.val + 1) keys) s s { code := c, fields := [0#8] }
      (s.txn ≠ none → exec (.putKeys (m.val + 1) keys) s = none_stored .busy) ∧
      (s.txn = none → (∃ w ∈ keys, 16777215 < w.time ∨ 2 < w.shape) →
        exec (.putKeys (m.val + 1) keys) s = none_stored .badValue) ∧
      (∀ (k : Key) (ks : List Key), s.txn = none → keysOf? keys = some (k :: ks) →
        (((s.entry m).keys = 0 ∧ k.time ≠ 0) ∨ ((s.entry m).keys ≠ 0 ∧ k.time ≤ (s.entry m).endTime.getD 0) →
          exec (.putKeys (m.val + 1) keys) s = none_stored .badOrder) ∧
        (((s.entry m).keys = 0 ∧ k.time = 0) ∨ ((s.entry m).keys ≠ 0 ∧ (s.entry m).endTime.getD 0 < k.time) →
          s.port = KeyPort.idle → (s.entry m).keys % 16 = 0 → s.lib.freeList = [] →
          exec (.putKeys (m.val + 1) keys) s = none_stored .storeFull))) ∧
    (∀ (n : Nat) (keys : List WireKey) (first count : Nat),
      (n = 0 ∨ 32 < n → exec (.putKeys n keys) s =
        delivered (.putKeys n keys) s s { code := .badValue, fields := [0#8] }) ∧
      (n = 0 ∨ 32 < n ∨ count = 0 ∨ 8 < count → exec (.readKeys n first count) s =
        delivered (.readKeys n first count) s s { code := .badValue, fields := [0#8] })) ∧
    (∀ first count : Nat, (s.entry m).state ≠ .empty → 1 ≤ count → count ≤ 8 → first + count ≤ (s.entry m).keys →
      s.txn = none → s.port = KeyPort.idle →
      ∃ t : State, exec (.readKeys (m.val + 1) first count) s = happened t ∧
        t.txn = some { via := s.via (.readKeys (m.val + 1) first count), move := m, work := .read first count [] } ∧
        t.port = { KeyPort.idle with serving := some {
          access := .consoleRead m first ((s.chain (s.entry m)).getD (first / 16) 0) (first % 16), wanted := true,
          released := false } } ∧
        t.lib = s.lib) ∧
    (∀ first count : Nat, ((s.entry m).state = .empty ∧ 1 ≤ count ∧ count ≤ 8) →
      exec (.readKeys (m.val + 1) first count) s =
        delivered (.readKeys (m.val + 1) first count) s s { code := .notFound, fields := [0#8] }) ∧
    (∀ first count : Nat, (s.entry m).state ≠ .empty → 1 ≤ count → count ≤ 8 → s.txn ≠ none →
      exec (.readKeys (m.val + 1) first count) s =
        delivered (.readKeys (m.val + 1) first count) s s { code := .busy, fields := [0#8] }) ∧
    (∀ first count : Nat, (s.entry m).state ≠ .empty → 1 ≤ count → count ≤ 8 → s.txn = none →
      (s.entry m).keys < first + count →
      exec (.readKeys (m.val + 1) first count) s =
        delivered (.readKeys (m.val + 1) first count) s s { code := .badValue, fields := [0#8] })

/-- KEY_ACCESS_COMPLETE of a console write (R80, R92): the key stands in its slot, the key count has risen by 1, the end time
is the key's, and no other slot has changed; with the port FREE nothing completes (log 27).
A read's outcome (R75, R85): a good read reports nothing; a corrected one makes a fault report and a STORE notice; a
damaged one flags the entry and the block as well. What the check found stays with the slot, so that one found CORRECTED and
read again as GOOD is CORRECTED still (log 6). -/
def Obligations.KeyAccessCompletes : Prop :=
  (∀ (s : State) (m : MoveIx) (k : Key) (b : Nat) (check : KeyCheck) (w r : Bool), s.power.on = true →
    (s.port.serving = none → exec (.keyAccessComplete check) s = happened s) ∧
    (s.port.serving = some { access := .consoleWrite m k, wanted := w, released := r } → s.port.waitConsole = none →
      s.lib.wf = true → s.recorder.move ≠ some m → (s.entry m).last = some b →
      ∃ t : State, exec (.keyAccessComplete check) s = happened t ∧
        t.slot b ((s.entry m).keys % 16) = { key := k, health := .good } ∧
        (∀ a x : Nat, x < 16 → (a ≠ b ∨ x ≠ (s.entry m).keys % 16) → t.slot a x = s.slot a x) ∧
        (t.entry m).keys = (s.entry m).keys + 1 ∧ (t.entry m).endTime = some k.time ∧
        (t.entry m).state = (s.entry m).state ∧ (t.entry m).flags = (s.entry m).flags)) ∧
  (∀ (s : State) (m : MoveIx) (index b slot : Nat) (p : Option PlayerId) (c : KeyCheck), s.lib.wf = true →
    let t := finishRead m index b slot p c s
    let found := s.readOutcome b slot c
    (t.slot b slot).health = found ∧ (t.slot b slot).key = (s.slot b slot).key ∧
    ((s.slot b slot).health = .good → found = c) ∧ ((s.slot b slot).health = .damaged → found = .damaged) ∧
    ((s.slot b slot).health = .corrected → found = if c = .damaged then .damaged else .corrected) ∧
    (found = .good → t.log = s.log ∧ t.notices = s.notices ∧ t.lib.dir = s.lib.dir ∧ t.lib.blockMap = s.lib.blockMap) ∧
    (found = .corrected → t.log = s.log.report (keyFault .keyCorrected m index p s) ∧
      (t.noticeSlot .store).detail = some { frame := s.timer.number, detail := .storeRead .corrected m index b } ∧
      t.entry m = s.entry m ∧ t.block b = s.block b) ∧
    (found = .damaged → t.log = s.log.report (keyFault .keyDamaged m index p s) ∧
      (t.noticeSlot .store).detail = some { frame := s.timer.number, detail := .storeRead .damaged m index b } ∧
      t.entry m = { s.entry m with flags := { (s.entry m).flags with damaged := true } } ∧
      t.block b = { s.block b with suspect := true }))

/-- The arbiter (R83): a BUSY port grants nothing; a FREE one grants player A's request, else player B's, else the
Recorder's, else the console's, and no other; a console write that needs a block from an empty free list ends its
transaction, with STORE_FULL and the number of keys stored in the reply, and leaves the port FREE.
The allocation at the grant of a write (R80): a key whose index is a multiple of 16 takes the block at the head of the free
list, which becomes CHAINED with no next and no suspect flag, and the entry's last block, and its first or linked after the old
last one; any other key allocates nothing. No key is stored at the grant. -/
def Obligations.ArbiterGrantsInPriority : Prop :=
  ∀ (s : State) (a : Access),
    let served (t : State) : Prop := t.port.serving = some { access := a, wanted := true, released := false }
    let ready : Prop := (∀ m k, a ≠ .consoleWrite m k ∧ a ≠ .recorderWrite m k) ∨ s.lib.freeList ≠ []
    (s.port.serving ≠ none → arbitrate 5 s = s) ∧
    (s.port.serving = none → ready →
      (s.port.waitA = some a → served (arbitrate 5 s) ∧ (arbitrate 5 s).port.waitA = none ∧
        (arbitrate 5 s).port.waitB = s.port.waitB) ∧
      (s.port.waitA = none → s.port.waitB = some a → served (arbitrate 5 s) ∧ (arbitrate 5 s).port.waitB = none ∧
        (arbitrate 5 s).port.waitRecorder = s.port.waitRecorder) ∧
      (s.port.waitA = none → s.port.waitB = none → s.port.waitRecorder = some a → served (arbitrate 5 s) ∧
        (arbitrate 5 s).port.waitRecorder = none ∧ (arbitrate 5 s).port.waitConsole = s.port.waitConsole) ∧
      (s.port.waitA = none → s.port.waitB = none → s.port.waitRecorder = none → s.port.waitConsole = some a →
        served (arbitrate 5 s) ∧ (arbitrate 5 s).port.waitConsole = none)) ∧
    (∀ (m : MoveIx) (k : Key), s.port = { KeyPort.idle with waitConsole := some (.consoleWrite m k) } →
      (s.entry m).keys % 16 = 0 → s.lib.freeList = [] → s.txn ≠ none →
      (arbitrate 5 s).port = KeyPort.idle ∧ (arbitrate 5 s).txn = none ∧ (arbitrate 5 s).lib = s.lib ∧
      ∀ (v : Via) (left : List Key) (n : Nat), s.txn = some { via := v, move := m, work := .put left n } →
        arbitrate 5 s = readyReply v (u8 Result.storeFull.code ++ u8 n) { s with port := KeyPort.idle, txn := none }) ∧
    (∀ (m : MoveIx) (k : Key), s.lib.wf = true →
      (a = .consoleWrite m k ∧ s.port = { KeyPort.idle with waitConsole := some a }) ∨
        (a = .recorderWrite m k ∧ s.port = { KeyPort.idle with waitRecorder := some a }) →
      ((s.entry m).keys % 16 ≠ 0 → served (arbitrate 5 s) ∧ (arbitrate 5 s).lib = s.lib) ∧
      (∀ (b : Nat) (rest : List Nat), (s.entry m).keys % 16 = 0 → s.lib.freeList = b :: rest → (s.entry m).last ≠ some b →
        let t := arbitrate 5 s
        served t ∧ t.lib.freeList = rest ∧ t.lib.badSet = s.lib.badSet ∧ t.lib.keyStore = s.lib.keyStore ∧
        t.block b = { cls := .chained, link := none, suspect := false } ∧
        ((s.entry m).last = none → t.entry m = { s.entry m with first := some b, last := some b }) ∧
        (∀ l : Nat, (s.entry m).last = some l → t.entry m = { s.entry m with last := some b } ∧
          t.block l = { s.block l with link := some b }) ∧
        (∀ x : Nat, x ≠ b → (s.entry m).last ≠ some x → t.block x = s.block x) ∧
        ∀ n : MoveIx, n ≠ m → t.entry n = s.entry n))

/-- The console transaction goes on (R89, R92). When the write of its key completes, the next key is tested against the entry as
it now stands: in order, its write is requested; not in order, the transaction ends with BAD_ORDER; needing a block from an
empty free list, with STORE_FULL; with no key left, with OK. The reply counts the keys stored.
The same of a read (R94): it ends with NOT_FOUND where its entry has become EMPTY, with DAMAGED at a damaged key, with OK after
the last key, and otherwise reads the next key. The reply lists the keys read before the ending. -/
def Obligations.ConsoleTransactionGoesOn : Prop :=
  ∀ (s : State) (m : MoveIx) (v : Via) (check : KeyCheck) (w r : Bool), s.power.on = true → s.lib.wf = true →
    let reply (c : Result) (f : List Byte) (t : State) : Prop :=
      exec (.keyAccessComplete check) s = happened (readyReply v (u8 c.code ++ f) t) ∧ t.port = KeyPort.idle ∧ t.txn = none ∧
        t = { s with lib := t.lib, log := t.log, notices := t.notices, port := t.port, txn := t.txn }
    (∀ (k : Key) (rest : List Key) (n : Nat),
      s.port = { KeyPort.idle with serving := some { access := .consoleWrite m k, wanted := w, released := r } } →
      s.txn = some { via := v, move := m, work := .put (k :: rest) n } →
      (rest = [] → ∃ t : State, reply .ok (u8 (n + 1)) t ∧ t.lib = (storeKey m k s).lib) ∧
      (∀ (k2 : Key) (more : List Key), rest = k2 :: more →
        (k2.time ≤ k.time → ∃ t : State, reply .badOrder (u8 (n + 1)) t ∧ t.lib = (storeKey m k s).lib) ∧
        (k.time < k2.time → ((s.entry m).keys + 1) % 16 = 0 → s.lib.freeList = [] →
          ∃ t : State, reply .storeFull (u8 (n + 1)) t ∧ t.lib = (storeKey m k s).lib) ∧
        (k.time < k2.time → (((s.entry m).keys + 1) % 16 ≠ 0 ∨ s.lib.freeList ≠ []) →
          ∃ t : State, exec (.keyAccessComplete check) s = happened t ∧
            t.txn = some { via := v, move := m, work := .put rest (n + 1) } ∧
            t.port = { KeyPort.idle with
              serving := some { access := .consoleWrite m k2, wanted := true, released := false } } ∧
            (t.entry m).keys = (s.entry m).keys + 1 ∧ (t.entry m).endTime = some k.time ∧
            t.lib.keyStore = (storeKey m k s).lib.keyStore))) ∧
    (∀ (index b slot i left : Nat) (got : List Key),
      s.port = { KeyPort.idle with serving := some { access := .consoleRead m index b slot, wanted := w, released := r } } →
      s.txn = some { via := v, move := m, work := .read i left got } →
      let found := s.readOutcome b slot check
      let keys := got ++ [(s.slot b slot).key]
      (r = true → ∃ t : State, reply .notFound (encList encKey got) t ∧ t.lib = s.lib ∧ t.log = s.log ∧
        t.notices = s.notices) ∧
      (r = false → found = .damaged → ∃ t : State, reply .damaged (encList encKey got) t) ∧
      (r = false → found ≠ .damaged → left = 1 → ∃ t : State, reply .ok (encList encKey keys) t) ∧
      (r = false → found ≠ .damaged → 2 ≤ left → (s.entry m).state ≠ .empty →
        ∃ t : State, exec (.keyAccessComplete check) s = happened t ∧
          t.txn = some { via := v, move := m, work := .read (i + 1) (left - 1) keys } ∧
          t.port = { KeyPort.idle with serving := some {
            access := .consoleRead m (i + 1) ((s.chain (s.entry m)).getD ((i + 1) / 16) 0) ((i + 1) % 16),
            wanted := true, released := false } }))

/-! ### Move Players, marks and go-to moves -/

/-- LOAD, RUN, PAUSE, STOP, SET_RATE and GET_PLAYER (R104, R110, R111, R112, R121, R127).
An accepted RUN changes the state alone, but for the fetch of R107: with keys remaining, room for one and no fetch
outstanding, the next key is asked for at once, and a BUSY port makes it wait.
An accepted STOP (R121) hands back every ACTIVE axis whose record names the player over release_frames (R45, R43), changes no other,
and leaves the player RELEASING, its fetch withdrawn, while a record still names it, and IDLE otherwise. In FAULTED (R124) it cuts every such
record to steady LIVE and the player is IDLE.
That a player left RELEASING keeps its fetch cursor, which R121 does not name and Table 5-1 has absent when no fetch can follow,
is the model's choice (log 45). The rate that a SET_RATE takes with the removal of a binding is log 33, the state byte for a
channel that names no player log 28, and the layout of GET_PLAYER logs 12 and 34. -/
def Obligations.PlayerRequestsComplete : Prop :=
  ∀ (s : State) (p : PlayerId), s.delivers = true →
    let runs (st : PlayerState) (t : State) : Prop :=
      let room := (s.player p).startKey = none ∨ (s.player p).endKey = none ∨ (s.player p).fifo.length < 8
      let asks (port : KeyPort) : State :=
        { s.setPlayer p { s.player p with state := st, outstanding := true } with port := port }
      t.player p = { s.player p with state := st, outstanding := (t.player p).outstanding } ∧
      ((∀ (m : MoveIx) (c : Cursor) (n : Nat), (s.player p).move = some m → (s.player p).cursor = some c →
          (s.player p).keyCount = some n → c.index < n → (s.player p).outstanding = true ∨ ¬ room) →
        t = s.setPlayer p { s.player p with state := st }) ∧
      (∀ (m : MoveIx) (c : Cursor) (n : Nat), (s.player p).move = some m → (s.player p).cursor = some c →
        (s.player p).keyCount = some n → c.index < n → (s.player p).outstanding = false → room →
        (t.player p).outstanding = true ∧
        (s.port.serving ≠ none → t = asks (s.port.await (.fetch p m c.index c.block c.slot))) ∧
        (s.port = KeyPort.idle → t = asks { KeyPort.idle with
          serving := some { access := .fetch p m c.index c.block c.slot, wanted := true, released := false } }))
    (∀ (m : MoveIx) (rate : Nat), (s.player p).state = .idle → rate ≤ 512 → (s.entry m).state = .ready →
      (s.entry m).flags.damaged = false →
      ∃ t : State, exec (.load p.code (m.val + 1) rate) s = accepted (.load p.code (m.val + 1) rate) s t ∧
        (t.player p).state = .loaded ∧ (t.player p).move = some m ∧ (t.player p).mask = (s.entry m).mask ∧
        (t.player p).keyCount = some (s.entry m).keys ∧ (t.player p).rate = rate ∧ (t.player p).time = 0 ∧
        (t.player p).binding = (s.player p).binding ∧ (t.player p).filled = false ∧ (t.player p).fifo = [] ∧
        (t.player p).startKey = none ∧ (t.player p).published = none ∧
        (∀ b : Nat, (s.entry m).first = some b → 0 < (s.entry m).keys → s.port = KeyPort.idle →
          (t.player p).outstanding = true ∧ t.port = { KeyPort.idle with
            serving := some { access := .fetch p m 0 b 0, wanted := true, released := false } }) ∧
        (s.port.serving ≠ none ∨ s.port = KeyPort.idle →
          t.entry m = { s.entry m with users := (s.entry m).users + 1 } ∧ t.recorder = s.recorder ∧ t.link = s.link) ∧
        t.axes = s.axes ∧ t.cue = s.cue) ∧
    (∀ (m : MoveIx) (rate : Nat), rate ≤ 512 →
      ((s.player p).state ≠ .idle → exec (.load p.code (m.val + 1) rate) s =
        turnedAway (.load p.code (m.val + 1) rate) s .busy) ∧
      ((s.player p).state = .idle → (s.entry m).state = .empty → exec (.load p.code (m.val + 1) rate) s =
        turnedAway (.load p.code (m.val + 1) rate) s .notFound) ∧
      ((s.player p).state = .idle → (s.entry m).state = .writing → exec (.load p.code (m.val + 1) rate) s =
        turnedAway (.load p.code (m.val + 1) rate) s .wrongState) ∧
      ((s.player p).state = .idle → (s.entry m).state = .ready → (s.entry m).flags.damaged = true →
        exec (.load p.code (m.val + 1) rate) s = turnedAway (.load p.code (m.val + 1) rate) s .damaged)) ∧
    (∀ id rate : Nat, (id = 0 ∨ 32 < id ∨ 512 < rate) →
      exec (.load p.code id rate) s = turnedAway (.load p.code id rate) s .badValue) ∧
    ((s.player p).state = .loaded ∨ ((s.player p).state = .paused ∧
        ((s.player p).endKey ≠ none ∨ (s.player p).filled = false)) →
      ∃ t : State, exec (.run p.code) s = delivered (.run p.code) s t { code := .ok, fields := [2#8] } ∧
        (t.player p).state = .running ∧ (t.player p).time = (s.player p).time ∧ t.axes = s.axes ∧ runs .running t) ∧
    ((s.player p).state = .paused → (s.player p).endKey = none → (s.player p).filled = true →
      ∃ t : State, exec (.run p.code) s = delivered (.run p.code) s t { code := .ok, fields := [4#8] } ∧
        (t.player p).state = .starved ∧ t.axes = s.axes ∧ runs .starved t) ∧
    ((s.player p).state = .running ∨ (s.player p).state = .starved →
      ∃ t : State, exec (.run p.code) s =
          delivered (.run p.code) s t { code := .ok, fields := u8 (s.player p).state.code } ∧
        (t.player p).state = (s.player p).state ∧ (t.player p).time = (s.player p).time ∧ t.axes = s.axes ∧
        runs (s.player p).state t) ∧
    ((s.player p).state = .idle ∨ (s.player p).state = .ended ∨ (s.player p).state = .releasing ∨
        (s.player p).state = .faulted →
      exec (.run p.code) s =
        delivered (.run p.code) s s { code := .wrongState, fields := u8 (s.player p).state.code }) ∧
    ((s.player p).state = .running ∨ (s.player p).state = .starved →
      exec (.pause p.code) s = delivered (.pause p.code) s (s.setPlayer p { s.player p with state := .paused })
        { code := .ok, fields := [3#8] }) ∧
    ((s.player p).state = .paused → exec (.pause p.code) s = delivered (.pause p.code) s s { code := .ok, fields := [3#8] }) ∧
    ((s.player p).state = .idle ∨ (s.player p).state = .loaded ∨ (s.player p).state = .ended ∨
        (s.player p).state = .releasing ∨ (s.player p).state = .faulted →
      exec (.pause p.code) s =
        delivered (.pause p.code) s s { code := .wrongState, fields := u8 (s.player p).state.code }) ∧
    ((s.player p).state = .idle → exec (.stop p.code) s =
      delivered (.stop p.code) s s { code := .wrongState, fields := [0#8] }) ∧
    ((s.player p).state = .releasing → exec (.stop p.code) s =
      delivered (.stop p.code) s s { code := .ok, fields := [6#8] }) ∧
    ((s.player p).state ≠ .idle → (s.player p).state ≠ .releasing →
      ∃ t : State, exec (.stop p.code) s =
          delivered (.stop p.code) s t { code := .ok, fields := u8 (t.player p).state.code } ∧
        ((t.player p).state = .idle ∨ (t.player p).state = .releasing) ∧
        (s.refCount p = 0 ∨ (s.player p).state = .faulted → (t.player p).state = .idle ∧ t.refCount p = 0) ∧
        ((t.player p).state = .idle → (t.player p).move = none ∧ (t.player p).rate = (s.player p).rate ∧
          (t.player p).binding = (s.player p).binding ∧
          ∀ m : MoveIx, (s.player p).move = some m → (t.entry m).users = (s.entry m).users - 1 ∨
            ∃ q : PlayerId, q ≠ p ∧ (s.player q).state = .releasing) ∧
        (∀ i : Fin 8, (s.axis i).blend.names p.source = false → t.axis i = s.axis i) ∧
        ((s.player p).state ≠ .faulted →
          (∀ i : Fin 8, t.axis i =
            if (s.axis i).state = .active ∧ (s.axis i).blend.names p.source = true then
              { s.axis i with blend := (s.axis i).blend.handBack s.geometry.releaseFrames (s.axis i).out }
            else s.axis i) ∧
          (t.player p).state = (if t.refCount p = 0 then .idle else .releasing) ∧
          (t.refCount p ≠ 0 → t.player p = { s.player p with
            state := .releasing, outstanding := (s.player p).outstanding && !s.port.fetchWaits p } ∧
            t.port.fetchWaits p = false)) ∧
        ((s.player p).state = .faulted → ∀ i : Fin 8, t.axis i =
          if (s.axis i).blend.names p.source = true then
            { s.axis i with blend := { (s.axis i).blend with
              fromSrc := .live, toSrc := .live, k := 0, len := none, live := (s.axis i).out, trim := 0 } }
          else s.axis i)) ∧
    (∀ rate : Nat, rate ≤ 512 →
      exec (.setRate p.code rate none) s = accepted (.setRate p.code rate none) s
        (s.setPlayer p { s.player p with rate := rate, binding := none }) ∧
      ∀ (ch : Fin 8) (span : Nat), span ≤ 256 →
        exec (.setRate p.code rate (some (ch.val, span))) s = accepted (.setRate p.code rate (some (ch.val, span))) s
          (s.setPlayer p { s.player p with rate := rate, binding := some { channel := ch, span := span } })) ∧
    (∀ (rate : Nat) (b : Option (Nat × Nat)), (512 < rate ∨ ∃ c n : Nat, b = some (c, n) ∧ (8 ≤ c ∨ 256 < n)) →
      exec (.setRate p.code rate b) s = turnedAway (.setRate p.code rate b) s .badValue) ∧
    exec (.getPlayer p.code) s = told (.getPlayer p.code) s (playerFields (s.player p)) ∧
    ∀ n : Nat, 2 ≤ n →
      (∀ id rate : Nat, exec (.load n id rate) s = turnedAway (.load n id rate) s .badValue) ∧
      exec (.run n) s = delivered (.run n) s s { code := .badValue, fields := [0#8] } ∧
      exec (.pause n) s = delivered (.pause n) s s { code := .badValue, fields := [0#8] } ∧
      exec (.stop n) s = delivered (.stop n) s s { code := .badValue, fields := [0#8] } ∧
      (∀ (rate : Nat) (b : Option (Nat × Nat)), exec (.setRate n rate b) s = turnedAway (.setRate n rate b) s .badValue) ∧
      exec (.getPlayer n) s = turnedAway (.getPlayer n) s .badValue

/-- KEY_ACCESS_COMPLETE of a fetch at its player (R105, R107, R108, R109, R123), no other request waiting. In RELEASING, FAULTED
and IDLE the outcome is discarded, and only fetch outstanding clears. In a state that fetches, a DAMAGED key makes the player
FAULTED: FIFO empty, fault key set, all else of its record kept, a PLAYER notice, and every ACTIVE axis that follows it handed
back to LIVE. A GOOD or CORRECTED key becomes the start key, else the end key, else the FIFO's tail; an end key takes a STARVED
player to RUNNING; and the fetch of the key that follows begins at once if a key remains and there is room.
A DAMAGED outcome delivered while an output frame is in progress (R123): the library flags the entry and the block and reports
at once (R85), and the player answers its position request in its old state; after the publication it is FAULTED, its time and published
position as that request left them, with its PLAYER notice of that frame. Where in the frame an access completes is an operand
(log 35); the fetch cursor that a FAULTED player keeps is log 45. -/
def Obligations.FetchedKeyIsPlaced : Prop :=
  ∀ (s : State) (p : PlayerId) (m : MoveIx) (index b slot : Nat) (check : KeyCheck), s.power.on = true → s.lib.wf = true →
    s.port = { KeyPort.idle with
      serving := some { access := .fetch p m index b slot, wanted := true, released := false } } →
    let r := s.player p
    let found := s.readOutcome b slot check
    let k : PlayerKey := { index := index, key := (s.slot b slot).key }
    let fetching : Prop := r.state = .loaded ∨ r.state = .running ∨ r.state = .paused ∨ r.state = .starved
    ∃ t : State, exec (.keyAccessComplete check) s = happened t ∧
      (r.state = .releasing ∨ r.state = .faulted ∨ r.state = .idle →
        t.player p = { r with outstanding := false } ∧ t.port = KeyPort.idle ∧ t.axes = s.axes) ∧
      (fetching → found = .damaged →
        t.player p = { r with state := .faulted, outstanding := false, fifo := [], faultKey := some index } ∧
        t.port = KeyPort.idle ∧
        (∀ i : Fin 8, (s.axis i).state = .active → (s.axis i).blend.names p.source = true → (t.axis i).blend.toSrc = .live) ∧
        (∀ i : Fin 8, (s.axis i).state ≠ .active ∨ (s.axis i).blend.names p.source = false → t.axis i = s.axis i) ∧
        (t.noticeSlot .player).detail = some {
          frame := s.timer.number, detail := .player p .faulted r.source? (r.time / 256) (some index) }) ∧
      (fetching → found ≠ .damaged →
        t.axes = s.axes ∧ (t.player p).time = r.time ∧ (t.player p).rate = r.rate ∧ (t.player p).move = r.move ∧
        (t.player p).mask = r.mask ∧ (t.player p).keyCount = r.keyCount ∧ (t.player p).faultKey = r.faultKey ∧
        (r.startKey = none → (t.player p).startKey = some k ∧ (t.player p).published = some k.key.positions ∧
          (t.player p).endKey = r.endKey ∧ (t.player p).fifo = r.fifo ∧ (t.player p).state = r.state ∧
          (t.player p).filled = r.filled) ∧
        (r.startKey ≠ none → (t.player p).startKey = r.startKey ∧ (t.player p).published = r.published) ∧
        (r.startKey ≠ none → r.endKey = none → (t.player p).endKey = some k ∧ (t.player p).fifo = r.fifo ∧
          (t.player p).filled = true ∧ (t.player p).state = if r.state = .starved then .running else r.state) ∧
        (r.startKey ≠ none → r.endKey ≠ none → (t.player p).endKey = r.endKey ∧ (t.player p).fifo = r.fifo ++ [k] ∧
          (t.player p).filled = r.filled ∧ (t.player p).state = r.state) ∧
        (∀ n : Nat, r.keyCount = some n → n ≤ index + 1 →
          (t.player p).cursor = none ∧ (t.player p).outstanding = false ∧ t.port = KeyPort.idle) ∧
        (∀ (n b2 slot2 : Nat), r.keyCount = some n → index + 1 < n →
          (slot < 15 ∧ b2 = b ∧ slot2 = slot + 1) ∨ (15 ≤ slot ∧ (s.block b).link = some b2 ∧ slot2 = 0) →
          (t.player p).cursor = some { block := b2, slot := slot2, index := index + 1 } ∧
          (∀ m2 : MoveIx, r.move = some m2 → (t.player p).fifo.length < 8 →
            (t.player p).outstanding = true ∧ t.port = { KeyPort.idle with
              serving := some { access := .fetch p m2 (index + 1) b2 slot2, wanted := true, released := false } }) ∧
          (r.startKey ≠ none → r.endKey ≠ none → 7 ≤ r.fifo.length →
            (t.player p).outstanding = false ∧ t.port = KeyPort.idle))) ∧
      (fetching → found = .damaged →
        let u := frameAccesses [check] { s with timer := s.timer.expire }
        u.player p = { r with outstanding := (u.player p).outstanding, arrived := some index } ∧
        (u.entry m).flags.damaged = true ∧ (u.block b).suspect = true ∧ u.axes = s.axes ∧
        u.noticeSlot .player = s.noticeSlot .player ∧
        ((r.state = .running → r.keysRemain = true) → (∀ q : PlayerId, (s.player q).arrived = none) →
          s.cue.state ≠ .running → s.cue.state ≠ .waiting → ∀ (order : List Sink) (asked : PlayerOrder),
          ∃ f : State, exec (.outputFrame order { order := asked, accesses := [check] }) s = happened f ∧
            (f.player p).state = .faulted ∧ (f.player p).faultKey = some index ∧ (f.player p).fifo = [] ∧
            (f.player p).outstanding = false ∧ (f.player p).arrived = none ∧
            (f.player p).time = ((positionRequest p s).player p).time ∧
            (f.player p).published = ((positionRequest p s).player p).published ∧
            (f.noticeSlot .player).detail = some {
              frame := (s.timer.number + 1) % 4294967296,
              detail := .player p .faulted r.source? ((f.player p).time / 256) (some index) }))

/-- One segment (R119, R120): LINEAR is the start key's position plus trunc of the difference times delta / span, STEP the start
key's, EASE the start key's plus trunc of the difference times the eased fraction / 65536. So at its start it is the start
key's position, between its ends never outside the two keys' positions, LINEAR at the end key's at its end, and the eased
fraction is a half at the middle and short of the whole before the end, where EASE has not reached the end key's position.
Each axis is interpolated on its own with the same delta and span, and the advance that makes the end key the start key brings
its positions in. -/
def Obligations.InterpolationStaysBetweenKeys : Prop :=
  (∀ (sh : Shape) (delta span : Nat) (p0 p1 : Int), 0 < span → delta ≤ span →
    let x := interpolate1 sh delta span p0 p1
    min p0 p1 ≤ x ∧ x ≤ max p0 p1 ∧ (delta = 0 → x = p0) ∧ (sh = .step → x = p0) ∧
    (sh = .linear → x = p0 + Int.tdiv ((p1 - p0) * delta) span) ∧
    (sh = .ease → x = p0 + Int.tdiv ((p1 - p0) * easeOf delta span) 65536) ∧
    (let u := delta * 65536 / span
     easeOf delta span = u * u / 65536 * (196608 - 2 * u) / 65536 ∧ (delta < span → u ≤ 65535) ∧
     (u = 32768 → easeOf delta span = 32768) ∧ (u = 65535 → u * u / 65536 = 65534 ∧ easeOf delta span = 65535)) ∧
    (sh = .ease → delta < span → p0 ≠ p1 → x ≠ p1) ∧
    (sh = .linear → delta = span → x = p1) ∧ easeOf delta span ≤ 65536 ∧
    (2 * delta = span → easeOf delta span = 32768) ∧ (delta < span → easeOf delta span ≤ 65535)) ∧
  (∀ (k0 k1 : Key) (time j : Nat) (p0 p1 : Int), k0.positions[j]? = some p0 → k1.positions[j]? = some p1 →
    (interpolate k0 k1 time)[j]? =
      some (interpolate1 k0.shape (time - k0.time * 256) ((k1.time - k0.time) * 256) p0 p1)) ∧
  (∀ (r : Player) (time : Nat) (k0 k1 : PlayerKey), k1.key.time * 256 ≤ time →
    (r.fifo = [] → (r.advance time k0 k1).startKey = some k1 ∧ (r.advance time k0 k1).published = some k1.key.positions) ∧
    (∀ (k2 : PlayerKey) (rest : List PlayerKey), r.fifo = k2 :: rest → time < k2.key.time * 256 →
      (r.advance time k0 k1).startKey = some k1 ∧
      (r.advance time k0 k1).published = some (interpolate k1.key k2.key time)))

/-- A position request (R113 to R118): a player that is not RUNNING keeps its whole record; a RUNNING one takes its bound
rate, 256 + trunc(d × span / 32767) saturated to 0 to 512, and then its time rises by the rate; before the end key it is interpolated, and at the end key with an empty
FIFO it is STARVED or ENDED at that key's time and positions.
Entering STARVED or ENDED raises a PLAYER notice of the state entered, what the player holds and the key's time (R116, R117, R126), and a
request that enters neither raises none. An advance that pops the FIFO while keys remain and no fetch is outstanding asks for
the next key within the request (R107, R115); with a fetch outstanding the port is left alone. -/
def Obligations.PositionRequestAdvances : Prop :=
  ∀ (p : PlayerId) (s : State) (k0 k1 : PlayerKey),
    ((s.player p).state ≠ .running → positionRequest p s = s) ∧
    (s.boundRate (s.player p) ≤ 512 ∨ (s.player p).binding = none) ∧
    ((s.player p).binding = none → s.boundRate (s.player p) = (s.player p).rate) ∧
    (∀ x : Binding, (s.player p).binding = some x →
      (s.boundRate (s.player p) : Int) =
        max 0 (min 512 (256 + Int.tdiv (s.stick.channelDemand x.channel * x.span) 32767))) ∧
    ((s.player p).state = .running → (s.player p).filled = false →
      positionRequest p s = s.setPlayer p { s.player p with rate := s.boundRate (s.player p) }) ∧
    ((s.player p).state = .running → (s.player p).filled = true → (s.player p).startKey = some k0 →
      (s.player p).endKey = some k1 →
      let time := (s.player p).time + s.boundRate (s.player p)
      let r := (positionRequest p s).player p
      r.rate = s.boundRate (s.player p) ∧
      (time < k1.key.time * 256 → r.state = .running ∧ r.time = time ∧ r.startKey = some k0 ∧ r.endKey = some k1 ∧
        r.published = some (interpolate k0.key k1.key time)) ∧
      (k1.key.time * 256 ≤ time → (s.player p).fifo = [] →
        r.state = (if (s.player p).keysRemain then .starved else .ended) ∧ r.time = k1.key.time * 256 ∧
        r.startKey = some k1 ∧ r.endKey = none ∧ r.published = some k1.key.positions) ∧
      (∀ (k2 : PlayerKey) (rest : List PlayerKey), k1.key.time * 256 ≤ time → (s.player p).fifo = k2 :: rest →
        time < k2.key.time * 256 → r.state = .running ∧ r.time = time ∧ r.startKey = some k1 ∧ r.endKey = some k2 ∧
        r.fifo = rest ∧ r.published = some (interpolate k1.key k2.key time)) ∧
      let t := positionRequest p s
      ((r.state = .starved ∨ r.state = .ended) → t.noticeSlot .player = (s.noticeSlot .player).raised {
        frame := s.timer.number,
        detail := .player p r.state (s.player p).source? (r.time / 256) (s.player p).faultKey }) ∧
      (r.state = .running → t.noticeSlot .player = s.noticeSlot .player) ∧
      ((s.player p).outstanding = true → t.port = s.port ∧ r.outstanding = true) ∧
      (∀ (m : MoveIx) (c : Cursor) (n : Nat) (k2 : PlayerKey) (rest : List PlayerKey), (s.player p).move = some m →
        (s.player p).cursor = some c → (s.player p).keyCount = some n → c.index < n → (s.player p).outstanding = false →
        k1.key.time * 256 ≤ time → (s.player p).fifo = k2 :: rest → time < k2.key.time * 256 → rest.length < 8 →
        r.outstanding = true ∧
        (s.port.serving ≠ none → t.port = s.port.await (.fetch p m c.index c.block c.slot)) ∧
        (s.port = KeyPort.idle → t.port = { KeyPort.idle with
          serving := some { access := .fetch p m c.index c.block c.slot, wanted := true, released := false } })))

/-- SET_MARK, STORE_MARK, CLEAR_MARK and GET_MARK (R130 to R133); the layout of the replies of STORE_MARK and GET_MARK is the model's
choice (logs 12 and 34).
GOTO (R106, R135, R136): the player is LOADED and filled with the move from the present outs to the mark.
An operand out of its range is refused BAD_VALUE: an empty or overlong mask, an index of 64 or more, a bad name or position, a GOTO
of a length outside 1 to 65535 or of a channel that is none, whose reply carries 0 for the state (log 28). -/
def Obligations.MarkRequestsComplete : Prop :=
  (∀ (s : State) (k : Fin 64) (m : Mask) (name : List Nat) (ps : List Int), s.delivers = true → m ≠ 0#8 →
    (name.length ≤ 12 → (∀ c ∈ name, 32 ≤ c ∧ c ≤ 126) → ps.length = Mask.count m →
      (∀ x ∈ ps, posMin ≤ x ∧ x ≤ posMax) →
      exec (.setMark k.val name m.toNat ps) s = accepted (.setMark k.val name m.toNat ps) s
        (s.setMark k (some { name := name, mask := m, positions := ps }))) ∧
    (ps.length = Mask.count m → nameOk 0 name = false ∨ ¬ (∀ x ∈ ps, posMin ≤ x ∧ x ≤ posMax) →
      exec (.setMark k.val name m.toNat ps) s = turnedAway (.setMark k.val name m.toNat ps) s .badValue) ∧
    (name.length ≤ 12 → (∀ c ∈ name, 32 ≤ c ∧ c ≤ 126) →
      (∀ i : Fin 8, Mask.has m i = true → (s.axis i).state ≠ .unconfigured) →
      exec (.storeMark k.val name m.toNat) s = delivered (.storeMark k.val name m.toNat) s
        (s.setMark k (some { name := name, mask := m, positions := (Mask.axes m).map fun i => (s.axis i).out }))
        { code := .ok, fields := [0#8, 0#8] ++ encList s24 ((Mask.axes m).map fun i => (s.axis i).out) }) ∧
    (∀ i : Fin 8, nameOk 0 name = true → Mask.has m i = true → (s.axis i).state = .unconfigured →
      (∀ j : Fin 8, j < i → Mask.has m j = true → (s.axis j).state ≠ .unconfigured) →
      exec (.storeMark k.val name m.toNat) s = delivered (.storeMark k.val name m.toNat) s s
        { code := .wrongState, fields := u8 1 ++ u8 i.val }) ∧
    exec (.clearMark k.val) s = accepted (.clearMark k.val) s (s.setMark k none) ∧
    exec (.getMark k.val) s = told (.getMark k.val) s (markFields s.marks[k]) ∧
    ∀ n : Nat, 64 ≤ n → exec (.clearMark n) s = turnedAway (.clearMark n) s .badValue ∧
      exec (.getMark n) s = turnedAway (.getMark n) s .badValue ∧
      (ps.length = Mask.count m →
        exec (.setMark n name m.toNat ps) s = turnedAway (.setMark n name m.toNat ps) s .badValue) ∧
      exec (.storeMark n name m.toNat) s =
        delivered (.storeMark n name m.toNat) s s { code := .badValue, fields := [0#8, 0#8] }) ∧
  (∀ (s : State) (index mask channel frames : Nat) (name : List Nat) (ps : List Int), s.delivers = true →
    (mask = 0 ∨ 256 ≤ mask → ps.length = maskAxes mask →
      exec (.setMark index name mask ps) s = turnedAway (.setMark index name mask ps) s .badValue) ∧
    (mask = 0 ∨ 256 ≤ mask ∨ nameOk 0 name = false →
      exec (.storeMark index name mask) s =
        delivered (.storeMark index name mask) s s { code := .badValue, fields := [0#8, 0#8] }) ∧
    (∀ p : PlayerId, (64 ≤ index ∨ frames = 0 ∨ 65535 < frames) →
      exec (.goTo p.code index frames) s = delivered (.goTo p.code index frames) s s
        { code := .badValue, fields := u8 (s.player p).state.code }) ∧
    (2 ≤ channel → exec (.goTo channel index frames) s =
      delivered (.goTo channel index frames) s s { code := .badValue, fields := [0#8] })) ∧
  (∀ (s : State) (p : PlayerId) (k : Fin 64) (x : MarkData) (n : Nat), s.delivers = true → 1 ≤ n → n ≤ 65535 →
    ((s.player p).state = .idle → s.marks[k] = some x →
      exec (.goTo p.code k.val n) s = delivered (.goTo p.code k.val n) s
        (s.setPlayer p {
          state := .loaded, move := none, mark := some k, mask := some x.mask, keyCount := some 2, rate := 256,
          binding := (s.player p).binding, time := 0,
          startKey := some { index := 0, key := { time := 0, shape := .ease, positions := (Mask.axes x.mask).map fun i =>
            if (s.axis i).state = .unconfigured then 0 else (s.axis i).out } },
          endKey := some { index := 1, key := { time := n, shape := .ease, positions := x.positions } },
          filled := true, fifo := [], cursor := none, outstanding := false,
          published := some ((Mask.axes x.mask).map fun i =>
            if (s.axis i).state = .unconfigured then 0 else (s.axis i).out),
          faultKey := none, arrived := none })
        { code := .ok, fields := [1#8] }) ∧
    ((s.player p).state ≠ .idle → exec (.goTo p.code k.val n) s =
      delivered (.goTo p.code k.val n) s s { code := .busy, fields := u8 (s.player p).state.code }) ∧
    ((s.player p).state = .idle → s.marks[k] = none → exec (.goTo p.code k.val n) s =
      delivered (.goTo p.code k.val n) s s { code := .notFound, fields := [0#8] }))

/-- A go-to move of n frames, run with no binding at rate 256 (R137): before the n-th position request the player is RUNNING
on its eased segment, and at the n-th it is ENDED with the mark's positions. -/
def Obligations.GoToArrives : Prop :=
  ∀ (p : PlayerId) (s : State) (k : Fin 64) (x : MarkData) (n : Nat) (outs : List Int), 1 ≤ n →
    let r : Player := { (Player.reset.gone k x n outs) with state := .running }
    let run := fun j : Nat => (positionRequest p)^[j] (s.setPlayer p r)
    (∀ j : Nat, j < n → ((run j).player p).state = .running ∧ ((run j).player p).time = 256 * j ∧
      (1 ≤ j → ((run j).player p).published = some (interpolate { time := 0, shape := .ease, positions := outs }
        { time := n, shape := .ease, positions := x.positions } (256 * j)))) ∧
    (∀ j : Nat, n ≤ j → ((run j).player p).state = .ended ∧ ((run j).player p).published = some x.positions)

/-! ### The Recorder -/

/-- RECORD_START, RECORD_STOP, GET_RECORDER and RECORDER_TIME_LIMIT (R142, R147, R150, R152); the time limit given as a command does
nothing below the limit (log 5), and the record's cause is the model's own field (log 22). A RECORD_START with an operand out of its
range is refused BAD_VALUE in every state, an on_trigger byte of 2 or more being one (log 31).
The final key of a RECORD_STOP (R147) has the time of the last publication the Recorder has taken and that publication's outs; it
is queued unless a key of that time is queued already, or skipped with GAPPED where the FIFO holds 8 (R145). A key left to write has its
write requested at once where none is outstanding (R146). With nothing left to write the take closes within the request,
READY with 2 keys or more and EMPTY with fewer (R148). So also at the time limit, with cause TIME_LIMIT (R150). -/
def Obligations.RecorderRequestsComplete : Prop :=
  (∀ (id mask d shape trig : Nat) (name : List Nat) (s : State), s.delivers = true →
    (id = 0 ∨ 32 < id ∨ nameOk 1 name = false ∨ mask = 0 ∨ 256 ≤ mask ∨ d = 0 ∨ 64 < d ∨ 3 ≤ shape ∨ 2 ≤ trig) →
    exec (.recordStart id name mask d shape trig) s =
      delivered (.recordStart id name mask d shape trig) s s { code := .badValue, fields := u8 s.recorder.state.code }) ∧
  ∀ (s : State) (m : MoveIx) (k : Mask) (name : List Nat) (d : Nat) (sh : Shape) (trig : Bool), s.delivers = true →
    k ≠ 0#8 → nameOk 1 name = true → 1 ≤ d → d ≤ 64 →
    let cmd := Instr.recordStart (m.val + 1) name k.toNat d sh.code trig.toNat
    (s.recorder.state = .idle → (s.entry m).state = .empty → ∃ t : State,
      exec cmd s = delivered cmd s t { code := .ok, fields := u8 t.recorder.state.code } ∧
        t.entry m = { Entry.blank with
          state := .writing, name := some name, mask := some k, writer := some .recorder } ∧
        t.recorder = { s.recorder with
          state := if trig then .armed else .recording, move := some m, mask := some k, decimation := d, shape := sh,
          frames := none, lastQueued := none, fifo := [], outstanding := false, skipped := 0, cause := .stopped } ∧
        t = { s with lib := t.lib, recorder := t.recorder } ∧ ∀ j : MoveIx, j ≠ m → t.entry j = s.entry j) ∧
    (s.recorder.state ≠ .idle → exec cmd s =
      delivered cmd s s { code := .busy, fields := u8 s.recorder.state.code }) ∧
    (s.recorder.state = .idle → (s.entry m).state ≠ .empty → exec cmd s =
      delivered cmd s s { code := .wrongState, fields := [0#8] }) ∧
    (s.recorder.state = .idle → exec .recordStop s = delivered .recordStop s s { code := .wrongState, fields := [0#8] }) ∧
    (s.recorder.state = .closing → exec .recordStop s = delivered .recordStop s s { code := .ok, fields := [3#8] }) ∧
    (s.recorder.move = some m →
      (s.recorder.state = .armed ∨ (s.recorder.state = .recording ∧ s.recorder.frames = none)) → ∃ t : State,
      exec .recordStop s = delivered .recordStop s t { code := .ok, fields := [0#8] } ∧ t.entry m = Entry.blank ∧
        t.recorder.state = .idle ∧ t.recorder.move = none ∧ t.recorder.fifo = []) ∧
    (∀ f : Nat, s.recorder.state = .recording → s.recorder.frames = some f → s.recorder.lastQueued = some f →
      s.recorder.outstanding = true → s.recorder.fifo ≠ [] →
      exec .recordStop s = delivered .recordStop s
        { s with recorder := { s.recorder with state := .closing, cause := .stopped } } { code := .ok, fields := [3#8] } ∧
      exec .recorderTimeLimit s =
        happened (if f = 16777215 then { s with recorder := { s.recorder with state := .closing, cause := .timeLimit } }
          else s)) ∧
    (∀ (f q : Nat) (k2 : Mask), s.recorder.state = .recording → s.recorder.frames = some f →
      s.recorder.lastQueued = some q → q ≤ f → s.recorder.move = some m → s.recorder.mask = some k2 →
      let final : Key := {
        time := f, shape := s.recorder.shape, positions := (Mask.axes k2).map fun i => (s.recorder.outs[i]).getD 0 }
      let queued : Bool := decide (q < f) && decide (s.recorder.fifo.length < 8)
      let skipped : Bool := decide (q < f) && decide (8 ≤ s.recorder.fifo.length)
      let fifo := if queued then s.recorder.fifo ++ [final] else s.recorder.fifo
      let gap := if skipped then s.setEntry m { s.entry m with flags := { (s.entry m).flags with gapped := true } } else s
      let left (c : CloseCause) : Recorder := { s.recorder with
        state := .closing, cause := c, lastQueued := if queued then some f else some q, fifo := fifo,
        skipped := if skipped then min (s.recorder.skipped + 1) 65535 else s.recorder.skipped }
      let idle (c : CloseCause) : Recorder := { s.recorder with
        state := .idle, move := none, mask := none, frames := none, lastQueued := none, fifo := [], outstanding := false,
        cause := c }
      let ends (c : CloseCause) (t : State) : Prop :=
        (fifo ≠ [] → s.recorder.outstanding = true → t = { gap with recorder := left c }) ∧
        (∀ head : Key, fifo.head? = some head → s.recorder.outstanding = false →
          (s.port.serving ≠ none → t = { gap with
            recorder := { left c with outstanding := true },
            port := { s.port with waitRecorder := some (.recorderWrite m head) } }) ∧
          (s.port = KeyPort.idle → ((s.entry m).keys % 16 ≠ 0 ∨ s.lib.freeList ≠ []) →
            t = { gap with
              recorder := { left c with outstanding := true }, lib := t.lib,
              port := { KeyPort.idle with
                serving := some { access := .recorderWrite m head, wanted := true, released := false } } } ∧
            (t.entry m).keys = (s.entry m).keys ∧ t.lib.keyStore = s.lib.keyStore ∧
            ((s.entry m).keys % 16 ≠ 0 → t.lib = gap.lib))) ∧
        (fifo = [] →
          t.recorder = idle c ∧
          (2 ≤ (s.entry m).keys → t.entry m = { s.entry m with state := .ready, writer := none } ∧
            t.lib.freeList = s.lib.freeList ∧ t.lib.blockMap = s.lib.blockMap ∧ (t.noticeSlot .record).detail = some {
              frame := s.timer.number,
              detail := .recordClosed m c .ready (s.entry m).keys (s.entry m).endTime s.recorder.skipped }) ∧
          ((s.entry m).keys < 2 → s.lib.wf = true → (s.chain (s.entry m)).Nodup → t.entry m = Entry.blank ∧
            t.lib.freeList = s.lib.freeList ++ (s.chain (s.entry m)).filter (fun b => !(s.block b).suspect) ∧
            (t.noticeSlot .record).detail = some {
              frame := s.timer.number,
              detail := .recordClosed m c .empty (s.entry m).keys (s.entry m).endTime s.recorder.skipped }))
      (∃ t : State, ends .stopped t ∧ exec .recordStop s = delivered .recordStop s t {
        code := .ok, fields := u8 t.recorder.state.code }) ∧
      (f = 16777215 → ∃ t : State, ends .timeLimit t ∧ exec .recorderTimeLimit s = happened t) ∧
      (f ≠ 16777215 → exec .recorderTimeLimit s = happened s)) ∧
    (∀ f : Nat, s.recorder.state = .recording → s.recorder.frames = some f → s.recorder.lastQueued = some f →
      s.recorder.move = some m → s.recorder.fifo = [] → 2 ≤ (s.entry m).keys →
      ∃ t : State, exec .recordStop s = delivered .recordStop s t { code := .ok, fields := [0#8] } ∧
        t.entry m = { s.entry m with state := .ready, writer := none } ∧ t.recorder.state = .idle ∧
        t.recorder.move = none ∧ (t.noticeSlot .record).detail = some {
          frame := s.timer.number,
          detail := .recordClosed m .stopped .ready (s.entry m).keys (s.entry m).endTime s.recorder.skipped }) ∧
    exec .getRecorder s = told .getRecorder s (recorderFields s.recorder)

/-- The capture of a key at a publication (R144, R145): a key is due at every decimation-th frame of the take and is placed
at the FIFO's tail with the outs of the publication, or skipped with GAPPED set when the FIFO holds 8. A key placed while no
write is outstanding has the write of the FIFO's head requested at once (R146), as the first key of a take has: it waits at a
BUSY port, and a FREE one serves it, no key being stored yet.
At the publication in which frames since start reaches 16,777,215 the take ends with cause TIME_LIMIT (R150): after that
publication's key, the final key of that time is queued if it is not yet, or skipped where the FIFO holds 8, and the
Recorder is CLOSING and goes on writing. In every state the Recorder keeps the outs of the publication it
takes (R147). -/
def Obligations.RecorderCapturesAtItsDecimation : Prop :=
  (∀ s : State, s.recorder.state ≠ .recording →
    recorderPublication s = { s with recorder := { s.recorder with outs := s.outputSet, awaiting := false } }) ∧
  ∀ (s : State) (m : MoveIx) (k : Mask), s.recorder.move = some m → s.recorder.mask = some k →
    let n := match s.recorder.frames with
      | some f => f + 1
      | none => 0
    (s.recorder.state = .recording → n < 16777215 →
      (n % s.recorder.decimation ≠ 0 →
        recorderPublication s = { s with recorder := { s.recorder with
          outs := s.outputSet, awaiting := false, frames := some n } }) ∧
      (n % s.recorder.decimation = 0 → s.recorder.fifo.length < 8 → s.recorder.outstanding = true →
        recorderPublication s = { s with recorder := { s.recorder with
          outs := s.outputSet, awaiting := false, frames := some n, lastQueued := some n,
          fifo := s.recorder.fifo ++ [{
            time := n, shape := s.recorder.shape,
            positions := (Mask.axes k).map fun i => (s.outputSet[i]).getD 0 }] } }) ∧
      (n % s.recorder.decimation = 0 → s.recorder.fifo.length < 8 → s.recorder.outstanding = false →
        let fifo := s.recorder.fifo ++ [{
          time := n, shape := s.recorder.shape, positions := (Mask.axes k).map fun i => (s.outputSet[i]).getD 0 }]
        let placed := { s.recorder with
          outs := s.outputSet, awaiting := false, frames := some n, lastQueued := some n, fifo := fifo, outstanding := true }
        ∀ head : Key, fifo.head? = some head →
          (s.port.serving ≠ none → recorderPublication s = { s with
            recorder := placed, port := { s.port with waitRecorder := some (.recorderWrite m head) } }) ∧
          (s.port = KeyPort.idle → ((s.entry m).keys % 16 ≠ 0 ∨ s.lib.freeList ≠ []) →
            let t := recorderPublication s
            t = { s with recorder := placed, lib := t.lib, port := { KeyPort.idle with serving := some {
              access := .recorderWrite m head, wanted := true, released := false } } } ∧
            (t.entry m).keys = (s.entry m).keys ∧ t.lib.keyStore = s.lib.keyStore ∧
            ((s.entry m).keys % 16 ≠ 0 → t.lib = s.lib))) ∧
      (n % s.recorder.decimation = 0 → s.recorder.fifo.length = 8 → s.recorder.outstanding = true →
        recorderPublication s = { s.setEntry m { s.entry m with flags := { (s.entry m).flags with gapped := true } } with
          recorder := { s.recorder with
            outs := s.outputSet, awaiting := false, frames := some n,
            skipped := min (s.recorder.skipped + 1) 65535 } })) ∧
    (s.recorder.state = .recording → n = 16777215 → s.recorder.lastQueued ≠ some n →
      let fifo := s.recorder.fifo ++ [{
        time := n, shape := s.recorder.shape, positions := (Mask.axes k).map fun i => (s.outputSet[i]).getD 0 }]
      let ended := { s.recorder with
        outs := s.outputSet, awaiting := false, frames := some n, lastQueued := some n, fifo := fifo, outstanding := true,
        state := .closing, cause := .timeLimit }
      (s.recorder.fifo.length < 8 → s.recorder.outstanding = true →
        recorderPublication s = { s with recorder := ended }) ∧
      (s.recorder.fifo.length < 8 → s.recorder.outstanding = false → ∀ head : Key, fifo.head? = some head →
        (s.port.serving ≠ none → recorderPublication s = { s with
          recorder := ended, port := { s.port with waitRecorder := some (.recorderWrite m head) } }) ∧
        (s.port = KeyPort.idle → (s.entry m).keys % 16 ≠ 0 → recorderPublication s = { s with
          recorder := ended,
          port := { KeyPort.idle with
            serving := some { access := .recorderWrite m head, wanted := true, released := false } } })) ∧
      (s.recorder.fifo.length = 8 → s.recorder.outstanding = true →
        recorderPublication s = { s.setEntry m { s.entry m with flags := { (s.entry m).flags with gapped := true } } with
          recorder := { s.recorder with
            outs := s.outputSet, awaiting := false, frames := some n, state := .closing, cause := .timeLimit,
            skipped := min (s.recorder.skipped + if n % s.recorder.decimation = 0 then 2 else 1) 65535 } }))

/-- The completion of the Recorder's write (R146), no other request waiting: the key is stored and the head popped, and the write
of the next key begins at once, or the FIFO is left empty. In CLOSING the last completion closes the take (R148): READY with 2
keys or more, EMPTY with fewer, its chain released; the Recorder becomes IDLE, and a RECORD notice tells it.
A write that fails at its grant (R149): the FIFO is discarded and the take is closed, READY with the STORE_FULL flag or EMPTY,
with cause STORE_FULL, in RECORDING and in CLOSING, and the port serves what waits behind it within the same event.
The close on a write's completion is a request of the Recorder (R87), taken after the arbiter has acted on the completion (R82): a
console write that waits for a block then, with none free, ends with STORE_FULL although an EMPTY close releases one. -/
def Obligations.RecorderStoresAndCloses : Prop :=
  ∀ (s : State) (m : MoveIx) (k : Key), s.power.on = true → s.lib.wf = true → s.recorder.move = some m →
    let idle : Recorder := { s.recorder with
      state := .idle, move := none, mask := none, frames := none, lastQueued := none, fifo := [], outstanding := false }
    let tells (t : State) (c : CloseCause) (e : EntryState) (stored : Nat) (last : Option Nat) : Prop :=
      (t.noticeSlot .record).detail = some {
        frame := s.timer.number, detail := .recordClosed m c e stored last s.recorder.skipped }
    (∀ (rest : List Key) (check : KeyCheck) (w r : Bool),
      s.port = { KeyPort.idle with serving := some { access := .recorderWrite m k, wanted := w, released := r } } →
      s.recorder.fifo = k :: rest →
      ∃ t : State, exec (.keyAccessComplete check) s = happened t ∧
        (∀ (k2 : Key) (more : List Key), rest = k2 :: more → (s.recorder.state = .recording ∨ s.recorder.state = .closing) →
          (((s.entry m).keys + 1) % 16 ≠ 0 ∨ s.lib.freeList ≠ []) →
          t.recorder = { s.recorder with fifo := rest, outstanding := true } ∧
          t.port = { KeyPort.idle with
            serving := some { access := .recorderWrite m k2, wanted := true, released := false } } ∧
          (t.entry m).keys = (s.entry m).keys + 1 ∧ (t.entry m).endTime = some k.time ∧ (t.entry m).state = (s.entry m).state) ∧
        (rest = [] → s.recorder.state = .recording →
          t.recorder = { s.recorder with fifo := [], outstanding := false } ∧ t.port = KeyPort.idle ∧
          t.lib = (storeKey m k s).lib) ∧
        (rest = [] → s.recorder.state = .closing → s.recorder.cause ≠ .storeFull →
          t.recorder = idle ∧ t.port = KeyPort.idle ∧
          (1 ≤ (s.entry m).keys →
            t.entry m = { s.entry m with
              state := .ready, writer := none, keys := (s.entry m).keys + 1, endTime := some k.time } ∧
            t.lib.freeList = s.lib.freeList ∧ t.lib.blockMap = s.lib.blockMap ∧
            tells t s.recorder.cause .ready ((s.entry m).keys + 1) (some k.time)) ∧
          ((s.entry m).keys = 0 → (s.chain (s.entry m)).Nodup →
            t.entry m = Entry.blank ∧ tells t s.recorder.cause .empty 1 (some k.time) ∧
            t.lib.freeList = s.lib.freeList ++ (s.chain (s.entry m)).filter fun b => !(s.block b).suspect))) ∧
    ((s.recorder.state = .recording ∨ s.recorder.state = .closing) → (s.entry m).keys % 16 = 0 → s.lib.freeList = [] →
      (s.port = { KeyPort.idle with waitRecorder := some (.recorderWrite m k) } →
        let t := arbitrate 5 s
        t.recorder = idle ∧ t.port = KeyPort.idle ∧ t.lib.keyStore = s.lib.keyStore ∧
        (2 ≤ (s.entry m).keys →
          t.entry m = { s.entry m with
            state := .ready, writer := none, flags := { (s.entry m).flags with storeFull := true } } ∧
          tells t .storeFull .ready (s.entry m).keys (s.entry m).endTime) ∧
        ((s.entry m).keys = 0 → t.entry m = Entry.blank ∧ tells t .storeFull .empty 0 (s.entry m).endTime)) ∧
      (∀ (m2 : MoveIx) (index b slot : Nat), 2 ≤ (s.entry m).keys →
        s.port = { KeyPort.idle with
          waitRecorder := some (.recorderWrite m k), waitConsole := some (.consoleRead m2 index b slot) } →
        (arbitrate 5 s).recorder = idle ∧ (arbitrate 5 s).port = { KeyPort.idle with
          serving := some { access := .consoleRead m2 index b slot, wanted := true, released := false } })) ∧
    (∀ (m2 : MoveIx) (k2 : Key) (v : Via) (left : List Key) (n : Nat) (check : KeyCheck) (w r : Bool),
      s.recorder.state = .closing → s.recorder.fifo = [k] → (s.entry m).keys = 0 → (s.chain (s.entry m)).Nodup →
      s.lib.freeList = [] → m2 ≠ m → (s.entry m2).keys % 16 = 0 →
      s.txn = some { via := v, move := m2, work := .put left n } →
      s.port = { KeyPort.idle with
        serving := some { access := .recorderWrite m k, wanted := w, released := r },
        waitConsole := some (.consoleWrite m2 k2) } →
      ∃ t : State, exec (.keyAccessComplete check) s = happened t ∧
        t.txn = none ∧ t.port = KeyPort.idle ∧ t.link = (readyReply v (u8 Result.storeFull.code ++ u8 n) s).link ∧
        t.recorder = idle ∧ t.entry m = Entry.blank ∧ t.entry m2 = s.entry m2 ∧
        t.lib.freeList = (s.chain (s.entry m)).filter fun b => !(s.block b).suspect)

/-! ### The Cue Sequencer and the trigger table -/

/-- PUT_CUE, READ_CUE, GET_CUE, CUE_START, CUE_STOP, PUT_TRIGGER and GET_TRIGGERS (R156 to R159, R168). Which step of a PUT_CUE fails
is told by the model's reading of the steps, which takes filler bytes that are not zero (log 14). That PUT_CUE keeps the cue
record also where a loop counter stands at a step it replaces is the model's choice beside R155 (log 43). -/
def Obligations.CueRequestsComplete : Prop :=
  ∀ s : State, s.delivers = true →
    (∀ (first : Nat) (steps : List WireStep) (cs : List CueStep), 1 ≤ steps.length → steps.length ≤ 8 →
      first + steps.length ≤ 48 → (s.cue.state = .idle ∨ s.cue.state = .halted ∨ s.cue.state = .done) →
      stepsOf? steps = .ok cs →
      ∃ t : State, exec (.putCue first steps) s = delivered (.putCue first steps) s t { code := .ok, fields := [0#8, 0#8] } ∧
        t = { s with cueList := t.cueList } ∧ cs.length = steps.length ∧
        ∀ i : Fin 48, t.cueList[i] =
          if first ≤ i.val ∧ i.val < first + cs.length then cs.getD (i.val - first) .finish else s.cueList[i]) ∧
    (∀ (first : Nat) (steps : List WireStep), 1 ≤ steps.length → steps.length ≤ 8 →
      (48 < first + steps.length → exec (.putCue first steps) s =
        delivered (.putCue first steps) s s { code := .badValue, fields := [0#8, 0#8] }) ∧
      (first + steps.length ≤ 48 → (s.cue.state = .running ∨ s.cue.state = .waiting) → exec (.putCue first steps) s =
        delivered (.putCue first steps) s s { code := .busy, fields := [0#8, 0#8] }) ∧
      (∀ n : Nat, first + steps.length ≤ 48 → s.cue.atRest = true → stepsOf? steps = .error n →
        exec (.putCue first steps) s =
          delivered (.putCue first steps) s s { code := .badValue, fields := u8 1 ++ u8 (first + n) })) ∧
    (∀ first count : Nat, 1 ≤ count → count ≤ 8 → first + count ≤ 48 → exec (.readCue first count) s =
      told (.readCue first count) s (encList encStep ((s.cueList.toList.drop first).take count))) ∧
    (∀ first count : Nat, (count = 0 ∨ 8 < count ∨ 48 < first + count) →
      exec (.readCue first count) s = turnedAway (.readCue first count) s .badValue) ∧
    exec .getCue s = told .getCue s (cueFields s.cue) ∧
    (∀ i : Fin 48, (s.cue.state = .idle ∨ s.cue.state = .halted ∨ s.cue.state = .done) →
      exec (.cueStart i.val) s = accepted (.cueStart i.val) s { s with cue := {
        state := .running, current := i, counters := Vector.replicate 48 none, remaining := none, haltCause := none,
        haltCode := none, haltAxis := none, triggerMet := false, pastEnd := false } }) ∧
    (∀ i : Fin 48, (s.cue.state = .running ∨ s.cue.state = .waiting) →
      exec (.cueStart i.val) s = turnedAway (.cueStart i.val) s .busy) ∧
    (∀ n : Nat, 48 ≤ n → exec (.cueStart n) s = turnedAway (.cueStart n) s .badValue) ∧
    exec .cueStop s = accepted .cueStop s { s with cue := {
      state := .idle, current := s.cue.current, counters := Vector.replicate 48 none, remaining := none,
      haltCause := none, haltCode := none, haltAxis := none, triggerMet := false, pastEnd := false } } ∧
    (∀ (e : Fin 8) (code : Nat) (a : TriggerAction), code ≤ 255 → exec (.putTrigger e.val code a.code) s =
      accepted (.putTrigger e.val code a.code) s { s with triggers := s.triggers.set e { code := code, action := a } }) ∧
    (∀ e code a : Nat, (8 ≤ e ∨ 255 < code ∨ 6 ≤ a) →
      exec (.putTrigger e code a) s = turnedAway (.putTrigger e code a) s .badValue) ∧
    exec .getTriggers s = told .getTriggers s (s.triggers.toList.flatMap fun t => u8 t.code ++ u8 t.action.code)

/-- WAIT_FRAMES of n (R160, R162): reached in an execution it makes the cue WAITING with n frames remaining; each of the n − 1
publications after it lowers that by one and leaves everything else; the n-th goes on at the next step. As a command,
WAIT_FRAMES_EXPIRED acts exactly when no frame remains (log 5). -/
def Obligations.WaitFramesIsMetAtItsPublication : Prop :=
  ∀ (s : State) (n : Nat), s.cueStepAt = .waitFrames n → 1 ≤ n →
    (s.cue.state = .running → cueExecute s = { s with cue := { s.cue with state := .waiting, remaining := some n } }) ∧
    (s.cue.state = .waiting → s.cue.remaining = some n →
      (∀ j : Nat, j < n → cuePublication^[j] s = { s with cue := { s.cue with remaining := some (n - j) } }) ∧
      cuePublication^[n] s = cueRun 15 (cueAdvance { s with cue := { s.cue with remaining := some 0 } })) ∧
    (s.power.on = true → s.cue.state = .waiting →
      (s.cue.remaining = some 0 → exec .waitFramesExpired s = happened (cueRun 15 (cueAdvance s))) ∧
      (s.cue.remaining ≠ some 0 → exec .waitFramesExpired s = happened s)) ∧
    (s.cue.current.val < 47 → (cueAdvance s).cue.current.val = s.cue.current.val + 1 ∧ (cueAdvance s).cue.state = .running) ∧
    (s.cue.current.val = 47 → (cueAdvance s).cue.current = s.cue.current ∧ (cueAdvance s).cue.state = .done)

/-- One step executed in RUNNING (R160 to R165). An action step makes the request that the console makes by the command
given, in the state the steps before it left (a RECORD step names its take CUE and the id; an ENDREC that runs before the Recorder
has taken the publication makes it hear that publication first, log 32): OK advances, a refusal halts the cue with its code and
axis and a CUE notice. LOOP counts and jumps; NOTE tells its value and advances; END ends the cue; WAIT_END and WAIT_AT advance
where their condition is met, and wait otherwise; WAIT_AT of an EMPTY mark halts; WAIT_TRIGGER waits.
At a publication a RUNNING cue executes steps until it no longer runs, 16 at most, 15 where it has met a WAIT_TRIGGER since the
last one (R160, R163); a WAITING one tests its wait and goes on; otherwise nothing happens. A CUE_GO meets a WAIT_TRIGGER of its
code, or of code 0, alone: the cue is RUNNING at the next index and executes nothing, and the step met counts as one of the 16 of the
next publication (R163). After a WAIT_TRIGGER at step 47, which no index follows, the cue is RUNNING with its current step left
at 47, and the next publication ends it there as END does (log 21, the model's reading of R160 and R163). -/
def Obligations.CueExecutesItsSteps : Prop :=
  ∀ s : State,
    let halted (c : Result) (ax : Option (Fin 8)) (u : State) : State :=
      raise (.cueHalted u.cue.current c ax) { u with cue := { u.cue with
        state := .halted, haltCause := some .refused, haltCode := some c, haltAxis := ax, remaining := none } }
    let outcome (c : Result) (ax : Option (Fin 8)) (u : State) : State :=
      if c = .ok then cueAdvance u else halted c ax u
    let waiting : State := { s with cue := { s.cue with state := .waiting, remaining := none } }
    (s.delivers = true →
      (∀ (p : PlayerId) (m : MoveIx) (rate : Nat), s.cueStepAt = .load p m rate → ∃ (u : State) (c : Result),
        exec (.load p.code (m.val + 1) rate) s = delivered (.load p.code (m.val + 1) rate) s u (Reply.bare c) ∧
        cueExecute s = outcome c none u) ∧
      (∀ (p : PlayerId) (k : Fin 64) (n : Nat), s.cueStepAt = .goTo p k n → ∃ (u : State) (c : Result),
        exec (.goTo p.code k.val n) s =
          delivered (.goTo p.code k.val n) s u { code := c, fields := u8 (u.player p).state.code } ∧
        cueExecute s = outcome c none u) ∧
      (∀ p : PlayerId, s.cueStepAt = .run p → ∃ (u : State) (c : Result),
        exec (.run p.code) s = delivered (.run p.code) s u { code := c, fields := u8 (u.player p).state.code } ∧
        cueExecute s = outcome c none u) ∧
      (∀ (m : Mask) (x : Source) (n : Nat), s.cueStepAt = .fade m x n →
        ∃ (u : State) (c : Result) (ax : Option (Fin 8)),
          exec (.fade m.toNat x.code n) s =
            delivered (.fade m.toNat x.code n) s u { code := c, fields := encOpt 1 (fun i => u8 i.val) ax } ∧
          cueExecute s = outcome c ax u) ∧
      (∀ p : PlayerId, s.cueStepAt = .stopPlay p → ∃ (u : State) (c : Result),
        exec (.stop p.code) s = delivered (.stop p.code) s u { code := c, fields := u8 (u.player p).state.code } ∧
        cueExecute s = outcome c none u) ∧
      (∀ (m : MoveIx) (k : Mask) (d : Nat), s.cueStepAt = .record m k d →
        let digits := if m.val + 1 < 10 then [48 + (m.val + 1)] else [48 + (m.val + 1) / 10, 48 + (m.val + 1) % 10]
        let cmd := Instr.recordStart (m.val + 1) ([67, 85, 69] ++ digits) k.toNat d 0 0
        ∃ (u : State) (c : Result),
          exec cmd s = delivered cmd s u { code := c, fields := u8 u.recorder.state.code } ∧ cueExecute s = outcome c none u) ∧
      (s.cueStepAt = .endRec →
        let heard : State := if s.recorder.state = .recording ∧ s.recorder.awaiting = true then
            { s with recorder := { s.recorder with
              frames := s.recorder.frames.map (· + 1), outs := s.outputSet } }
          else s
        ∃ (u : State) (c : Result), exec .recordStop heard =
            delivered .recordStop heard u { code := c, fields := u8 u.recorder.state.code } ∧
          cueExecute s = outcome c none u)) ∧
    (∀ (target : Fin 48) (count : Nat), s.cueStepAt = .loop target count →
      let n := (s.cue.counters[s.cue.current]).getD count
      (1 < n → cueExecute s = { s with cue := { s.cue with
        counters := s.cue.counters.set s.cue.current (some (n - 1)), current := target } }) ∧
      (n ≤ 1 → cueExecute s = cueAdvance { s with cue := { s.cue with
        counters := s.cue.counters.set s.cue.current none } })) ∧
    (∀ v : Nat, s.cueStepAt = .note v → cueExecute s = cueAdvance (raise (.cueNote s.cue.current v) s)) ∧
    (s.cueStepAt = .finish → cueExecute s =
      raise (.cueDone s.cue.current) { s with cue := { s.cue with state := .done, remaining := none } }) ∧
    (∀ code : Nat, s.cueStepAt = .waitTrigger code →
      cueExecute s = waiting ∧ (s.cue.state = .waiting → cuePublication s = s)) ∧
    (∀ p : PlayerId, s.cueStepAt = .waitEnd p →
      ((s.player p).state = .ended → cueExecute s = cueAdvance s ∧
        (s.cue.state = .waiting → cuePublication s = cueRun 15 (cueAdvance s))) ∧
      ((s.player p).state ≠ .ended → cueExecute s = waiting ∧ (s.cue.state = .waiting → cuePublication s = waiting))) ∧
    (∀ (k : Fin 64) (window : Nat), s.cueStepAt = .waitAt k window →
      (s.marks[k] = none → cueExecute s = halted .notFound none s ∧
        (s.cue.state = .waiting → cuePublication s = halted .notFound none s)) ∧
      (∀ x : MarkData, s.marks[k] = some x →
        let met : Prop := ∀ i : Fin 8, Mask.has x.mask i = true →
          ((s.outputSet[i]).getD 0 - positionFor x.mask x.positions i).natAbs ≤ window
        (met → cueExecute s = cueAdvance s ∧ (s.cue.state = .waiting → cuePublication s = cueRun 15 (cueAdvance s))) ∧
        (¬ met → cueExecute s = waiting ∧ (s.cue.state = .waiting → cuePublication s = waiting)))) ∧
    (s.cue.state = .idle ∨ s.cue.state = .halted ∨ s.cue.state = .done → cuePublication s = s) ∧
    (s.cue.state = .running → s.cue.pastEnd = true → cuePublication s = raise (.cueDone s.cue.current)
      { s with cue := { s.cue with state := .done, remaining := none, triggerMet := false, pastEnd := false } }) ∧
    (s.cue.state = .running → s.cue.pastEnd = false →
      let most := if s.cue.triggerMet then 15 else 16
      let from0 : State := { s with cue := { s.cue with triggerMet := false } }
      ∃ n : Nat, n ≤ most ∧ cuePublication s = cueExecute^[n] from0 ∧
        (∀ j : Nat, j < n → (cueExecute^[j] from0).cue.state = .running) ∧
        (n = most ∨ (cueExecute^[n] from0).cue.state ≠ .running)) ∧
    (∀ u : State, ∃ n : Nat, n ≤ 15 ∧ cueRun 15 u = cueExecute^[n] u ∧
      (∀ j : Nat, j < n → (cueExecute^[j] u).cue.state = .running) ∧ (n = 15 ∨ (cueExecute^[n] u).cue.state ≠ .running)) ∧
    (∀ code c : Nat, s.cueStepAt = .waitTrigger c →
      (s.cue.state = .waiting → (c = 0 ∨ c = code) →
        (∀ i : Fin 48, i.val = s.cue.current.val + 1 → cueGo code s = { s with
          cue := { s.cue with state := .running, current := i, remaining := none, triggerMet := true } }) ∧
        (s.cue.current.val = 47 → cueGo code s = { s with
          cue := { s.cue with state := .running, remaining := none, triggerMet := true, pastEnd := true } })) ∧
      (s.cue.state ≠ .waiting ∨ (c ≠ 0 ∧ c ≠ code) → cueGo code s = s)) ∧
    ((∀ c : Nat, s.cueStepAt ≠ .waitTrigger c) → ∀ code : Nat, cueGo code s = s)

/-- The trigger table (R169, R170): a button code acts once, by the lowest entry whose action is not NONE and whose code is 0
or the button's, and a code that no entry takes does nothing.
CUE_GO goes to the Cue Sequencer and to the Recorder, where it starts an ARMED take with a RECORD notice of event STARTED and does
nothing in any other state (R143); PAUSE_ALL pauses the RUNNING and STARVED players; RESUME_PLAY runs the
PAUSED players unless an axis is STOPPING or HELD; TAKE_OVER hands back; REPORT raises a BUTTON notice. -/
def Obligations.TriggerTakesTheFirstMatch : Prop :=
  ∀ (s : State) (code : Nat),
    ((∀ e : Fin 8, (s.triggers[e]).action = .none ∨ ((s.triggers[e]).code ≠ 0 ∧ (s.triggers[e]).code ≠ code)) →
      buttonCode s code = s) ∧
    (∀ e : Fin 8, (s.triggers[e]).action ≠ .none → ((s.triggers[e]).code = 0 ∨ (s.triggers[e]).code = code) →
      (∀ j : Fin 8, j < e → (s.triggers[j]).action = .none ∨ ((s.triggers[j]).code ≠ 0 ∧ (s.triggers[j]).code ≠ code)) →
      ((s.triggers[e]).action = .report → buttonCode s code = raise (.button code e) s) ∧
      ((s.triggers[e]).action = .takeOver → buttonCode s code = takeOver s) ∧
      ((s.triggers[e]).action = .pauseAll → ∀ p : PlayerId, (buttonCode s code).player p =
        if (s.player p).state = .running ∨ (s.player p).state = .starved then { s.player p with state := .paused }
        else s.player p) ∧
      ((s.triggers[e]).action = .pauseAll → (buttonCode s code).cue = s.cue ∧ (buttonCode s code).recorder = s.recorder ∧
        (buttonCode s code).axes = s.axes ∧ (buttonCode s code).port = s.port) ∧
      ((s.triggers[e]).action = .resumePlay →
        (∀ i : Fin 8, (s.axis i).state ≠ .stopping ∧ (s.axis i).state ≠ .held) →
        (buttonCode s code).axes = s.axes ∧ (buttonCode s code).cue = s.cue ∧
        ∀ p : PlayerId,
          ((s.player p).state ≠ .paused → (buttonCode s code).player p = s.player p) ∧
          ((s.player p).state = .paused → (buttonCode s code).player p = { s.player p with
            state := if (s.player p).filled = true ∧ (s.player p).endKey = none then .starved else .running,
            outstanding := ((buttonCode s code).player p).outstanding })) ∧
      ((s.triggers[e]).action = .cueGo → (buttonCode s code).cue = (cueGo code s).cue ∧
        (buttonCode s code).recorder =
          (if s.recorder.state = .armed then { s.recorder with state := .recording } else s.recorder) ∧
        (buttonCode s code).playerA = s.playerA ∧ (buttonCode s code).playerB = s.playerB ∧
        (buttonCode s code).axes = s.axes) ∧
      ((s.triggers[e]).action = .resumePlay →
        (∃ i : Fin 8, (s.axis i).state = .stopping ∨ (s.axis i).state = .held) → buttonCode s code = s) ∧
      ((s.triggers[e]).action = .cueGo → s.cue.state ≠ .waiting → s.recorder.state ≠ .armed → buttonCode s code = s) ∧
      ((s.triggers[e]).action = .cueGo → ∀ m : MoveIx, s.recorder.state = .armed → s.recorder.move = some m →
        (buttonCode s code).recorder = { s.recorder with state := .recording } ∧
        (buttonCode s code).noticeSlot .record =
          (s.noticeSlot .record).raised { frame := s.timer.number, detail := .recordStarted m }) ∧
      ((s.triggers[e]).action = .cueGo → s.recorder.state ≠ .armed → (buttonCode s code).recorder = s.recorder ∧
        (buttonCode s code).noticeSlot .record = s.noticeSlot .record))

/-! ### The Notice Unit -/

/-- A raise (R187): its class is pending with the new detail, stamped with the frame number, coalesced if it was pending
already; its enable flag and every other class are kept. The status divider (R192) gives one report at every N-th
publication. -/
def Obligations.RaiseKeepsTheLatestDetail : Prop :=
  ∀ (d : Detail) (s : State),
    ((raise d s).noticeSlot d.cls = { s.noticeSlot d.cls with
      pending := true, coalesced := (s.noticeSlot d.cls).coalesced || (s.noticeSlot d.cls).pending,
      detail := some { frame := s.timer.number, detail := d } }) ∧
    (∀ c : NoticeClass, c ≠ d.cls → (raise d s).noticeSlot c = s.noticeSlot c) ∧
    raise d s = { s with notices := (raise d s).notices } ∧ (raise d s).notices.multi = s.notices.multi ∧
    ∀ (f : State) (n : Nat), s.status.interval = n → s.status.count = 0 →
      (n = 0 → ∀ j : Nat, ((dividerCount f)^[j] s).status = s.status) ∧
      (∀ j : Nat, j < n → ((dividerCount f)^[j] s).status = { s.status with count := j }) ∧
      (1 ≤ n → ((dividerCount f)^[n] s).status.count = 0 ∧ ((dividerCount f)^[n] s).status.held.isSome = true ∧
        ((dividerCount f)^[n] s).status.replaced =
          if s.status.held.isSome then min (s.status.replaced + 1) 255 else s.status.replaced)

/-- The fault log (R190): a fault report locks an UNLOCKED log with its record and raises a FAULT notice; on a LOCKED one it
sets MULTIPLE and adds its kind to the later kinds, with a notice only under multi_notice. While the log is LOCKED its
captured record does not change: a command that finds it LOCKED and leaves it LOCKED leaves the record, and only CLEAR_LOG,
a reset and the loss of power (R194; log 8) unlock it. -/
def Obligations.LockedLogKeepsItsRecord : Prop :=
  (∀ (r : FaultRecord) (s : State),
    (s.log.locked = false → faultReport r s =
      raise (.fault r.kind r.axis r.player true false) { s with log := { s.log with locked := true, record := some r } }) ∧
    (s.log.locked = true → ∃ later : List FaultKind,
      (∀ k : FaultKind, k ∈ later ↔ k = r.kind ∨ k ∈ s.log.later) ∧ later.Nodup ∧
      faultReport r s = (if s.notices.multi then
          raise (.fault r.kind r.axis r.player false true) { s with log := { s.log with multiple := true, later := later } }
        else { s with log := { s.log with multiple := true, later := later } }))) ∧
  ∀ (c : Instr) (s t : State), s.log.locked = true → exec c s = .next t →
    (t.log.locked = true → t.log.record = s.log.record) ∧
    (t.log.locked = false → c = .clearLog ∨ c = .mainPowerLoss ∨ c = .retentionSupplyLoss ∨
      (∃ loop, c = .powerOn loop) ∨ ∃ loop check, c = .transmitDone loop check)
end

