-- ==== Sys2Proof/Laws/State.lean ====
section
/-! SUPPORT. What each named update of the state makes of each field: one lemma per field per update. -/

set_option Elab.async false

namespace Sys2Proof.Machine

variable (s : State)

/-! ### setAxis -/

@[simp] theorem setAxis_power (i : Fin 8) (a : Axis) : (s.setAxis i a).power = s.power := rfl
@[simp] theorem setAxis_stick (i : Fin 8) (a : Axis) : (s.setAxis i a).stick = s.stick := rfl
@[simp] theorem setAxis_timer (i : Fin 8) (a : Axis) : (s.setAxis i a).timer = s.timer := rfl
@[simp] theorem setAxis_geometry (i : Fin 8) (a : Axis) : (s.setAxis i a).geometry = s.geometry := rfl
@[simp] theorem setAxis_axes (i : Fin 8) (a : Axis) : (s.setAxis i a).axes = s.axes.set i a := rfl
@[simp] theorem setAxis_zones (i : Fin 8) (a : Axis) : (s.setAxis i a).zones = s.zones := rfl
@[simp] theorem setAxis_stopLine (i : Fin 8) (a : Axis) : (s.setAxis i a).stopLine = s.stopLine := rfl
@[simp] theorem setAxis_lib (i : Fin 8) (a : Axis) : (s.setAxis i a).lib = s.lib := rfl
@[simp] theorem setAxis_port (i : Fin 8) (a : Axis) : (s.setAxis i a).port = s.port := rfl
@[simp] theorem setAxis_txn (i : Fin 8) (a : Axis) : (s.setAxis i a).txn = s.txn := rfl
@[simp] theorem setAxis_playerA (i : Fin 8) (a : Axis) : (s.setAxis i a).playerA = s.playerA := rfl
@[simp] theorem setAxis_playerB (i : Fin 8) (a : Axis) : (s.setAxis i a).playerB = s.playerB := rfl
@[simp] theorem setAxis_marks (i : Fin 8) (a : Axis) : (s.setAxis i a).marks = s.marks := rfl
@[simp] theorem setAxis_recorder (i : Fin 8) (a : Axis) : (s.setAxis i a).recorder = s.recorder := rfl
@[simp] theorem setAxis_cue (i : Fin 8) (a : Axis) : (s.setAxis i a).cue = s.cue := rfl
@[simp] theorem setAxis_cueList (i : Fin 8) (a : Axis) : (s.setAxis i a).cueList = s.cueList := rfl
@[simp] theorem setAxis_triggers (i : Fin 8) (a : Axis) : (s.setAxis i a).triggers = s.triggers := rfl
@[simp] theorem setAxis_notices (i : Fin 8) (a : Axis) : (s.setAxis i a).notices = s.notices := rfl
@[simp] theorem setAxis_log (i : Fin 8) (a : Axis) : (s.setAxis i a).log = s.log := rfl
@[simp] theorem setAxis_status (i : Fin 8) (a : Axis) : (s.setAxis i a).status = s.status := rfl
@[simp] theorem setAxis_link (i : Fin 8) (a : Axis) : (s.setAxis i a).link = s.link := rfl
@[simp] theorem setAxis_outputSet (i : Fin 8) (a : Axis) : (s.setAxis i a).outputSet = s.outputSet := rfl
@[simp] theorem setAxis_exchanges (i : Fin 8) (a : Axis) : (s.setAxis i a).exchanges = s.exchanges := rfl
@[simp] theorem setAxis_pending (i : Fin 8) (a : Axis) : (s.setAxis i a).pending = s.pending := rfl

/-! ### modAxis -/

@[simp] theorem modAxis_power (i : Fin 8) (f : Axis → Axis) : (s.modAxis i f).power = s.power := rfl
@[simp] theorem modAxis_stick (i : Fin 8) (f : Axis → Axis) : (s.modAxis i f).stick = s.stick := rfl
@[simp] theorem modAxis_timer (i : Fin 8) (f : Axis → Axis) : (s.modAxis i f).timer = s.timer := rfl
@[simp] theorem modAxis_geometry (i : Fin 8) (f : Axis → Axis) : (s.modAxis i f).geometry = s.geometry := rfl
@[simp] theorem modAxis_axes (i : Fin 8) (f : Axis → Axis) : (s.modAxis i f).axes = s.axes.set i (f (s.axis i)) := rfl
@[simp] theorem modAxis_zones (i : Fin 8) (f : Axis → Axis) : (s.modAxis i f).zones = s.zones := rfl
@[simp] theorem modAxis_stopLine (i : Fin 8) (f : Axis → Axis) : (s.modAxis i f).stopLine = s.stopLine := rfl
@[simp] theorem modAxis_lib (i : Fin 8) (f : Axis → Axis) : (s.modAxis i f).lib = s.lib := rfl
@[simp] theorem modAxis_port (i : Fin 8) (f : Axis → Axis) : (s.modAxis i f).port = s.port := rfl
@[simp] theorem modAxis_txn (i : Fin 8) (f : Axis → Axis) : (s.modAxis i f).txn = s.txn := rfl
@[simp] theorem modAxis_playerA (i : Fin 8) (f : Axis → Axis) : (s.modAxis i f).playerA = s.playerA := rfl
@[simp] theorem modAxis_playerB (i : Fin 8) (f : Axis → Axis) : (s.modAxis i f).playerB = s.playerB := rfl
@[simp] theorem modAxis_marks (i : Fin 8) (f : Axis → Axis) : (s.modAxis i f).marks = s.marks := rfl
@[simp] theorem modAxis_recorder (i : Fin 8) (f : Axis → Axis) : (s.modAxis i f).recorder = s.recorder := rfl
@[simp] theorem modAxis_cue (i : Fin 8) (f : Axis → Axis) : (s.modAxis i f).cue = s.cue := rfl
@[simp] theorem modAxis_cueList (i : Fin 8) (f : Axis → Axis) : (s.modAxis i f).cueList = s.cueList := rfl
@[simp] theorem modAxis_triggers (i : Fin 8) (f : Axis → Axis) : (s.modAxis i f).triggers = s.triggers := rfl
@[simp] theorem modAxis_notices (i : Fin 8) (f : Axis → Axis) : (s.modAxis i f).notices = s.notices := rfl
@[simp] theorem modAxis_log (i : Fin 8) (f : Axis → Axis) : (s.modAxis i f).log = s.log := rfl
@[simp] theorem modAxis_status (i : Fin 8) (f : Axis → Axis) : (s.modAxis i f).status = s.status := rfl
@[simp] theorem modAxis_link (i : Fin 8) (f : Axis → Axis) : (s.modAxis i f).link = s.link := rfl
@[simp] theorem modAxis_outputSet (i : Fin 8) (f : Axis → Axis) : (s.modAxis i f).outputSet = s.outputSet := rfl
@[simp] theorem modAxis_exchanges (i : Fin 8) (f : Axis → Axis) : (s.modAxis i f).exchanges = s.exchanges := rfl
@[simp] theorem modAxis_pending (i : Fin 8) (f : Axis → Axis) : (s.modAxis i f).pending = s.pending := rfl

/-! ### mapAxes -/

@[simp] theorem mapAxes_power (f : Fin 8 → Axis → Axis) : (s.mapAxes f).power = s.power := rfl
@[simp] theorem mapAxes_stick (f : Fin 8 → Axis → Axis) : (s.mapAxes f).stick = s.stick := rfl
@[simp] theorem mapAxes_timer (f : Fin 8 → Axis → Axis) : (s.mapAxes f).timer = s.timer := rfl
@[simp] theorem mapAxes_geometry (f : Fin 8 → Axis → Axis) : (s.mapAxes f).geometry = s.geometry := rfl
@[simp] theorem mapAxes_axes (f : Fin 8 → Axis → Axis) : (s.mapAxes f).axes = Vector.ofFn fun i => f i (s.axis i) := rfl
@[simp] theorem mapAxes_zones (f : Fin 8 → Axis → Axis) : (s.mapAxes f).zones = s.zones := rfl
@[simp] theorem mapAxes_stopLine (f : Fin 8 → Axis → Axis) : (s.mapAxes f).stopLine = s.stopLine := rfl
@[simp] theorem mapAxes_lib (f : Fin 8 → Axis → Axis) : (s.mapAxes f).lib = s.lib := rfl
@[simp] theorem mapAxes_port (f : Fin 8 → Axis → Axis) : (s.mapAxes f).port = s.port := rfl
@[simp] theorem mapAxes_txn (f : Fin 8 → Axis → Axis) : (s.mapAxes f).txn = s.txn := rfl
@[simp] theorem mapAxes_playerA (f : Fin 8 → Axis → Axis) : (s.mapAxes f).playerA = s.playerA := rfl
@[simp] theorem mapAxes_playerB (f : Fin 8 → Axis → Axis) : (s.mapAxes f).playerB = s.playerB := rfl
@[simp] theorem mapAxes_marks (f : Fin 8 → Axis → Axis) : (s.mapAxes f).marks = s.marks := rfl
@[simp] theorem mapAxes_recorder (f : Fin 8 → Axis → Axis) : (s.mapAxes f).recorder = s.recorder := rfl
@[simp] theorem mapAxes_cue (f : Fin 8 → Axis → Axis) : (s.mapAxes f).cue = s.cue := rfl
@[simp] theorem mapAxes_cueList (f : Fin 8 → Axis → Axis) : (s.mapAxes f).cueList = s.cueList := rfl
@[simp] theorem mapAxes_triggers (f : Fin 8 → Axis → Axis) : (s.mapAxes f).triggers = s.triggers := rfl
@[simp] theorem mapAxes_notices (f : Fin 8 → Axis → Axis) : (s.mapAxes f).notices = s.notices := rfl
@[simp] theorem mapAxes_log (f : Fin 8 → Axis → Axis) : (s.mapAxes f).log = s.log := rfl
@[simp] theorem mapAxes_status (f : Fin 8 → Axis → Axis) : (s.mapAxes f).status = s.status := rfl
@[simp] theorem mapAxes_link (f : Fin 8 → Axis → Axis) : (s.mapAxes f).link = s.link := rfl
@[simp] theorem mapAxes_outputSet (f : Fin 8 → Axis → Axis) : (s.mapAxes f).outputSet = s.outputSet := rfl
@[simp] theorem mapAxes_exchanges (f : Fin 8 → Axis → Axis) : (s.mapAxes f).exchanges = s.exchanges := rfl
@[simp] theorem mapAxes_pending (f : Fin 8 → Axis → Axis) : (s.mapAxes f).pending = s.pending := rfl

/-! ### setEntry -/

@[simp] theorem setEntry_power (m : MoveIx) (e : Entry) : (s.setEntry m e).power = s.power := rfl
@[simp] theorem setEntry_stick (m : MoveIx) (e : Entry) : (s.setEntry m e).stick = s.stick := rfl
@[simp] theorem setEntry_timer (m : MoveIx) (e : Entry) : (s.setEntry m e).timer = s.timer := rfl
@[simp] theorem setEntry_geometry (m : MoveIx) (e : Entry) : (s.setEntry m e).geometry = s.geometry := rfl
@[simp] theorem setEntry_axes (m : MoveIx) (e : Entry) : (s.setEntry m e).axes = s.axes := rfl
@[simp] theorem setEntry_zones (m : MoveIx) (e : Entry) : (s.setEntry m e).zones = s.zones := rfl
@[simp] theorem setEntry_stopLine (m : MoveIx) (e : Entry) : (s.setEntry m e).stopLine = s.stopLine := rfl
@[simp] theorem setEntry_lib (m : MoveIx) (e : Entry) : (s.setEntry m e).lib = { s.lib with dir := s.lib.dir.set m e } := rfl
@[simp] theorem setEntry_port (m : MoveIx) (e : Entry) : (s.setEntry m e).port = s.port := rfl
@[simp] theorem setEntry_txn (m : MoveIx) (e : Entry) : (s.setEntry m e).txn = s.txn := rfl
@[simp] theorem setEntry_playerA (m : MoveIx) (e : Entry) : (s.setEntry m e).playerA = s.playerA := rfl
@[simp] theorem setEntry_playerB (m : MoveIx) (e : Entry) : (s.setEntry m e).playerB = s.playerB := rfl
@[simp] theorem setEntry_marks (m : MoveIx) (e : Entry) : (s.setEntry m e).marks = s.marks := rfl
@[simp] theorem setEntry_recorder (m : MoveIx) (e : Entry) : (s.setEntry m e).recorder = s.recorder := rfl
@[simp] theorem setEntry_cue (m : MoveIx) (e : Entry) : (s.setEntry m e).cue = s.cue := rfl
@[simp] theorem setEntry_cueList (m : MoveIx) (e : Entry) : (s.setEntry m e).cueList = s.cueList := rfl
@[simp] theorem setEntry_triggers (m : MoveIx) (e : Entry) : (s.setEntry m e).triggers = s.triggers := rfl
@[simp] theorem setEntry_notices (m : MoveIx) (e : Entry) : (s.setEntry m e).notices = s.notices := rfl
@[simp] theorem setEntry_log (m : MoveIx) (e : Entry) : (s.setEntry m e).log = s.log := rfl
@[simp] theorem setEntry_status (m : MoveIx) (e : Entry) : (s.setEntry m e).status = s.status := rfl
@[simp] theorem setEntry_link (m : MoveIx) (e : Entry) : (s.setEntry m e).link = s.link := rfl
@[simp] theorem setEntry_outputSet (m : MoveIx) (e : Entry) : (s.setEntry m e).outputSet = s.outputSet := rfl
@[simp] theorem setEntry_exchanges (m : MoveIx) (e : Entry) : (s.setEntry m e).exchanges = s.exchanges := rfl
@[simp] theorem setEntry_pending (m : MoveIx) (e : Entry) : (s.setEntry m e).pending = s.pending := rfl

/-! ### setBlock -/

@[simp] theorem setBlock_power (b : Nat) (e : BlockEntry) : (s.setBlock b e).power = s.power := rfl
@[simp] theorem setBlock_stick (b : Nat) (e : BlockEntry) : (s.setBlock b e).stick = s.stick := rfl
@[simp] theorem setBlock_timer (b : Nat) (e : BlockEntry) : (s.setBlock b e).timer = s.timer := rfl
@[simp] theorem setBlock_geometry (b : Nat) (e : BlockEntry) : (s.setBlock b e).geometry = s.geometry := rfl
@[simp] theorem setBlock_axes (b : Nat) (e : BlockEntry) : (s.setBlock b e).axes = s.axes := rfl
@[simp] theorem setBlock_zones (b : Nat) (e : BlockEntry) : (s.setBlock b e).zones = s.zones := rfl
@[simp] theorem setBlock_stopLine (b : Nat) (e : BlockEntry) : (s.setBlock b e).stopLine = s.stopLine := rfl
@[simp] theorem setBlock_lib (b : Nat) (e : BlockEntry) : (s.setBlock b e).lib = { s.lib with blockMap := sparseSet BlockEntry.blank b e s.lib.blockMap } := rfl
@[simp] theorem setBlock_port (b : Nat) (e : BlockEntry) : (s.setBlock b e).port = s.port := rfl
@[simp] theorem setBlock_txn (b : Nat) (e : BlockEntry) : (s.setBlock b e).txn = s.txn := rfl
@[simp] theorem setBlock_playerA (b : Nat) (e : BlockEntry) : (s.setBlock b e).playerA = s.playerA := rfl
@[simp] theorem setBlock_playerB (b : Nat) (e : BlockEntry) : (s.setBlock b e).playerB = s.playerB := rfl
@[simp] theorem setBlock_marks (b : Nat) (e : BlockEntry) : (s.setBlock b e).marks = s.marks := rfl
@[simp] theorem setBlock_recorder (b : Nat) (e : BlockEntry) : (s.setBlock b e).recorder = s.recorder := rfl
@[simp] theorem setBlock_cue (b : Nat) (e : BlockEntry) : (s.setBlock b e).cue = s.cue := rfl
@[simp] theorem setBlock_cueList (b : Nat) (e : BlockEntry) : (s.setBlock b e).cueList = s.cueList := rfl
@[simp] theorem setBlock_triggers (b : Nat) (e : BlockEntry) : (s.setBlock b e).triggers = s.triggers := rfl
@[simp] theorem setBlock_notices (b : Nat) (e : BlockEntry) : (s.setBlock b e).notices = s.notices := rfl
@[simp] theorem setBlock_log (b : Nat) (e : BlockEntry) : (s.setBlock b e).log = s.log := rfl
@[simp] theorem setBlock_status (b : Nat) (e : BlockEntry) : (s.setBlock b e).status = s.status := rfl
@[simp] theorem setBlock_link (b : Nat) (e : BlockEntry) : (s.setBlock b e).link = s.link := rfl
@[simp] theorem setBlock_outputSet (b : Nat) (e : BlockEntry) : (s.setBlock b e).outputSet = s.outputSet := rfl
@[simp] theorem setBlock_exchanges (b : Nat) (e : BlockEntry) : (s.setBlock b e).exchanges = s.exchanges := rfl
@[simp] theorem setBlock_pending (b : Nat) (e : BlockEntry) : (s.setBlock b e).pending = s.pending := rfl

/-! ### setSlot -/

@[simp] theorem setSlot_power (b n : Nat) (x : Slot) : (s.setSlot b n x).power = s.power := rfl
@[simp] theorem setSlot_stick (b n : Nat) (x : Slot) : (s.setSlot b n x).stick = s.stick := rfl
@[simp] theorem setSlot_timer (b n : Nat) (x : Slot) : (s.setSlot b n x).timer = s.timer := rfl
@[simp] theorem setSlot_geometry (b n : Nat) (x : Slot) : (s.setSlot b n x).geometry = s.geometry := rfl
@[simp] theorem setSlot_axes (b n : Nat) (x : Slot) : (s.setSlot b n x).axes = s.axes := rfl
@[simp] theorem setSlot_zones (b n : Nat) (x : Slot) : (s.setSlot b n x).zones = s.zones := rfl
@[simp] theorem setSlot_stopLine (b n : Nat) (x : Slot) : (s.setSlot b n x).stopLine = s.stopLine := rfl
@[simp] theorem setSlot_lib (b n : Nat) (x : Slot) : (s.setSlot b n x).lib = { s.lib with keyStore := sparseSet Slot.blank (slotAddr b n) x s.lib.keyStore } := rfl
@[simp] theorem setSlot_port (b n : Nat) (x : Slot) : (s.setSlot b n x).port = s.port := rfl
@[simp] theorem setSlot_txn (b n : Nat) (x : Slot) : (s.setSlot b n x).txn = s.txn := rfl
@[simp] theorem setSlot_playerA (b n : Nat) (x : Slot) : (s.setSlot b n x).playerA = s.playerA := rfl
@[simp] theorem setSlot_playerB (b n : Nat) (x : Slot) : (s.setSlot b n x).playerB = s.playerB := rfl
@[simp] theorem setSlot_marks (b n : Nat) (x : Slot) : (s.setSlot b n x).marks = s.marks := rfl
@[simp] theorem setSlot_recorder (b n : Nat) (x : Slot) : (s.setSlot b n x).recorder = s.recorder := rfl
@[simp] theorem setSlot_cue (b n : Nat) (x : Slot) : (s.setSlot b n x).cue = s.cue := rfl
@[simp] theorem setSlot_cueList (b n : Nat) (x : Slot) : (s.setSlot b n x).cueList = s.cueList := rfl
@[simp] theorem setSlot_triggers (b n : Nat) (x : Slot) : (s.setSlot b n x).triggers = s.triggers := rfl
@[simp] theorem setSlot_notices (b n : Nat) (x : Slot) : (s.setSlot b n x).notices = s.notices := rfl
@[simp] theorem setSlot_log (b n : Nat) (x : Slot) : (s.setSlot b n x).log = s.log := rfl
@[simp] theorem setSlot_status (b n : Nat) (x : Slot) : (s.setSlot b n x).status = s.status := rfl
@[simp] theorem setSlot_link (b n : Nat) (x : Slot) : (s.setSlot b n x).link = s.link := rfl
@[simp] theorem setSlot_outputSet (b n : Nat) (x : Slot) : (s.setSlot b n x).outputSet = s.outputSet := rfl
@[simp] theorem setSlot_exchanges (b n : Nat) (x : Slot) : (s.setSlot b n x).exchanges = s.exchanges := rfl
@[simp] theorem setSlot_pending (b n : Nat) (x : Slot) : (s.setSlot b n x).pending = s.pending := rfl

/-! ### setNoticeSlot -/

@[simp] theorem setNoticeSlot_power (c : NoticeClass) (x : NoticeSlot) : (s.setNoticeSlot c x).power = s.power := rfl
@[simp] theorem setNoticeSlot_stick (c : NoticeClass) (x : NoticeSlot) : (s.setNoticeSlot c x).stick = s.stick := rfl
@[simp] theorem setNoticeSlot_timer (c : NoticeClass) (x : NoticeSlot) : (s.setNoticeSlot c x).timer = s.timer := rfl
@[simp] theorem setNoticeSlot_geometry (c : NoticeClass) (x : NoticeSlot) : (s.setNoticeSlot c x).geometry = s.geometry := rfl
@[simp] theorem setNoticeSlot_axes (c : NoticeClass) (x : NoticeSlot) : (s.setNoticeSlot c x).axes = s.axes := rfl
@[simp] theorem setNoticeSlot_zones (c : NoticeClass) (x : NoticeSlot) : (s.setNoticeSlot c x).zones = s.zones := rfl
@[simp] theorem setNoticeSlot_stopLine (c : NoticeClass) (x : NoticeSlot) : (s.setNoticeSlot c x).stopLine = s.stopLine := rfl
@[simp] theorem setNoticeSlot_lib (c : NoticeClass) (x : NoticeSlot) : (s.setNoticeSlot c x).lib = s.lib := rfl
@[simp] theorem setNoticeSlot_port (c : NoticeClass) (x : NoticeSlot) : (s.setNoticeSlot c x).port = s.port := rfl
@[simp] theorem setNoticeSlot_txn (c : NoticeClass) (x : NoticeSlot) : (s.setNoticeSlot c x).txn = s.txn := rfl
@[simp] theorem setNoticeSlot_playerA (c : NoticeClass) (x : NoticeSlot) : (s.setNoticeSlot c x).playerA = s.playerA := rfl
@[simp] theorem setNoticeSlot_playerB (c : NoticeClass) (x : NoticeSlot) : (s.setNoticeSlot c x).playerB = s.playerB := rfl
@[simp] theorem setNoticeSlot_marks (c : NoticeClass) (x : NoticeSlot) : (s.setNoticeSlot c x).marks = s.marks := rfl
@[simp] theorem setNoticeSlot_recorder (c : NoticeClass) (x : NoticeSlot) : (s.setNoticeSlot c x).recorder = s.recorder := rfl
@[simp] theorem setNoticeSlot_cue (c : NoticeClass) (x : NoticeSlot) : (s.setNoticeSlot c x).cue = s.cue := rfl
@[simp] theorem setNoticeSlot_cueList (c : NoticeClass) (x : NoticeSlot) : (s.setNoticeSlot c x).cueList = s.cueList := rfl
@[simp] theorem setNoticeSlot_triggers (c : NoticeClass) (x : NoticeSlot) : (s.setNoticeSlot c x).triggers = s.triggers := rfl
@[simp] theorem setNoticeSlot_notices (c : NoticeClass) (x : NoticeSlot) : (s.setNoticeSlot c x).notices = { s.notices with slots := s.notices.slots.set c.index x } := rfl
@[simp] theorem setNoticeSlot_log (c : NoticeClass) (x : NoticeSlot) : (s.setNoticeSlot c x).log = s.log := rfl
@[simp] theorem setNoticeSlot_status (c : NoticeClass) (x : NoticeSlot) : (s.setNoticeSlot c x).status = s.status := rfl
@[simp] theorem setNoticeSlot_link (c : NoticeClass) (x : NoticeSlot) : (s.setNoticeSlot c x).link = s.link := rfl
@[simp] theorem setNoticeSlot_outputSet (c : NoticeClass) (x : NoticeSlot) : (s.setNoticeSlot c x).outputSet = s.outputSet := rfl
@[simp] theorem setNoticeSlot_exchanges (c : NoticeClass) (x : NoticeSlot) : (s.setNoticeSlot c x).exchanges = s.exchanges := rfl
@[simp] theorem setNoticeSlot_pending (c : NoticeClass) (x : NoticeSlot) : (s.setNoticeSlot c x).pending = s.pending := rfl

/-! ### setZone -/

@[simp] theorem setZone_power (i : Fin 8) (z : Zone) : (s.setZone i z).power = s.power := rfl
@[simp] theorem setZone_stick (i : Fin 8) (z : Zone) : (s.setZone i z).stick = s.stick := rfl
@[simp] theorem setZone_timer (i : Fin 8) (z : Zone) : (s.setZone i z).timer = s.timer := rfl
@[simp] theorem setZone_geometry (i : Fin 8) (z : Zone) : (s.setZone i z).geometry = s.geometry := rfl
@[simp] theorem setZone_axes (i : Fin 8) (z : Zone) : (s.setZone i z).axes = s.axes := rfl
@[simp] theorem setZone_zones (i : Fin 8) (z : Zone) : (s.setZone i z).zones = s.zones.set i z := rfl
@[simp] theorem setZone_stopLine (i : Fin 8) (z : Zone) : (s.setZone i z).stopLine = s.stopLine := rfl
@[simp] theorem setZone_lib (i : Fin 8) (z : Zone) : (s.setZone i z).lib = s.lib := rfl
@[simp] theorem setZone_port (i : Fin 8) (z : Zone) : (s.setZone i z).port = s.port := rfl
@[simp] theorem setZone_txn (i : Fin 8) (z : Zone) : (s.setZone i z).txn = s.txn := rfl
@[simp] theorem setZone_playerA (i : Fin 8) (z : Zone) : (s.setZone i z).playerA = s.playerA := rfl
@[simp] theorem setZone_playerB (i : Fin 8) (z : Zone) : (s.setZone i z).playerB = s.playerB := rfl
@[simp] theorem setZone_marks (i : Fin 8) (z : Zone) : (s.setZone i z).marks = s.marks := rfl
@[simp] theorem setZone_recorder (i : Fin 8) (z : Zone) : (s.setZone i z).recorder = s.recorder := rfl
@[simp] theorem setZone_cue (i : Fin 8) (z : Zone) : (s.setZone i z).cue = s.cue := rfl
@[simp] theorem setZone_cueList (i : Fin 8) (z : Zone) : (s.setZone i z).cueList = s.cueList := rfl
@[simp] theorem setZone_triggers (i : Fin 8) (z : Zone) : (s.setZone i z).triggers = s.triggers := rfl
@[simp] theorem setZone_notices (i : Fin 8) (z : Zone) : (s.setZone i z).notices = s.notices := rfl
@[simp] theorem setZone_log (i : Fin 8) (z : Zone) : (s.setZone i z).log = s.log := rfl
@[simp] theorem setZone_status (i : Fin 8) (z : Zone) : (s.setZone i z).status = s.status := rfl
@[simp] theorem setZone_link (i : Fin 8) (z : Zone) : (s.setZone i z).link = s.link := rfl
@[simp] theorem setZone_outputSet (i : Fin 8) (z : Zone) : (s.setZone i z).outputSet = s.outputSet := rfl
@[simp] theorem setZone_exchanges (i : Fin 8) (z : Zone) : (s.setZone i z).exchanges = s.exchanges := rfl
@[simp] theorem setZone_pending (i : Fin 8) (z : Zone) : (s.setZone i z).pending = s.pending := rfl

/-! ### setMark -/

@[simp] theorem setMark_power (k : Fin 64) (x : Mark) : (s.setMark k x).power = s.power := rfl
@[simp] theorem setMark_stick (k : Fin 64) (x : Mark) : (s.setMark k x).stick = s.stick := rfl
@[simp] theorem setMark_timer (k : Fin 64) (x : Mark) : (s.setMark k x).timer = s.timer := rfl
@[simp] theorem setMark_geometry (k : Fin 64) (x : Mark) : (s.setMark k x).geometry = s.geometry := rfl
@[simp] theorem setMark_axes (k : Fin 64) (x : Mark) : (s.setMark k x).axes = s.axes := rfl
@[simp] theorem setMark_zones (k : Fin 64) (x : Mark) : (s.setMark k x).zones = s.zones := rfl
@[simp] theorem setMark_stopLine (k : Fin 64) (x : Mark) : (s.setMark k x).stopLine = s.stopLine := rfl
@[simp] theorem setMark_lib (k : Fin 64) (x : Mark) : (s.setMark k x).lib = s.lib := rfl
@[simp] theorem setMark_port (k : Fin 64) (x : Mark) : (s.setMark k x).port = s.port := rfl
@[simp] theorem setMark_txn (k : Fin 64) (x : Mark) : (s.setMark k x).txn = s.txn := rfl
@[simp] theorem setMark_playerA (k : Fin 64) (x : Mark) : (s.setMark k x).playerA = s.playerA := rfl
@[simp] theorem setMark_playerB (k : Fin 64) (x : Mark) : (s.setMark k x).playerB = s.playerB := rfl
@[simp] theorem setMark_marks (k : Fin 64) (x : Mark) : (s.setMark k x).marks = s.marks.set k x := rfl
@[simp] theorem setMark_recorder (k : Fin 64) (x : Mark) : (s.setMark k x).recorder = s.recorder := rfl
@[simp] theorem setMark_cue (k : Fin 64) (x : Mark) : (s.setMark k x).cue = s.cue := rfl
@[simp] theorem setMark_cueList (k : Fin 64) (x : Mark) : (s.setMark k x).cueList = s.cueList := rfl
@[simp] theorem setMark_triggers (k : Fin 64) (x : Mark) : (s.setMark k x).triggers = s.triggers := rfl
@[simp] theorem setMark_notices (k : Fin 64) (x : Mark) : (s.setMark k x).notices = s.notices := rfl
@[simp] theorem setMark_log (k : Fin 64) (x : Mark) : (s.setMark k x).log = s.log := rfl
@[simp] theorem setMark_status (k : Fin 64) (x : Mark) : (s.setMark k x).status = s.status := rfl
@[simp] theorem setMark_link (k : Fin 64) (x : Mark) : (s.setMark k x).link = s.link := rfl
@[simp] theorem setMark_outputSet (k : Fin 64) (x : Mark) : (s.setMark k x).outputSet = s.outputSet := rfl
@[simp] theorem setMark_exchanges (k : Fin 64) (x : Mark) : (s.setMark k x).exchanges = s.exchanges := rfl
@[simp] theorem setMark_pending (k : Fin 64) (x : Mark) : (s.setMark k x).pending = s.pending := rfl

/-! ### setCue -/

@[simp] theorem setCue_power (c : Cue) : (s.setCue c).power = s.power := rfl
@[simp] theorem setCue_stick (c : Cue) : (s.setCue c).stick = s.stick := rfl
@[simp] theorem setCue_timer (c : Cue) : (s.setCue c).timer = s.timer := rfl
@[simp] theorem setCue_geometry (c : Cue) : (s.setCue c).geometry = s.geometry := rfl
@[simp] theorem setCue_axes (c : Cue) : (s.setCue c).axes = s.axes := rfl
@[simp] theorem setCue_zones (c : Cue) : (s.setCue c).zones = s.zones := rfl
@[simp] theorem setCue_stopLine (c : Cue) : (s.setCue c).stopLine = s.stopLine := rfl
@[simp] theorem setCue_lib (c : Cue) : (s.setCue c).lib = s.lib := rfl
@[simp] theorem setCue_port (c : Cue) : (s.setCue c).port = s.port := rfl
@[simp] theorem setCue_txn (c : Cue) : (s.setCue c).txn = s.txn := rfl
@[simp] theorem setCue_playerA (c : Cue) : (s.setCue c).playerA = s.playerA := rfl
@[simp] theorem setCue_playerB (c : Cue) : (s.setCue c).playerB = s.playerB := rfl
@[simp] theorem setCue_marks (c : Cue) : (s.setCue c).marks = s.marks := rfl
@[simp] theorem setCue_recorder (c : Cue) : (s.setCue c).recorder = s.recorder := rfl
@[simp] theorem setCue_cue (c : Cue) : (s.setCue c).cue = c := rfl
@[simp] theorem setCue_cueList (c : Cue) : (s.setCue c).cueList = s.cueList := rfl
@[simp] theorem setCue_triggers (c : Cue) : (s.setCue c).triggers = s.triggers := rfl
@[simp] theorem setCue_notices (c : Cue) : (s.setCue c).notices = s.notices := rfl
@[simp] theorem setCue_log (c : Cue) : (s.setCue c).log = s.log := rfl
@[simp] theorem setCue_status (c : Cue) : (s.setCue c).status = s.status := rfl
@[simp] theorem setCue_link (c : Cue) : (s.setCue c).link = s.link := rfl
@[simp] theorem setCue_outputSet (c : Cue) : (s.setCue c).outputSet = s.outputSet := rfl
@[simp] theorem setCue_exchanges (c : Cue) : (s.setCue c).exchanges = s.exchanges := rfl
@[simp] theorem setCue_pending (c : Cue) : (s.setCue c).pending = s.pending := rfl

/-! ### setPlayer -/

@[simp] theorem setPlayer_power (p : PlayerId) (r : Player) : (s.setPlayer p r).power = s.power := by cases p <;> rfl
@[simp] theorem setPlayer_stick (p : PlayerId) (r : Player) : (s.setPlayer p r).stick = s.stick := by cases p <;> rfl
@[simp] theorem setPlayer_timer (p : PlayerId) (r : Player) : (s.setPlayer p r).timer = s.timer := by cases p <;> rfl
@[simp] theorem setPlayer_geometry (p : PlayerId) (r : Player) : (s.setPlayer p r).geometry = s.geometry := by cases p <;> rfl
@[simp] theorem setPlayer_axes (p : PlayerId) (r : Player) : (s.setPlayer p r).axes = s.axes := by cases p <;> rfl
@[simp] theorem setPlayer_zones (p : PlayerId) (r : Player) : (s.setPlayer p r).zones = s.zones := by cases p <;> rfl
@[simp] theorem setPlayer_stopLine (p : PlayerId) (r : Player) : (s.setPlayer p r).stopLine = s.stopLine := by cases p <;> rfl
@[simp] theorem setPlayer_lib (p : PlayerId) (r : Player) : (s.setPlayer p r).lib = s.lib := by cases p <;> rfl
@[simp] theorem setPlayer_port (p : PlayerId) (r : Player) : (s.setPlayer p r).port = s.port := by cases p <;> rfl
@[simp] theorem setPlayer_txn (p : PlayerId) (r : Player) : (s.setPlayer p r).txn = s.txn := by cases p <;> rfl
@[simp] theorem setPlayer_marks (p : PlayerId) (r : Player) : (s.setPlayer p r).marks = s.marks := by cases p <;> rfl
@[simp] theorem setPlayer_recorder (p : PlayerId) (r : Player) : (s.setPlayer p r).recorder = s.recorder := by cases p <;> rfl
@[simp] theorem setPlayer_cue (p : PlayerId) (r : Player) : (s.setPlayer p r).cue = s.cue := by cases p <;> rfl
@[simp] theorem setPlayer_cueList (p : PlayerId) (r : Player) : (s.setPlayer p r).cueList = s.cueList := by cases p <;> rfl
@[simp] theorem setPlayer_triggers (p : PlayerId) (r : Player) : (s.setPlayer p r).triggers = s.triggers := by cases p <;> rfl
@[simp] theorem setPlayer_notices (p : PlayerId) (r : Player) : (s.setPlayer p r).notices = s.notices := by cases p <;> rfl
@[simp] theorem setPlayer_log (p : PlayerId) (r : Player) : (s.setPlayer p r).log = s.log := by cases p <;> rfl
@[simp] theorem setPlayer_status (p : PlayerId) (r : Player) : (s.setPlayer p r).status = s.status := by cases p <;> rfl
@[simp] theorem setPlayer_link (p : PlayerId) (r : Player) : (s.setPlayer p r).link = s.link := by cases p <;> rfl
@[simp] theorem setPlayer_outputSet (p : PlayerId) (r : Player) : (s.setPlayer p r).outputSet = s.outputSet := by cases p <;> rfl
@[simp] theorem setPlayer_exchanges (p : PlayerId) (r : Player) : (s.setPlayer p r).exchanges = s.exchanges := by cases p <;> rfl
@[simp] theorem setPlayer_pending (p : PlayerId) (r : Player) : (s.setPlayer p r).pending = s.pending := by cases p <;> rfl

/-! ### Reads after updates -/

@[simp] theorem setAxis_axis_same (i : Fin 8) (a : Axis) : (s.setAxis i a).axis i = a := by
  simp [State.axis, State.setAxis]

theorem setAxis_axis_other (i j : Fin 8) (a : Axis) (h : j ≠ i) : (s.setAxis i a).axis j = s.axis j := by
  have h' : i.val ≠ j.val := fun e => h (Fin.ext e.symm)
  simp [State.axis, State.setAxis, Vector.getElem_set_ne, h']

@[simp] theorem mapAxes_axis (f : Fin 8 → Axis → Axis) (i : Fin 8) : (s.mapAxes f).axis i = f i (s.axis i) := by
  simp [State.axis, State.mapAxes]

@[simp] theorem setEntry_entry_same (m : MoveIx) (e : Entry) : (s.setEntry m e).entry m = e := by
  simp [State.entry, State.setEntry]

theorem setEntry_entry_other (m n : MoveIx) (e : Entry) (h : n ≠ m) : (s.setEntry m e).entry n = s.entry n := by
  have h' : m.val ≠ n.val := fun x => h (Fin.ext x.symm)
  simp [State.entry, State.setEntry, Vector.getElem_set_ne, h']

@[simp] theorem setPlayer_player_same (p : PlayerId) (r : Player) : (s.setPlayer p r).player p = r := by cases p <;> rfl

theorem setPlayer_player_other (p q : PlayerId) (r : Player) (h : q ≠ p) : (s.setPlayer p r).player q = s.player q := by
  cases p <;> cases q <;> first | rfl | exact absurd rfl h

@[simp] theorem setNoticeSlot_same (c : NoticeClass) (x : NoticeSlot) : (s.setNoticeSlot c x).noticeSlot c = x := by
  simp [State.noticeSlot, State.setNoticeSlot]

end Sys2Proof.Machine
end

