-- ==== Sys2Proof/Laws/Store.lean ====
section
/-! SUPPORT. The sparse tables that hold the key store and the block map: reads after writes, and the canonical form, which
every write keeps. -/

set_option Elab.async false

namespace Sys2Proof.Machine

variable {β : Type}

/-! ### Addresses above a bound -/

theorem sparseAbove_mono {a b : Nat} (h : a ≤ b) : ∀ {m : List (Nat × β)}, sparseAbove b m = true → sparseAbove a m = true
  | [], _ => rfl
  | (k, _) :: t, hm => by
    simp only [sparseAbove, Bool.and_eq_true, decide_eq_true_eq] at hm ⊢
    exact ⟨by omega, sparseAbove_mono h hm.2⟩

theorem sparseAbove_insert {a i : Nat} {v : β} (h : a < i) :
    ∀ {m : List (Nat × β)}, sparseAbove a m = true → sparseAbove a (sparseInsert i v m) = true
  | [], _ => by simp [sparseInsert, sparseAbove, h]
  | (k, w) :: t, hm => by
    simp only [sparseAbove, Bool.and_eq_true, decide_eq_true_eq] at hm
    unfold sparseInsert
    split
    · simp [sparseAbove, h, hm]
    · split
      · simp [sparseAbove, h, hm]
      · simp [sparseAbove, hm, sparseAbove_insert h hm.2]

theorem sparseAbove_remove {a i : Nat} : ∀ {m : List (Nat × β)}, sparseAbove a m = true → sparseAbove a (sparseRemove i m) = true
  | [], _ => rfl
  | (k, w) :: t, hm => by
    simp only [sparseAbove, Bool.and_eq_true, decide_eq_true_eq] at hm
    unfold sparseRemove
    split
    · exact hm.2
    · simp [sparseAbove, hm, sparseAbove_remove hm.2]

theorem sparseGet_above {d : β} {a i : Nat} (h : i ≤ a) :
    ∀ {m : List (Nat × β)}, sparseAbove a m = true → sparseGet d m i = d
  | [], _ => rfl
  | (k, w) :: t, hm => by
    simp only [sparseAbove, Bool.and_eq_true, decide_eq_true_eq] at hm
    have : i ≠ k := by omega
    simp [sparseGet, this, sparseGet_above h hm.2]

/-! ### Rising addresses -/

theorem sparseRising_insert {i : Nat} {v : β} :
    ∀ {m : List (Nat × β)}, sparseRising m = true → sparseRising (sparseInsert i v m) = true
  | [], _ => rfl
  | (k, w) :: t, hm => by
    simp only [sparseRising, Bool.and_eq_true] at hm
    unfold sparseInsert
    split
    · rename_i h
      simp [sparseRising, sparseAbove, h, hm, sparseAbove_mono (Nat.le_of_lt h) hm.1]
    · split
      · rename_i _ h
        subst h
        simp [sparseRising, hm]
      · have hk : k < i := by omega
        simp [sparseRising, sparseAbove_insert hk hm.1, sparseRising_insert hm.2]

theorem sparseRising_remove {i : Nat} :
    ∀ {m : List (Nat × β)}, sparseRising m = true → sparseRising (sparseRemove i m) = true
  | [], _ => rfl
  | (k, w) :: t, hm => by
    simp only [sparseRising, Bool.and_eq_true] at hm
    unfold sparseRemove
    split
    · exact hm.2
    · simp [sparseRising, sparseAbove_remove hm.1, sparseRising_remove hm.2]

/-! ### No default listed -/

section
variable [DecidableEq β]

theorem sparseNoDefault_insert {d v : β} {i : Nat} (h : v ≠ d) :
    ∀ {m : List (Nat × β)}, sparseNoDefault d m = true → sparseNoDefault d (sparseInsert i v m) = true
  | [], _ => by simp [sparseInsert, sparseNoDefault, h]
  | (k, w) :: t, hm => by
    simp only [sparseNoDefault, Bool.and_eq_true, decide_eq_true_eq] at hm
    unfold sparseInsert
    split
    · simp [sparseNoDefault, h, hm]
    · split
      · simp [sparseNoDefault, h, hm]
      · simp [sparseNoDefault, hm, sparseNoDefault_insert h hm.2]

theorem sparseNoDefault_remove {d : β} {i : Nat} :
    ∀ {m : List (Nat × β)}, sparseNoDefault d m = true → sparseNoDefault d (sparseRemove i m) = true
  | [], _ => rfl
  | (k, w) :: t, hm => by
    simp only [sparseNoDefault, Bool.and_eq_true, decide_eq_true_eq] at hm
    unfold sparseRemove
    split
    · exact hm.2
    · simp [sparseNoDefault, hm, sparseNoDefault_remove hm.2]

/-- A write keeps the canonical form. -/
theorem sparseSet_wf {d v : β} {i : Nat} {m : List (Nat × β)} (h : sparseWf d m = true) : sparseWf d (sparseSet d i v m) = true := by
  simp only [sparseWf, Bool.and_eq_true] at h ⊢
  unfold sparseSet
  split
  · exact ⟨sparseRising_remove h.1, sparseNoDefault_remove h.2⟩
  · rename_i hv
    exact ⟨sparseRising_insert h.1, sparseNoDefault_insert hv h.2⟩

end

/-! ### Reads after writes -/

theorem sparseGet_insert {d v : β} {i j : Nat} :
    ∀ {m : List (Nat × β)}, sparseGet d (sparseInsert i v m) j = if j = i then v else sparseGet d m j
  | [] => rfl
  | (k, w) :: t => by
    unfold sparseInsert
    split
    · rfl
    · split
      · rename_i _ h
        subst h
        by_cases hj : j = i <;> simp [sparseGet, hj]
      · rename_i h1 h2
        by_cases hj : j = k
        · subst hj
          have : j ≠ i := fun e => h2 e.symm
          simp [sparseGet, this]
        · simp [sparseGet, hj, sparseGet_insert]

theorem sparseGet_remove {d : β} {i j : Nat} :
    ∀ {m : List (Nat × β)}, sparseRising m = true → sparseGet d (sparseRemove i m) j = if j = i then d else sparseGet d m j
  | [], _ => by simp [sparseRemove, sparseGet]
  | (k, w) :: t, hm => by
    simp only [sparseRising, Bool.and_eq_true] at hm
    unfold sparseRemove
    split
    · rename_i h
      subst h
      by_cases hj : j = i
      · subst hj
        simp [sparseGet_above (Nat.le_refl _) hm.1]
      · simp [sparseGet, hj]
    · rename_i h
      by_cases hj : j = k
      · subst hj
        have : j ≠ i := fun e => h e.symm
        simp [sparseGet, this]
      · simp [sparseGet, hj, sparseGet_remove hm.2]

/-- A read after a write: the value written at its address, and every other address as before. -/
theorem sparseGet_set [DecidableEq β] {d v : β} {i j : Nat} {m : List (Nat × β)} (h : sparseRising m = true) :
    sparseGet d (sparseSet d i v m) j = if j = i then v else sparseGet d m j := by
  unfold sparseSet
  split
  · rename_i hv
    rw [sparseGet_remove h, hv]
  · exact sparseGet_insert

/-! ### The library's tables -/

theorem Library.wf_iff (l : Library) :
    l.wf = true ↔ sparseWf Slot.blank l.keyStore = true ∧ sparseWf BlockEntry.blank l.blockMap = true := by
  simp [Library.wf]

/-- The canonical form is that of the key store and the block map alone. -/
theorem Library.wf_of_eq {l l' : Library} (hk : l'.keyStore = l.keyStore) (hb : l'.blockMap = l.blockMap) (h : l.wf = true) :
    l'.wf = true := by
  rw [Library.wf_iff] at h ⊢
  rwa [hk, hb]

/-- The reset state's tables are canonical. -/
theorem reset_lib_wf : State.reset.lib.wf = true := rfl

theorem Library.initial_wf : Library.initial.wf = true := rfl

theorem setBlock_lib_wf {s : State} (b : Nat) (e : BlockEntry) (h : s.lib.wf = true) : (s.setBlock b e).lib.wf = true := by
  rw [Library.wf_iff] at h ⊢
  exact ⟨h.1, sparseSet_wf h.2⟩

theorem setSlot_lib_wf {s : State} (b n : Nat) (x : Slot) (h : s.lib.wf = true) : (s.setSlot b n x).lib.wf = true := by
  rw [Library.wf_iff] at h ⊢
  exact ⟨sparseSet_wf h.1, h.2⟩

theorem setEntry_lib_wf {s : State} (m : MoveIx) (e : Entry) (h : s.lib.wf = true) : (s.setEntry m e).lib.wf = true := h

theorem releaseBlock_lib_wf {s : State} (b : Nat) (h : s.lib.wf = true) : (releaseBlock s b).lib.wf = true := by
  unfold releaseBlock
  split
  · exact Library.wf_of_eq (l := (s.setBlock b { cls := .bad, link := none, suspect := true }).lib) rfl rfl
      (setBlock_lib_wf b _ h)
  · exact Library.wf_of_eq (l := (s.setBlock b BlockEntry.blank).lib) rfl rfl (setBlock_lib_wf b _ h)

theorem releaseBlock_foldl_lib_wf (bs : List Nat) : ∀ {s : State}, s.lib.wf = true → (bs.foldl releaseBlock s).lib.wf = true := by
  induction bs with
  | nil => exact fun h => h
  | cons b t ih => exact fun h => ih (releaseBlock_lib_wf b h)

theorem releaseBlocks_lib_wf (m : MoveIx) (bs : List Nat) {s : State} (h : s.lib.wf = true) :
    (releaseBlocks m bs s).lib.wf = true := by
  unfold releaseBlocks
  simp only
  split <;> exact releaseBlock_foldl_lib_wf bs h

theorem appendBlock_lib_wf (m : MoveIx) (b : Nat) {s : State} (h : s.lib.wf = true) : (appendBlock m b s).lib.wf = true := by
  unfold appendBlock
  simp only
  split
  · exact setEntry_lib_wf _ _ (setBlock_lib_wf _ _ (setBlock_lib_wf _ _ h))
  · exact setEntry_lib_wf _ _ (setBlock_lib_wf _ _ h)

theorem storeKey_lib_wf (m : MoveIx) (k : Key) {s : State} (h : s.lib.wf = true) : (storeKey m k s).lib.wf = true := by
  unfold storeKey
  simp only
  split
  · exact setEntry_lib_wf _ _ (setSlot_lib_wf _ _ _ h)
  · exact setEntry_lib_wf _ _ h

end Sys2Proof.Machine
end

