-- ==== Sys2Proof/Laws/Frames.lean ====
section
/-! SUPPORT. What each shared operation leaves unchanged: one lemma per operation, in the form of a relation whose fields are
the equalities of the state's fields. -/

set_option Elab.async false

namespace Sys2Proof.Machine

/-- The states agree on everything but the link, the notices, the status reports and the fault log. -/
structure SameButTraffic (s t : State) : Prop where
  power : t.power = s.power
  stick : t.stick = s.stick
  timer : t.timer = s.timer
  geometry : t.geometry = s.geometry
  axes : t.axes = s.axes
  zones : t.zones = s.zones
  stopLine : t.stopLine = s.stopLine
  lib : t.lib = s.lib
  port : t.port = s.port
  txn : t.txn = s.txn
  playerA : t.playerA = s.playerA
  playerB : t.playerB = s.playerB
  marks : t.marks = s.marks
  recorder : t.recorder = s.recorder
  cue : t.cue = s.cue
  cueList : t.cueList = s.cueList
  triggers : t.triggers = s.triggers
  outputSet : t.outputSet = s.outputSet
  exchanges : t.exchanges = s.exchanges
  pending : t.pending = s.pending

theorem SameButTraffic.refl (s : State) : SameButTraffic s s :=
  ⟨rfl, rfl, rfl, rfl, rfl, rfl, rfl, rfl, rfl, rfl, rfl, rfl, rfl, rfl, rfl, rfl, rfl, rfl, rfl, rfl⟩

theorem SameButTraffic.trans {s t u : State} (h : SameButTraffic s t) (k : SameButTraffic t u) : SameButTraffic s u :=
  ⟨k.power.trans h.power, k.stick.trans h.stick, k.timer.trans h.timer, k.geometry.trans h.geometry, k.axes.trans
    h.axes, k.zones.trans h.zones, k.stopLine.trans h.stopLine, k.lib.trans h.lib, k.port.trans h.port,
    k.txn.trans h.txn, k.playerA.trans h.playerA, k.playerB.trans h.playerB, k.marks.trans h.marks,
    k.recorder.trans h.recorder, k.cue.trans h.cue, k.cueList.trans h.cueList, k.triggers.trans h.triggers,
    k.outputSet.trans h.outputSet, k.exchanges.trans h.exchanges, k.pending.trans h.pending⟩

/-- The states agree on everything but the library, its port and transaction, the Recorder, the link, the notices and the fault log. -/
structure SameButLibrary (s t : State) : Prop where
  power : t.power = s.power
  stick : t.stick = s.stick
  timer : t.timer = s.timer
  geometry : t.geometry = s.geometry
  axes : t.axes = s.axes
  zones : t.zones = s.zones
  stopLine : t.stopLine = s.stopLine
  playerA : t.playerA = s.playerA
  playerB : t.playerB = s.playerB
  marks : t.marks = s.marks
  cue : t.cue = s.cue
  cueList : t.cueList = s.cueList
  triggers : t.triggers = s.triggers
  status : t.status = s.status
  outputSet : t.outputSet = s.outputSet
  exchanges : t.exchanges = s.exchanges
  pending : t.pending = s.pending

theorem SameButLibrary.refl (s : State) : SameButLibrary s s :=
  ⟨rfl, rfl, rfl, rfl, rfl, rfl, rfl, rfl, rfl, rfl, rfl, rfl, rfl, rfl, rfl, rfl, rfl⟩

theorem SameButLibrary.trans {s t u : State} (h : SameButLibrary s t) (k : SameButLibrary t u) : SameButLibrary s u :=
  ⟨k.power.trans h.power, k.stick.trans h.stick, k.timer.trans h.timer, k.geometry.trans h.geometry, k.axes.trans
    h.axes, k.zones.trans h.zones, k.stopLine.trans h.stopLine, k.playerA.trans h.playerA, k.playerB.trans
    h.playerB, k.marks.trans h.marks, k.cue.trans h.cue, k.cueList.trans h.cueList, k.triggers.trans h.triggers,
    k.status.trans h.status, k.outputSet.trans h.outputSet, k.exchanges.trans h.exchanges, k.pending.trans
    h.pending⟩

/-- The states agree on everything but what SameButLibrary names, and the players. -/
structure SameButPlayers (s t : State) : Prop where
  power : t.power = s.power
  stick : t.stick = s.stick
  timer : t.timer = s.timer
  geometry : t.geometry = s.geometry
  axes : t.axes = s.axes
  zones : t.zones = s.zones
  stopLine : t.stopLine = s.stopLine
  marks : t.marks = s.marks
  cue : t.cue = s.cue
  cueList : t.cueList = s.cueList
  triggers : t.triggers = s.triggers
  status : t.status = s.status
  outputSet : t.outputSet = s.outputSet
  exchanges : t.exchanges = s.exchanges
  pending : t.pending = s.pending

theorem SameButPlayers.refl (s : State) : SameButPlayers s s :=
  ⟨rfl, rfl, rfl, rfl, rfl, rfl, rfl, rfl, rfl, rfl, rfl, rfl, rfl, rfl, rfl⟩

theorem SameButPlayers.trans {s t u : State} (h : SameButPlayers s t) (k : SameButPlayers t u) : SameButPlayers s u :=
  ⟨k.power.trans h.power, k.stick.trans h.stick, k.timer.trans h.timer, k.geometry.trans h.geometry, k.axes.trans
    h.axes, k.zones.trans h.zones, k.stopLine.trans h.stopLine, k.marks.trans h.marks, k.cue.trans h.cue,
    k.cueList.trans h.cueList, k.triggers.trans h.triggers, k.status.trans h.status, k.outputSet.trans
    h.outputSet, k.exchanges.trans h.exchanges, k.pending.trans h.pending⟩

/-- The states agree on everything but what SameButPlayers names, and the axes and the cue record. -/
structure SameButMotion (s t : State) : Prop where
  power : t.power = s.power
  stick : t.stick = s.stick
  timer : t.timer = s.timer
  geometry : t.geometry = s.geometry
  zones : t.zones = s.zones
  stopLine : t.stopLine = s.stopLine
  marks : t.marks = s.marks
  cueList : t.cueList = s.cueList
  triggers : t.triggers = s.triggers
  status : t.status = s.status
  outputSet : t.outputSet = s.outputSet
  exchanges : t.exchanges = s.exchanges
  pending : t.pending = s.pending

theorem SameButMotion.refl (s : State) : SameButMotion s s :=
  ⟨rfl, rfl, rfl, rfl, rfl, rfl, rfl, rfl, rfl, rfl, rfl, rfl, rfl⟩

theorem SameButMotion.trans {s t u : State} (h : SameButMotion s t) (k : SameButMotion t u) : SameButMotion s u :=
  ⟨k.power.trans h.power, k.stick.trans h.stick, k.timer.trans h.timer, k.geometry.trans h.geometry,
    k.zones.trans h.zones, k.stopLine.trans h.stopLine, k.marks.trans h.marks, k.cueList.trans h.cueList,
    k.triggers.trans h.triggers, k.status.trans h.status, k.outputSet.trans h.outputSet, k.exchanges.trans
    h.exchanges, k.pending.trans h.pending⟩

/-- The states agree on everything but the Stick Port and the notices. -/
structure SameButStick (s t : State) : Prop where
  power : t.power = s.power
  timer : t.timer = s.timer
  geometry : t.geometry = s.geometry
  axes : t.axes = s.axes
  zones : t.zones = s.zones
  stopLine : t.stopLine = s.stopLine
  lib : t.lib = s.lib
  port : t.port = s.port
  txn : t.txn = s.txn
  playerA : t.playerA = s.playerA
  playerB : t.playerB = s.playerB
  marks : t.marks = s.marks
  recorder : t.recorder = s.recorder
  cue : t.cue = s.cue
  cueList : t.cueList = s.cueList
  triggers : t.triggers = s.triggers
  log : t.log = s.log
  status : t.status = s.status
  link : t.link = s.link
  outputSet : t.outputSet = s.outputSet
  exchanges : t.exchanges = s.exchanges
  pending : t.pending = s.pending

theorem SameButStick.refl (s : State) : SameButStick s s :=
  ⟨rfl, rfl, rfl, rfl, rfl, rfl, rfl, rfl, rfl, rfl, rfl, rfl, rfl, rfl, rfl, rfl, rfl, rfl, rfl, rfl, rfl, rfl⟩

theorem SameButStick.trans {s t u : State} (h : SameButStick s t) (k : SameButStick t u) : SameButStick s u :=
  ⟨k.power.trans h.power, k.timer.trans h.timer, k.geometry.trans h.geometry, k.axes.trans h.axes,
    k.zones.trans h.zones, k.stopLine.trans h.stopLine, k.lib.trans h.lib, k.port.trans h.port,
    k.txn.trans h.txn, k.playerA.trans h.playerA, k.playerB.trans h.playerB, k.marks.trans h.marks,
    k.recorder.trans h.recorder, k.cue.trans h.cue, k.cueList.trans h.cueList, k.triggers.trans h.triggers,
    k.log.trans h.log, k.status.trans h.status, k.link.trans h.link, k.outputSet.trans h.outputSet,
    k.exchanges.trans h.exchanges, k.pending.trans h.pending⟩

/-- The states agree on everything but what SameButPlayers names, and the Stick Port. -/
structure SameButAsked (s t : State) : Prop where
  power : t.power = s.power
  timer : t.timer = s.timer
  geometry : t.geometry = s.geometry
  axes : t.axes = s.axes
  zones : t.zones = s.zones
  stopLine : t.stopLine = s.stopLine
  marks : t.marks = s.marks
  cue : t.cue = s.cue
  cueList : t.cueList = s.cueList
  triggers : t.triggers = s.triggers
  status : t.status = s.status
  outputSet : t.outputSet = s.outputSet
  exchanges : t.exchanges = s.exchanges
  pending : t.pending = s.pending

theorem SameButAsked.refl (s : State) : SameButAsked s s :=
  ⟨rfl, rfl, rfl, rfl, rfl, rfl, rfl, rfl, rfl, rfl, rfl, rfl, rfl, rfl⟩

theorem SameButAsked.trans {s t u : State} (h : SameButAsked s t) (k : SameButAsked t u) : SameButAsked s u :=
  ⟨k.power.trans h.power, k.timer.trans h.timer, k.geometry.trans h.geometry, k.axes.trans h.axes,
    k.zones.trans h.zones, k.stopLine.trans h.stopLine, k.marks.trans h.marks, k.cue.trans h.cue,
    k.cueList.trans h.cueList, k.triggers.trans h.triggers, k.status.trans h.status,
    k.outputSet.trans h.outputSet, k.exchanges.trans h.exchanges, k.pending.trans h.pending⟩

theorem SameButPlayers.sameButAsked {s t : State} (h : SameButPlayers s t) : SameButAsked s t :=
  ⟨h.power, h.timer, h.geometry, h.axes, h.zones, h.stopLine, h.marks, h.cue, h.cueList, h.triggers, h.status,
    h.outputSet, h.exchanges, h.pending⟩

theorem SameButStick.sameButAsked {s t : State} (h : SameButStick s t) : SameButAsked s t :=
  ⟨h.power, h.timer, h.geometry, h.axes, h.zones, h.stopLine, h.marks, h.cue, h.cueList, h.triggers, h.status,
    h.outputSet, h.exchanges, h.pending⟩

theorem SameButLibrary.sameButPlayers {s t : State} (h : SameButLibrary s t) : SameButPlayers s t :=
  ⟨h.power, h.stick, h.timer, h.geometry, h.axes, h.zones, h.stopLine, h.marks, h.cue, h.cueList, h.triggers,
    h.status, h.outputSet, h.exchanges, h.pending⟩

theorem SameButPlayers.sameButMotion {s t : State} (h : SameButPlayers s t) : SameButMotion s t :=
  ⟨h.power, h.stick, h.timer, h.geometry, h.zones, h.stopLine, h.marks, h.cueList, h.triggers, h.status,
    h.outputSet, h.exchanges, h.pending⟩

/-! ### Notices, the fault log, the readiness order and the transmitter -/

theorem raise_traffic (d : Detail) (s : State) : SameButTraffic s (raise d s) := by constructor <;> rfl

theorem raise_library (d : Detail) (s : State) : SameButLibrary s (raise d s) := by constructor <;> rfl

theorem faultReport_traffic (r : FaultRecord) (s : State) : SameButTraffic s (faultReport r s) := by
  unfold faultReport
  simp only
  split
  · split <;> constructor <;> rfl
  · constructor <;> rfl

theorem faultReport_library (r : FaultRecord) (s : State) : SameButLibrary s (faultReport r s) := by
  unfold faultReport
  simp only
  split
  · split <;> constructor <;> rfl
  · constructor <;> rfl

theorem readyReply_library (v : Via) (l : List Byte) (s : State) : SameButLibrary s (readyReply v l s) := by
  cases v <;> constructor <;> rfl

theorem readyReply_traffic (v : Via) (l : List Byte) (s : State) : SameButTraffic s (readyReply v l s) := by
  cases v <;> constructor <;> rfl

theorem holdPlace_traffic (v : Via) (s : State) : SameButTraffic s (holdPlace v s) := by
  cases v <;> constructor <;> rfl

theorem chooseFrame_traffic (s : State) : SameButTraffic s (chooseFrame s) := by
  unfold chooseFrame
  split
  · constructor <;> rfl
  · split
    · constructor <;> rfl
    · split
      · constructor <;> rfl
      · exact SameButTraffic.refl s

theorem pump_traffic (s : State) : SameButTraffic s (pump s) := by
  unfold pump
  split
  · exact SameButTraffic.refl s
  · exact chooseFrame_traffic s

theorem statusDue_traffic (f s : State) : SameButTraffic s (statusDue f s) := by
  unfold statusDue
  split <;> constructor <;> rfl

theorem dividerCount_traffic (f s : State) : SameButTraffic s (dividerCount f s) := by
  unfold dividerCount
  split
  · constructor <;> rfl
  · exact SameButTraffic.trans (by constructor <;> rfl) (statusDue_traffic f _)

/-! ### The Move Library -/

theorem setEntry_library (m : MoveIx) (e : Entry) (s : State) : SameButLibrary s (s.setEntry m e) := by constructor <;> rfl

theorem setBlock_library (b : Nat) (e : BlockEntry) (s : State) : SameButLibrary s (s.setBlock b e) := by constructor <;> rfl

theorem setSlot_library (b n : Nat) (x : Slot) (s : State) : SameButLibrary s (s.setSlot b n x) := by constructor <;> rfl

theorem releaseBlock_library (s : State) (b : Nat) : SameButLibrary s (releaseBlock s b) := by
  unfold releaseBlock
  split <;> constructor <;> rfl

theorem releaseBlock_foldl_library (bs : List Nat) : ∀ s : State, SameButLibrary s (bs.foldl releaseBlock s) := by
  induction bs with
  | nil => exact SameButLibrary.refl
  | cons b t ih => exact fun s => (releaseBlock_library s b).trans (ih _)

theorem releaseBlocks_library (m : MoveIx) (bs : List Nat) (s : State) : SameButLibrary s (releaseBlocks m bs s) := by
  unfold releaseBlocks
  simp only
  split
  · exact releaseBlock_foldl_library bs s
  · exact (releaseBlock_foldl_library bs s).trans (raise_library _ _)

theorem endTxn_library (c : Result) (s : State) : SameButLibrary s (endTxn c s) := by
  unfold endTxn
  split
  · exact SameButLibrary.refl s
  · exact SameButLibrary.trans (by constructor <;> rfl) (readyReply_library _ _ _)

theorem releaseServing_library (m : MoveIx) (s : State) : SameButLibrary s (releaseServing m s) := by
  unfold releaseServing
  split
  · split <;> constructor <;> rfl
  · exact SameButLibrary.refl s

theorem abandonTxn_library (m : MoveIx) (s : State) : SameButLibrary s (abandonTxn m s) := by
  unfold abandonTxn
  split
  · split
    · exact SameButLibrary.trans (by constructor <;> rfl) (endTxn_library _ _)
    · exact SameButLibrary.refl s
  · exact SameButLibrary.refl s

theorem emptyEntry_library (m : MoveIx) (s : State) : SameButLibrary s (emptyEntry m s) :=
  (releaseBlocks_library m _ s).trans
    ((setEntry_library m _ _).trans ((releaseServing_library m _).trans (abandonTxn_library m _)))

theorem closeEntry_library (m : MoveIx) (b : Bool) (s : State) : SameButLibrary s (closeEntry m b s) := by
  unfold closeEntry
  simp only
  split
  · exact setEntry_library _ _ _
  · exact emptyEntry_library m s

theorem closeTake_library (c : CloseCause) (s : State) : SameButLibrary s (closeTake c s) := by
  unfold closeTake
  split
  · exact SameButLibrary.refl s
  · exact (closeEntry_library _ _ s).trans (SameButLibrary.trans (by constructor <;> rfl) (raise_library _ _))

theorem appendBlock_library (m : MoveIx) (b : Nat) (s : State) : SameButLibrary s (appendBlock m b s) := by
  unfold appendBlock
  simp only
  split <;> constructor <;> rfl

theorem allocate_library (m : MoveIx) (s t : State) (h : allocate? m s = some t) : SameButLibrary s t := by
  unfold allocate? at h
  split at h
  · split at h
    · cases h
    · cases h
      exact SameButLibrary.trans (by constructor <;> rfl) (appendBlock_library m _ _)
  · cases h
    exact SameButLibrary.refl s

theorem storeKey_library (m : MoveIx) (k : Key) (s : State) : SameButLibrary s (storeKey m k s) := by
  unfold storeKey
  simp only
  split <;> constructor <;> rfl

theorem serve_library (a : Access) (s : State) : SameButLibrary s (serve a s) := by constructor <;> rfl

theorem grant_library (a : Access) (s : State) : SameButLibrary s (grant a s) := by
  unfold grant
  split
  · exact serve_library _ s
  · exact serve_library _ s
  · split
    · rename_i h
      exact (allocate_library _ _ _ h).trans (serve_library _ _)
    · exact closeTake_library _ s
  · split
    · rename_i h
      exact (allocate_library _ _ _ h).trans (serve_library _ _)
    · exact endTxn_library _ s

theorem arbitrate_library (n : Nat) : ∀ s : State, SameButLibrary s (arbitrate n s) := by
  induction n with
  | zero => exact SameButLibrary.refl
  | succ n ih =>
    intro s
    unfold arbitrate
    split
    · exact SameButLibrary.refl s
    · split
      · exact SameButLibrary.refl s
      · exact SameButLibrary.trans (by constructor <;> rfl) ((grant_library _ _).trans (ih _))

theorem requestPort_library (a : Access) (s : State) : SameButLibrary s (requestPort a s) := by
  unfold requestPort
  split
  · exact SameButLibrary.trans (by constructor <;> rfl) (arbitrate_library 5 _)
  · constructor <;> rfl

theorem consoleStep_library (s : State) : SameButLibrary s (consoleStep s) := by
  unfold consoleStep
  split
  · exact SameButLibrary.refl s
  · split
    · exact endTxn_library _ s
    · split
      · exact requestPort_library _ s
      · exact endTxn_library _ s
    · split
      · exact endTxn_library _ s
      · split
        · exact endTxn_library _ s
        · exact requestPort_library _ s

theorem reportRead_library (m : MoveIx) (i b : Nat) (p : Option PlayerId) (c : KeyCheck) (s : State) :
    SameButLibrary s (reportRead m i b p c s) := by
  unfold reportRead
  split
  · exact SameButLibrary.refl s
  · exact (faultReport_library _ s).trans (raise_library _ _)
  · exact (setEntry_library m _ s).trans
      ((setBlock_library b _ _).trans ((faultReport_library _ _).trans (raise_library _ _)))

theorem finishRead_library (m : MoveIx) (i b n : Nat) (p : Option PlayerId) (c : KeyCheck) (s : State) :
    SameButLibrary s (finishRead m i b n p c s) :=
  (setSlot_library b n _ s).trans (reportRead_library _ _ _ _ _ _)

theorem finishAccess_library (v : Serving) (c : KeyCheck) (s : State) : SameButLibrary s (finishAccess v c s) := by
  unfold finishAccess
  split
  · exact storeKey_library _ _ s
  · exact storeKey_library _ _ s
  · split
    · exact SameButLibrary.refl s
    · exact finishRead_library _ _ _ _ _ _ s
  · split
    · exact SameButLibrary.refl s
    · exact finishRead_library _ _ _ _ _ _ s

theorem recorderWrite_library (s : State) : SameButLibrary s (recorderWrite s) := by
  unfold recorderWrite
  split
  · split
    · exact SameButLibrary.trans (by constructor <;> rfl) (requestPort_library _ _)
    · exact SameButLibrary.refl s
  · exact SameButLibrary.refl s

theorem deliverRecorder_library (s : State) : SameButLibrary s (deliverRecorder s) := by
  constructor <;> rfl

theorem recorderNext_library (s : State) : SameButLibrary s (recorderNext s) := by
  unfold recorderNext
  split
  · exact closeTake_library _ s
  · exact recorderWrite_library s

theorem deliverConsoleWrite_library (s : State) : SameButLibrary s (deliverConsoleWrite s) := by
  unfold deliverConsoleWrite
  split
  · split
    · constructor <;> rfl
    · exact SameButLibrary.refl s
  · exact SameButLibrary.refl s

theorem deliverConsoleRead_library (r : Bool) (c : KeyCheck) (k : Key) (s : State) :
    SameButLibrary s (deliverConsoleRead r c k s) := by
  unfold deliverConsoleRead
  split
  · split
    · split
      · exact endTxn_library _ s
      · split
        · exact endTxn_library _ s
        · constructor <;> rfl
    · exact SameButLibrary.refl s
  · exact SameButLibrary.refl s

/-! ### The Recorder -/

theorem dueKey_library (n : Nat) (s : State) : SameButLibrary s (dueKey n s) := by
  unfold dueKey
  simp only
  split
  · split <;> constructor <;> rfl
  · exact SameButLibrary.refl s

theorem endTake_library (c : CloseCause) (s : State) : SameButLibrary s (endTake c s) := by
  have close : ∀ u : State, SameButLibrary s u →
      SameButLibrary s (recorderNext { u with recorder := { u.recorder with state := .closing, cause := c } }) := fun u h =>
    h.trans (SameButLibrary.trans (by constructor <;> rfl) (recorderNext_library _))
  refine close (if s.recorder.lastQueued = some (s.recorder.frames.getD 0) then s
      else dueKey (s.recorder.frames.getD 0) s) ?_
  split
  · exact SameButLibrary.refl s
  · exact dueKey_library _ s

theorem recorderTimeLimit_library (s : State) : SameButLibrary s (recorderTimeLimit s) := by
  unfold recorderTimeLimit
  split
  · exact endTake_library _ s
  · exact SameButLibrary.refl s

theorem recorderCapture_library (s : State) : SameButLibrary s (recorderCapture s) := by
  unfold recorderCapture
  simp only
  split
  · split
    · exact SameButLibrary.trans (by constructor <;> rfl) ((dueKey_library _ _).trans (recorderWrite_library _))
    · constructor <;> rfl
  · exact SameButLibrary.refl s

theorem recorderTakes_library (s : State) : SameButLibrary s (recorderTakes s) := by constructor <;> rfl

theorem recorderPublication_library (s : State) : SameButLibrary s (recorderPublication s) :=
  (recorderTakes_library s).trans ((recorderCapture_library _).trans (recorderTimeLimit_library _))

theorem recorderGo_library (s : State) : SameButLibrary s (recorderGo s) := by
  unfold recorderGo
  simp only
  split
  · split
    · exact SameButLibrary.trans (by constructor <;> rfl) (raise_library _ _)
    · constructor <;> rfl
  · exact SameButLibrary.refl s

theorem abortTake_library (s : State) : SameButLibrary s (abortTake s) := by
  unfold abortTake
  split
  · exact (emptyEntry_library _ s).trans (by constructor <;> rfl)
  · constructor <;> rfl

theorem recordStartRequest_library (id : Nat) (name : List Nat) (mask d sh tr : Nat) (s : State) :
    SameButLibrary s (recordStartRequest id name mask d sh tr s).1 := by
  unfold recordStartRequest
  split
  · split
    · exact SameButLibrary.refl s
    · split
      · exact SameButLibrary.refl s
      · split
        · exact SameButLibrary.refl s
        · constructor <;> rfl
  · exact SameButLibrary.refl s

theorem recordStopRequest_library (s : State) : SameButLibrary s (recordStopRequest s).1 := by
  unfold recordStopRequest
  split
  · exact SameButLibrary.refl s
  · exact abortTake_library s
  · split
    · exact abortTake_library s
    · exact endTake_library _ s
  · exact SameButLibrary.refl s

theorem recorderHears_library (s : State) : SameButLibrary s (recorderHears s) := by
  unfold recorderHears
  split
  · constructor <;> rfl
  · exact SameButLibrary.refl s

theorem endRecRequest_library (s : State) : SameButLibrary s (endRecRequest s).1 :=
  (recorderHears_library s).trans (recordStopRequest_library _)

/-! ### The players -/

theorem setPlayer_players (p : PlayerId) (r : Player) (s : State) : SameButPlayers s (s.setPlayer p r) := by
  cases p <;> constructor <;> rfl

theorem playerNotice_library (p : PlayerId) (s : State) : SameButLibrary s (playerNotice p s) := raise_library _ s

theorem fetchIfRoom_players (p : PlayerId) (s : State) : SameButPlayers s (fetchIfRoom p s) := by
  unfold fetchIfRoom
  simp only
  split
  · split
    · exact (setPlayer_players p _ s).trans (requestPort_library _ _).sameButPlayers
    · exact SameButPlayers.refl s
  · exact SameButPlayers.refl s

theorem becomeIdle_players (p : PlayerId) (s : State) : SameButPlayers s (becomeIdle p s) := by
  have k : ∀ u : State, SameButPlayers u ({ u with port := (u.port.withdraw p).disown p }.setPlayer p (s.player p).toIdle) :=
    fun u => SameButPlayers.trans (t := { u with port := (u.port.withdraw p).disown p }) (by constructor <;> rfl)
      (setPlayer_players p _ _)
  unfold becomeIdle
  simp only
  split
  · exact (setEntry_library _ _ s).sameButPlayers.trans (k _)
  · exact k s

theorem refClear_players (p : PlayerId) (s : State) : SameButPlayers s (refClear p s) := by
  unfold refClear
  split
  · exact becomeIdle_players p s
  · exact SameButPlayers.refl s

theorem clearIfGone_players (p : PlayerId) (n : Nat) (s : State) : SameButPlayers s (clearIfGone p n s) := by
  unfold clearIfGone
  split
  · exact refClear_players p s
  · exact SameButPlayers.refl s

theorem withClears_players (s t : State) : SameButPlayers t (withClears s t) :=
  (clearIfGone_players .a _ t).trans (clearIfGone_players .b _ _)

@[simp] theorem withClears_axes (s t : State) : (withClears s t).axes = t.axes := (withClears_players s t).axes

theorem positionRequest_players (p : PlayerId) (s : State) : SameButPlayers s (positionRequest p s) := by
  unfold positionRequest
  split
  · unfold runningRequest
    simp only
    split
    · refine SameButPlayers.trans ?_ (fetchIfRoom_players p _)
      split
      · exact setPlayer_players p _ s
      · exact (setPlayer_players p _ s).trans (playerNotice_library p _).sameButPlayers
    · exact setPlayer_players p _ s
  · exact SameButPlayers.refl s

/-! ### The Stick Port while an output frame is in progress -/

theorem staleExpire_stick (s : State) : SameButStick s (staleExpire s) := by
  unfold staleExpire
  split
  · constructor <;> rfl
  · exact SameButStick.refl s

theorem portArrival_stick (seq : Nat) (samples : List Int) (codes : List Nat) (s : State) :
    SameButStick s (portArrival seq samples codes s).1 := by
  unfold portArrival
  simp only
  split <;> constructor <;> rfl

theorem portComplete_stick (seq : Nat) (samples : List Int) (codes : List Nat) (check : Nat) (s : State) :
    SameButStick s (portComplete seq samples codes check s).1 := by
  unfold portComplete
  split
  · exact portArrival_stick _ _ _ s
  · exact SameButStick.refl s

theorem portFrame_stick (seq : Nat) (samples : List Int) (codes : List Nat) (check : Nat) (s : State) :
    SameButStick s (portFrame seq samples codes check s).1 := by
  unfold portFrame
  split
  · exact SameButStick.trans (by constructor <;> rfl) (portComplete_stick _ _ _ _ _)
  · constructor <;> rfl

theorem stickEvent_stick (e : StickEvent) (s : State) : SameButStick s (stickEvent e s).1 := by
  cases e with
  | frame => exact portFrame_stick _ _ _ _ s
  | expiry => exact staleExpire_stick s

theorem stickEvents_stick (l : List StickEvent) : ∀ s : State, SameButStick s (stickEvents l s).1 := by
  induction l with
  | nil => exact SameButStick.refl
  | cons e t ih => exact fun s => (stickEvent_stick e s).trans (ih _)

/-! ### Key accesses while an output frame is in progress -/

theorem discardOutcome_players (p : PlayerId) (s : State) : SameButPlayers s (discardOutcome p s) := setPlayer_players p _ s

theorem deliverFetch_players (p : PlayerId) (i : Nat) (r : Bool) (c : KeyCheck) (k : Key) (n : Option (Nat × Nat)) (s : State) :
    SameButPlayers s (deliverFetch true p i r c k n s) := by
  unfold deliverFetch
  split
  · exact discardOutcome_players p s
  · split <;> exact setPlayer_players p _ s

theorem deliverOutcome_players (v : Serving) (c : KeyCheck) (s : State) : SameButPlayers s (deliverOutcome true v c s) := by
  unfold deliverOutcome
  split
  · split
    · exact deliverFetch_players _ _ _ _ _ _ s
    · exact SameButPlayers.refl s
  · exact (deliverRecorder_library s).sameButPlayers
  · exact (deliverConsoleWrite_library s).sameButPlayers
  · exact (deliverConsoleRead_library _ _ _ s).sameButPlayers

theorem nextRequest_players (a : Access) (s : State) : SameButPlayers s (nextRequest a s) := by
  unfold nextRequest
  split
  · exact fetchIfRoom_players _ s
  · exact (recorderNext_library s).sameButPlayers
  · exact (consoleStep_library s).sameButPlayers
  · exact (consoleStep_library s).sameButPlayers

theorem freePort_library (s : State) : SameButLibrary s (freePort s) :=
  SameButLibrary.trans (by constructor <;> rfl) (arbitrate_library 5 _)

theorem frameAccess_players (c : KeyCheck) (s : State) : SameButPlayers s (completeAccess true c s) := by
  unfold completeAccess
  split
  · exact SameButPlayers.refl s
  · exact (finishAccess_library _ c s).sameButPlayers.trans ((deliverOutcome_players _ c _).trans
      ((freePort_library _).sameButPlayers.trans (nextRequest_players _ _)))

theorem frameAccesses_players (l : List KeyCheck) : ∀ s : State, SameButPlayers s (frameAccesses l s) := by
  induction l with
  | nil => exact SameButPlayers.refl
  | cons c t ih => exact fun s => (frameAccess_players c s).trans (ih _)

/-- With nothing at the Stick Port meanwhile, stage 2 leaves everything but the players and what their fetches reach. -/
theorem askPlayers_players (o : PlayerOrder) (s : State) : SameButPlayers s (askPlayers { order := o } s).1 :=
  (positionRequest_players (firstAsked o) s).trans (positionRequest_players (secondAsked o) _)

theorem askPlayers_asked (t : PlayerTurns) (s : State) : SameButAsked s (askPlayers t s).1 :=
  (frameAccesses_players t.accesses s).sameButAsked.trans ((positionRequest_players (firstAsked t.order) _).sameButAsked.trans
    ((frameAccesses_players t.midAccesses _).sameButAsked.trans ((stickEvents_stick t.mid _).sameButAsked.trans
      ((positionRequest_players (secondAsked t.order) _).sameButAsked.trans
        ((frameAccesses_players t.lateAccesses _).sameButAsked.trans (stickEvents_stick t.late _).sameButAsked)))))

theorem runEffect_players (p : PlayerId) (s : State) : SameButPlayers s (runEffect p s) := by
  unfold runEffect
  simp only
  split
  · exact (setPlayer_players p _ s).trans (fetchIfRoom_players p _)
  · exact fetchIfRoom_players p s

theorem pauseEffect_players (p : PlayerId) (s : State) : SameButPlayers s (pauseEffect p s) := by
  unfold pauseEffect
  simp only
  split
  · exact setPlayer_players p _ s
  · exact SameButPlayers.refl s

theorem pausePlayers_players (s : State) : SameButPlayers s (pausePlayers s) :=
  (pauseEffect_players .a s).trans (pauseEffect_players .b _)

theorem loadRequest_players (c id r : Nat) (s : State) : SameButPlayers s (loadRequest c id r s).1 := by
  unfold loadRequest
  split
  · split
    · exact SameButPlayers.refl s
    · split
      · exact SameButPlayers.refl s
      · split
        · exact SameButPlayers.refl s
        · exact (setEntry_library _ _ s).sameButPlayers.trans ((setPlayer_players _ _ _).trans (fetchIfRoom_players _ _))
  · exact SameButPlayers.refl s

theorem runRequest_players (c : Nat) (s : State) : SameButPlayers s (runRequest c s).1 := by
  unfold runRequest
  split
  · exact SameButPlayers.refl s
  · split <;> first | exact runEffect_players _ s | exact SameButPlayers.refl s

theorem pauseRequest_players (c : Nat) (s : State) : SameButPlayers s (pauseRequest c s).1 := by
  unfold pauseRequest
  split
  · exact SameButPlayers.refl s
  · split <;> first | exact pauseEffect_players _ s | exact SameButPlayers.refl s

theorem goToRequest_players (c k f : Nat) (s : State) : SameButPlayers s (goToRequest c k f s).1 := by
  unfold goToRequest
  split
  · split
    · exact SameButPlayers.refl s
    · split
      · exact SameButPlayers.refl s
      · split
        · exact SameButPlayers.refl s
        · exact setPlayer_players _ _ s
  · exact SameButPlayers.refl s

/-! ### Changes of axes and of the cue record -/

theorem mapAxes_motion (f : Fin 8 → Axis → Axis) (s : State) : SameButMotion s (s.mapAxes f) := by constructor <;> rfl

theorem setAxis_motion (i : Fin 8) (a : Axis) (s : State) : SameButMotion s (s.setAxis i a) := by constructor <;> rfl

theorem setCue_motion (c : Cue) (s : State) : SameButMotion s (s.setCue c) := by constructor <;> rfl

theorem handBackWhere_motion (p : Blend → Bool) (s : State) : SameButMotion s (handBackWhere p s) :=
  (mapAxes_motion _ s).trans (withClears_players s _).sameButMotion

theorem dropRequest_motion (p : PlayerId) (s : State) : SameButMotion s (dropRequest p s) :=
  (mapAxes_motion _ s).trans (withClears_players s _).sameButMotion

theorem fadeAxes_motion (m : Mask) (x : Source) (f : Nat) (s : State) : SameButMotion s (fadeAxes m x f s) :=
  (mapAxes_motion _ s).trans (withClears_players s _).sameButMotion

theorem fadeRequest_motion (m t l : Nat) (s : State) : SameButMotion s (fadeRequest m t l s).1 := by
  unfold fadeRequest
  split
  · split
    · exact SameButMotion.refl s
    · split
      · exact SameButMotion.refl s
      · exact fadeAxes_motion _ _ _ s
  · exact SameButMotion.refl s

theorem enterReleasing_players (p : PlayerId) (s : State) : SameButPlayers s (enterReleasing p s) := by
  unfold enterReleasing
  exact SameButPlayers.trans (by constructor <;> rfl) (setPlayer_players p _ _)

theorem releaseRequest_motion (p : PlayerId) (s : State) : SameButMotion s (releaseRequest p s) :=
  handBackWhere_motion _ s

theorem playerFault_motion (p : PlayerId) (i : Nat) (s : State) : SameButMotion s (playerFault p i s) := by
  unfold playerFault
  exact (setPlayer_players p _ s).sameButMotion.trans ((releaseRequest_motion p _).trans
    (playerNotice_library p _).sameButPlayers.sameButMotion)

theorem takeArrived_motion (p : PlayerId) (s : State) : SameButMotion s (takeArrived p s) := by
  unfold takeArrived
  split
  · exact SameButMotion.refl s
  · simp only
    split
    · exact (setPlayer_players p _ s).sameButMotion.trans (playerFault_motion p _ _)
    · exact ((setPlayer_players p _ s).trans (discardOutcome_players p _)).sameButMotion

theorem takeFaults_motion (o : PlayerOrder) (s : State) : SameButMotion s (takeFaults o s) :=
  (takeArrived_motion _ s).trans (takeArrived_motion _ _)

theorem idleIfUnreferenced_players (p : PlayerId) (s : State) : SameButPlayers s (idleIfUnreferenced p s) := by
  unfold idleIfUnreferenced
  split
  · exact becomeIdle_players _ _
  · exact SameButPlayers.refl _

theorem stopRequest_motion (c : Nat) (s : State) : SameButMotion s (stopRequest c s).1 := by
  unfold stopRequest
  split
  · exact SameButMotion.refl s
  · split
    · exact SameButMotion.refl s
    · exact SameButMotion.refl s
    · exact (dropRequest_motion _ s).trans (becomeIdle_players _ _).sameButMotion
    all_goals
      exact (enterReleasing_players _ s).sameButMotion.trans ((releaseRequest_motion _ _).trans
        (idleIfUnreferenced_players _ _).sameButMotion)

theorem cueStopped_motion (s : State) : SameButMotion s (cueStopped s) := by
  unfold cueStopped
  split
  · exact setCue_motion _ s
  · exact SameButMotion.refl s

theorem cascade_motion (s : State) : SameButMotion s (cascade s) :=
  (mapAxes_motion _ s).trans ((withClears_players s _).sameButMotion.trans
    ((pausePlayers_players _).sameButMotion.trans (cueStopped_motion _)))

theorem cueAdvance_motion (s : State) : SameButMotion s (cueAdvance s) := by
  unfold cueAdvance
  split
  · exact setCue_motion _ s
  · exact (setCue_motion _ s).trans (raise_library _ _).sameButPlayers.sameButMotion

theorem cueMet_motion (s : State) : SameButMotion s (cueMet s) := by
  unfold cueMet
  split <;> exact setCue_motion _ s

theorem cueResult_motion {s : State} {r : State × Result × Option (Fin 8)} (h : SameButMotion s r.1) :
    SameButMotion s (cueResult r) := by
  unfold cueResult
  split
  · exact h.trans (cueAdvance_motion _)
  · exact h.trans ((setCue_motion _ _).trans (raise_library _ _).sameButPlayers.sameButMotion)

theorem cueWait_motion (n : Option Nat) (s : State) : SameButMotion s (cueWait n s) := setCue_motion _ s

theorem cueExecute_motion (s : State) : SameButMotion s (cueExecute s) := by
  unfold cueExecute
  split
  · exact cueResult_motion (r := (_, _, none)) (loadRequest_players _ _ _ s).sameButMotion
  · exact cueResult_motion (r := (_, _, none)) (goToRequest_players _ _ _ s).sameButMotion
  · exact cueResult_motion (r := (_, _, none)) (runRequest_players _ s).sameButMotion
  · exact cueResult_motion (fadeRequest_motion _ _ _ s)
  · exact cueResult_motion (r := (_, _, none)) (stopRequest_motion _ s)
  · exact cueResult_motion (r := (_, _, none)) (recordStartRequest_library _ _ _ _ _ _ s).sameButPlayers.sameButMotion
  · exact cueResult_motion (r := (_, _, none)) (endRecRequest_library s).sameButPlayers.sameButMotion
  · exact cueWait_motion _ s
  · exact cueWait_motion _ s
  · unfold testEnd
    split
    · exact cueAdvance_motion s
    · exact cueWait_motion _ s
  · unfold testAt
    split
    · exact (setCue_motion _ s).trans (raise_library _ _).sameButPlayers.sameButMotion
    · split
      · exact cueAdvance_motion s
      · exact cueWait_motion _ s
  · unfold cueLoop
    simp only
    split
    · exact setCue_motion _ s
    · exact (setCue_motion _ s).trans (cueAdvance_motion _)
  · exact (raise_library _ s).sameButPlayers.sameButMotion.trans (cueAdvance_motion _)
  · exact (setCue_motion _ s).trans (raise_library _ _).sameButPlayers.sameButMotion

theorem cueRun_motion (n : Nat) : ∀ s : State, SameButMotion s (cueRun n s) := by
  induction n with
  | zero => exact SameButMotion.refl
  | succ n ih =>
    intro s
    unfold cueRun
    split
    · exact (cueExecute_motion s).trans (ih _)
    · exact SameButMotion.refl s

end Sys2Proof.Machine
end

