-- ==== Sys2Proof/Laws/Operands.lean ====
section
/-! SUPPORT. The operand checks on the codes of their own values, and the delivery of a request to a part that delivers. -/

set_option Elab.async false

namespace Sys2Proof.Machine

/-! ### The checks accept the codes of their values -/

@[simp] theorem indexOf?_val {n : Nat} (i : Fin n) : indexOf? n i.val = some i := by simp [indexOf?]

theorem indexOf?_none {n x : Nat} (h : n ≤ x) : indexOf? n x = none := by
  simp [indexOf?, Nat.not_lt.mpr h]

theorem indexOf?_some {n x : Nat} {i : Fin n} (h : indexOf? n x = some i) : i.val = x := by
  unfold indexOf? at h
  split at h
  · simp only [Option.some.injEq] at h
    rw [← h]
  · cases h

@[simp] theorem moveOf?_id (m : MoveIx) : moveOf? (m.val + 1) = some m := by simp [moveOf?]

theorem moveOf?_none {n : Nat} (h : n = 0 ∨ 32 < n) : moveOf? n = none := by
  unfold moveOf?
  split
  · rfl
  · exact indexOf?_none (by omega)

@[simp] theorem channelOf?_code (p : PlayerId) : channelOf? p.code = some p := by cases p <;> rfl

theorem channelOf?_none {n : Nat} (h : 2 ≤ n) : channelOf? n = none := by
  match n, h with
  | n + 2, _ => rfl

@[simp] theorem sourceOf?_code (x : Source) : sourceOf? x.code = some x := by cases x <;> rfl

@[simp] theorem shapeOf?_code (x : Shape) : shapeOf? x.code = some x := by cases x <;> rfl

@[simp] theorem actionOf?_code (x : TriggerAction) : actionOf? x.code = some x := by cases x <;> rfl

@[simp] theorem boolOf?_toNat (b : Bool) : boolOf? b.toNat = some b := by cases b <;> rfl

@[simp] theorem maskOf?_toNat {m : Mask} (h : m ≠ 0#8) : maskOf? m.toNat = some m := by
  have : 0 < m.toNat := Nat.pos_of_ne_zero fun e => h (BitVec.eq_of_toNat_eq e)
  simp [maskOf?, this, m.isLt]

@[simp] theorem maskOf?_zero : maskOf? 0 = none := rfl

theorem within_iff {lo hi x : Nat} : within lo hi x = true ↔ lo ≤ x ∧ x ≤ hi := by simp [within]

/-! ### Deliveries -/

theorem delivers_iff (s : State) : s.delivers = true ↔ s.power.on = true ∧ s.link.delivering = true := by
  simp [State.delivers]

/-- A request that its block answers at once, delivered. -/
theorem answered_delivers {i : Instr} {act : State → State × Reply} {s : State} (h : s.delivers = true) :
    answered i act s = delivered i s (act s).1 (act s).2 := by
  simp [answered, request, h, delivered, happened]

/-- A query, delivered. -/
theorem query_delivers {i : Instr} {fields : State → List Byte} {s : State} (h : s.delivers = true) :
    query i fields s = told i s (fields s) := by
  simp [query, answered_delivers h, told]

/-- A part that delivers nothing takes no request. -/
theorem request_idle {i : Instr} {act : Via → State → State × Option Reply} {s : State} (h : s.delivers = false) :
    request i act s = .next s := by
  simp [request, h]

/-- An event of a powered part. -/
theorem event_on {f : State → State} {s : State} (h : s.power.on = true) : event f s = happened (f s) := by
  simp [event, h, happened]

/-- Nothing happens at a part without main power. -/
theorem event_off {f : State → State} {s : State} (h : s.power.on = false) : event f s = .next s := by
  simp [event, h]

end Sys2Proof.Machine
end

