-- ==== Sys2Proof/Laws/PerInstr.lean ====
section
/-! SUPPORT. The family Kind: a request's message kind is one a request frame may carry, 0x01 to 0x7F (R195, R196). -/

set_option Elab.async false

namespace Sys2Proof.Laws

/-- The kind of the command, if it is a request, lies within 0x01 to 0x7F. -/
def Kind.Statement (i : Instr) : Prop := ∀ k, requestKind i = some k → 0 < k ∧ k < 0x80

/-- The statement as a check of one value. -/
theorem Kind.of_check {i : Instr}
    (h : (match requestKind i with | none => true | some k => decide (0 < k) && decide (k < 0x80)) = true) :
    Kind.Statement i := by
  intro k hk
  rw [hk] at h
  simpa using h

theorem Kind.powerOn (loop : LoopCurrent) : Kind.Statement (.powerOn loop) :=
  Kind.of_check rfl

theorem Kind.panelFrame (seq : Nat) (samples : List Int) (codes : List Nat) (check : Nat) : Kind.Statement (.panelFrame seq samples codes check) :=
  Kind.of_check rfl

theorem Kind.panelGapTimeout : Kind.Statement .panelGapTimeout :=
  Kind.of_check rfl

theorem Kind.staleTimeout : Kind.Statement .staleTimeout :=
  Kind.of_check rfl

theorem Kind.outputFrame (order : List Sink) (players : PlayerTurns) :
    Kind.Statement (.outputFrame order players) :=
  Kind.of_check rfl

theorem Kind.fadeComplete (axis : Nat) : Kind.Statement (.fadeComplete axis) :=
  Kind.of_check rfl

theorem Kind.driveSilent (axis : Nat) : Kind.Statement (.driveSilent axis) :=
  Kind.of_check rfl

theorem Kind.recorderTimeLimit : Kind.Statement .recorderTimeLimit :=
  Kind.of_check rfl

theorem Kind.waitFramesExpired : Kind.Statement .waitFramesExpired :=
  Kind.of_check rfl

theorem Kind.statusReportDue : Kind.Statement .statusReportDue :=
  Kind.of_check rfl

theorem Kind.keyAccessComplete (check : KeyCheck) : Kind.Statement (.keyAccessComplete check) :=
  Kind.of_check rfl

theorem Kind.driveReply (address sequence : Nat) (actual : Int) (status code check : Nat) :
    Kind.Statement (.driveReply address sequence actual status code check) :=
  Kind.of_check rfl

theorem Kind.stopLineAssert : Kind.Statement .stopLineAssert :=
  Kind.of_check rfl

theorem Kind.stopLineRelease : Kind.Statement .stopLineRelease :=
  Kind.of_check rfl

theorem Kind.requestFrame (kind tag : Nat) (payload : List Byte) (check : Nat) : Kind.Statement (.requestFrame kind tag payload check) :=
  Kind.of_check rfl

theorem Kind.consoleGapTimeout : Kind.Statement .consoleGapTimeout :=
  Kind.of_check rfl

theorem Kind.transmitDone (loop : LoopCurrent) (check : KeyCheck) : Kind.Statement (.transmitDone loop check) :=
  Kind.of_check rfl

theorem Kind.ident : Kind.Statement .ident :=
  Kind.of_check rfl

theorem Kind.restart : Kind.Statement .restart :=
  Kind.of_check rfl

theorem Kind.setPanel (timeout : Nat) : Kind.Statement (.setPanel timeout) :=
  Kind.of_check rfl

theorem Kind.getPanel : Kind.Statement .getPanel :=
  Kind.of_check rfl

theorem Kind.setFrame (period : Nat) : Kind.Statement (.setFrame period) :=
  Kind.of_check rfl

theorem Kind.getFrame : Kind.Statement .getFrame :=
  Kind.of_check rfl

theorem Kind.fade (mask target len : Nat) : Kind.Statement (.fade mask target len) :=
  Kind.of_check rfl

theorem Kind.takeOver : Kind.Statement .takeOver :=
  Kind.of_check rfl

theorem Kind.getBlend (axis : Nat) : Kind.Statement (.getBlend axis) :=
  Kind.of_check rfl

theorem Kind.setGeometry (rBase rRef rMin releaseFrames : Nat) : Kind.Statement (.setGeometry rBase rRef rMin releaseFrames) :=
  Kind.of_check rfl

theorem Kind.getGeometry : Kind.Statement .getGeometry :=
  Kind.of_check rfl

theorem Kind.setZone (index : Nat) (swing lift reach track : WireBound) : Kind.Statement (.setZone index swing lift reach track) :=
  Kind.of_check rfl

theorem Kind.clearZone (index : Nat) : Kind.Statement (.clearZone index) :=
  Kind.of_check rfl

theorem Kind.zoneOn (index : Nat) : Kind.Statement (.zoneOn index) :=
  Kind.of_check rfl

theorem Kind.zoneOff (index : Nat) : Kind.Statement (.zoneOff index) :=
  Kind.of_check rfl

theorem Kind.getZone (index : Nat) : Kind.Statement (.getZone index) :=
  Kind.of_check rfl

theorem Kind.stopAll : Kind.Statement .stopAll :=
  Kind.of_check rfl

theorem Kind.resumeAll : Kind.Statement .resumeAll :=
  Kind.of_check rfl

theorem Kind.openMove (id : Nat) (name : List Nat) (mask : Nat) : Kind.Statement (.openMove id name mask) :=
  Kind.of_check rfl

theorem Kind.putKeys (id : Nat) (keys : List WireKey) : Kind.Statement (.putKeys id keys) :=
  Kind.of_check rfl

theorem Kind.closeMove (id : Nat) : Kind.Statement (.closeMove id) :=
  Kind.of_check rfl

theorem Kind.readKeys (id first count : Nat) : Kind.Statement (.readKeys id first count) :=
  Kind.of_check rfl

theorem Kind.deleteMove (id : Nat) : Kind.Statement (.deleteMove id) :=
  Kind.of_check rfl

theorem Kind.protectMove (id on : Nat) : Kind.Statement (.protectMove id on) :=
  Kind.of_check rfl

theorem Kind.getMove (id : Nat) : Kind.Statement (.getMove id) :=
  Kind.of_check rfl

theorem Kind.listMoves : Kind.Statement .listMoves :=
  Kind.of_check rfl

theorem Kind.load (channel id rate : Nat) : Kind.Statement (.load channel id rate) :=
  Kind.of_check rfl

theorem Kind.run (channel : Nat) : Kind.Statement (.run channel) :=
  Kind.of_check rfl

theorem Kind.pause (channel : Nat) : Kind.Statement (.pause channel) :=
  Kind.of_check rfl

theorem Kind.stop (channel : Nat) : Kind.Statement (.stop channel) :=
  Kind.of_check rfl

theorem Kind.setRate (channel rate : Nat) (binding : Option (Nat × Nat)) : Kind.Statement (.setRate channel rate binding) :=
  Kind.of_check rfl

theorem Kind.getPlayer (channel : Nat) : Kind.Statement (.getPlayer channel) :=
  Kind.of_check rfl

theorem Kind.setMark (index : Nat) (name : List Nat) (mask : Nat) (positions : List Int) :
    Kind.Statement (.setMark index name mask positions) :=
  Kind.of_check rfl

theorem Kind.storeMark (index : Nat) (name : List Nat) (mask : Nat) : Kind.Statement (.storeMark index name mask) :=
  Kind.of_check rfl

theorem Kind.clearMark (index : Nat) : Kind.Statement (.clearMark index) :=
  Kind.of_check rfl

theorem Kind.getMark (index : Nat) : Kind.Statement (.getMark index) :=
  Kind.of_check rfl

theorem Kind.goTo (channel mark frames : Nat) : Kind.Statement (.goTo channel mark frames) :=
  Kind.of_check rfl

theorem Kind.recordStart (id : Nat) (name : List Nat) (mask decimation shape onTrigger : Nat) :
    Kind.Statement (.recordStart id name mask decimation shape onTrigger) :=
  Kind.of_check rfl

theorem Kind.recordStop : Kind.Statement .recordStop :=
  Kind.of_check rfl

theorem Kind.getRecorder : Kind.Statement .getRecorder :=
  Kind.of_check rfl

theorem Kind.putCue (first : Nat) (steps : List WireStep) : Kind.Statement (.putCue first steps) :=
  Kind.of_check rfl

theorem Kind.readCue (first count : Nat) : Kind.Statement (.readCue first count) :=
  Kind.of_check rfl

theorem Kind.getCue : Kind.Statement .getCue :=
  Kind.of_check rfl

theorem Kind.cueStart (step : Nat) : Kind.Statement (.cueStart step) :=
  Kind.of_check rfl

theorem Kind.cueStop : Kind.Statement .cueStop :=
  Kind.of_check rfl

theorem Kind.putTrigger (index code action : Nat) : Kind.Statement (.putTrigger index code action) :=
  Kind.of_check rfl

theorem Kind.getTriggers : Kind.Statement .getTriggers :=
  Kind.of_check rfl

theorem Kind.setAxis (axis : Nat) (fields : WireAxis) : Kind.Statement (.setAxis axis fields) :=
  Kind.of_check rfl

theorem Kind.releaseAxis (axis : Nat) : Kind.Statement (.releaseAxis axis) :=
  Kind.of_check rfl

theorem Kind.enableAxis (mask : Nat) : Kind.Statement (.enableAxis mask) :=
  Kind.of_check rfl

theorem Kind.disableAxis (mask : Nat) : Kind.Statement (.disableAxis mask) :=
  Kind.of_check rfl

theorem Kind.clearFault (axis : Nat) : Kind.Statement (.clearFault axis) :=
  Kind.of_check rfl

theorem Kind.getAxis (axis : Nat) : Kind.Statement (.getAxis axis) :=
  Kind.of_check rfl

theorem Kind.setNotices (enables multi : Nat) : Kind.Statement (.setNotices enables multi) :=
  Kind.of_check rfl

theorem Kind.getNotices : Kind.Statement .getNotices :=
  Kind.of_check rfl

theorem Kind.readLog : Kind.Statement .readLog :=
  Kind.of_check rfl

theorem Kind.clearLog : Kind.Statement .clearLog :=
  Kind.of_check rfl

theorem Kind.setStatus (interval : Nat) : Kind.Statement (.setStatus interval) :=
  Kind.of_check rfl

theorem Kind.getStatus : Kind.Statement .getStatus :=
  Kind.of_check rfl

theorem Kind.panelByte (byte : Byte) (framingError : Bool) : Kind.Statement (.panelByte byte framingError) :=
  Kind.of_check rfl

theorem Kind.consoleByte (byte : Byte) (framingError : Bool) : Kind.Statement (.consoleByte byte framingError) :=
  Kind.of_check rfl

theorem Kind.mainPowerLoss : Kind.Statement .mainPowerLoss :=
  Kind.of_check rfl

theorem Kind.retentionSupplyLoss : Kind.Statement .retentionSupplyLoss :=
  Kind.of_check rfl

end Sys2Proof.Laws
end

