-- ==== Sys2Proof/WellFormed.lean ====
section
/-! DEFINITION. Well-formed commands: every operand is one that its line can carry (R199, Tables 1-1 and 9-4). Whether a
rule allows the value is the owning block's check, and no part of this. -/

namespace Sys2Proof

/-- A number that fits in `n` bytes. -/
def fits (n x : Nat) : Bool := decide (x < 256 ^ n)

/-- An optional number of `n` bytes: 16777216 stands for a presence byte that is neither 0 nor 1. -/
def optFits (n : Nat) : Option Nat → Bool
  | none => true
  | some x => fits n x || decide (x = 16777216)

/-- A name: at most 255 characters of one byte; one of more than 12 stands for a length byte above 12. -/
def nameFits (name : List Nat) : Bool := decide (name.length ≤ 255) && name.all (fits 1)

/-- A bound of two positions; 1 to 0 stands for a presence byte that is neither 0 nor 1. -/
def boundFits : WireBound → Bool
  | none => true
  | some (lo, hi) => inPosRange lo && inPosRange hi

/-- A key record: time, shape and positions (Table 11-2). -/
def WireKey.fits (k : WireKey) : Bool :=
  Sys2Proof.fits 3 k.time && Sys2Proof.fits 1 k.shape && decide (k.positions.length ≤ 8) && k.positions.all inPosRange

/-- A cue step of five bytes. -/
def WireStep.fits (w : WireStep) : Bool :=
  Sys2Proof.fits 1 w.kind && Sys2Proof.fits 1 w.op0 && Sys2Proof.fits 1 w.op1 && Sys2Proof.fits 1 w.op2 && Sys2Proof.fits 1 w.op3

/-- The fields of SET_AXIS (Note 2 to Table 11-5). -/
def WireAxis.fits (w : WireAxis) : Bool :=
  inPosRange w.softMin && inPosRange w.softMax && Sys2Proof.fits 3 w.band && Sys2Proof.fits 2 w.vmax
    && Sys2Proof.fits 2 w.amax && Sys2Proof.fits 2 w.vstick && optFits 1 w.channel && Sys2Proof.fits 1 w.invert
    && Sys2Proof.fits 2 w.deadband && Sys2Proof.fits 1 w.curve && Sys2Proof.fits 1 w.mode && Sys2Proof.fits 3 w.trimMax
    && Sys2Proof.fits 3 w.feLimit && Sys2Proof.fits 1 w.tipScaled && optFits 1 w.missLimit

/-- A rate binding; channel 256 stands for a presence byte that is neither 0 nor 1. -/
def bindingFits : Option (Nat × Nat) → Bool
  | none => true
  | some (c, span) => decide (c ≤ 256) && fits 2 span

/-- A sample of two bytes. -/
def sampleFits (x : Int) : Bool := decide (-32768 ≤ x) && decide (x ≤ 32767)

/-- The fields of a panel frame (Table 1-1). -/
def panelFits (seq : Nat) (samples : List Int) (codes : List Nat) (check : Nat) : Bool :=
  fits 1 seq && decide (samples.length = 8) && samples.all sampleFits && decide (codes.length ≤ 4) && codes.all (fits 1)
    && fits 1 check

/-- What may come about at the Stick Port during an output frame. -/
def StickEvent.fits : StickEvent → Bool
  | .frame seq samples codes check => panelFits seq samples codes check
  | .expiry => true

/-- The operands are ones that the command's line can carry. -/
def Instr.wf : Instr → Bool
  | .powerOn _ => true
  | .panelFrame seq samples codes check => panelFits seq samples codes check
  | .panelGapTimeout => true
  | .staleTimeout => true
  | .outputFrame order players =>
    decide order.Nodup && players.mid.all StickEvent.fits && players.late.all StickEvent.fits
  | .fadeComplete axis => decide (axis < 8)
  | .driveSilent axis => decide (axis < 8)
  | .recorderTimeLimit => true
  | .waitFramesExpired => true
  | .statusReportDue => true
  | .keyAccessComplete _ => true
  | .driveReply address sequence actual status code check =>
    fits 1 address && fits 1 sequence && inPosRange actual && fits 1 status && fits 1 code && fits 2 check
  | .stopLineAssert => true
  | .stopLineRelease => true
  | .requestFrame kind tag payload check => fits 1 kind && fits 1 tag && decide (payload.length ≤ 255) && fits 2 check
  | .consoleGapTimeout => true
  | .transmitDone _ _ => true
  | .ident => true
  | .restart => true
  | .setPanel timeout => fits 2 timeout
  | .getPanel => true
  | .setFrame period => fits 1 period
  | .getFrame => true
  | .fade mask target len => fits 1 mask && fits 1 target && fits 2 len
  | .takeOver => true
  | .getBlend axis => fits 1 axis
  | .setGeometry rBase rRef rMin releaseFrames => fits 3 rBase && fits 3 rRef && fits 3 rMin && fits 2 releaseFrames
  | .getGeometry => true
  | .setZone index swing lift reach track =>
    fits 1 index && boundFits swing && boundFits lift && boundFits reach && boundFits track
  | .clearZone index => fits 1 index
  | .zoneOn index => fits 1 index
  | .zoneOff index => fits 1 index
  | .getZone index => fits 1 index
  | .stopAll => true
  | .resumeAll => true
  | .openMove id name mask => fits 1 id && nameFits name && fits 1 mask
  | .putKeys id keys => fits 1 id && decide (keys.length ≤ 8) && keys.all WireKey.fits
  | .closeMove id => fits 1 id
  | .readKeys id first count => fits 1 id && fits 2 first && fits 1 count
  | .deleteMove id => fits 1 id
  | .protectMove id on => fits 1 id && fits 1 on
  | .getMove id => fits 1 id
  | .listMoves => true
  | .load channel id rate => fits 1 channel && fits 1 id && fits 2 rate
  | .run channel => fits 1 channel
  | .pause channel => fits 1 channel
  | .stop channel => fits 1 channel
  | .setRate channel rate binding => fits 1 channel && fits 2 rate && bindingFits binding
  | .getPlayer channel => fits 1 channel
  | .setMark index name mask positions =>
    fits 1 index && nameFits name && fits 1 mask && decide (positions.length ≤ 8) && positions.all inPosRange
  | .storeMark index name mask => fits 1 index && nameFits name && fits 1 mask
  | .clearMark index => fits 1 index
  | .getMark index => fits 1 index
  | .goTo channel mark frames => fits 1 channel && fits 1 mark && fits 2 frames
  | .recordStart id name mask decimation shape onTrigger =>
    fits 1 id && nameFits name && fits 1 mask && fits 1 decimation && fits 1 shape && fits 1 onTrigger
  | .recordStop => true
  | .getRecorder => true
  | .putCue first steps => fits 1 first && decide (1 ≤ steps.length) && decide (steps.length ≤ 8) && steps.all WireStep.fits
  | .readCue first count => fits 1 first && fits 1 count
  | .getCue => true
  | .cueStart step => fits 1 step
  | .cueStop => true
  | .putTrigger index code action => fits 1 index && fits 1 code && fits 1 action
  | .getTriggers => true
  | .setAxis axis fields => fits 1 axis && fields.fits
  | .releaseAxis axis => fits 1 axis
  | .enableAxis mask => fits 1 mask
  | .disableAxis mask => fits 1 mask
  | .clearFault axis => fits 1 axis
  | .getAxis axis => fits 1 axis
  | .setNotices enables multi => fits 2 enables && fits 1 multi
  | .getNotices => true
  | .readLog => true
  | .clearLog => true
  | .setStatus interval => fits 2 interval
  | .getStatus => true
  | .panelByte _ _ => true
  | .consoleByte _ _ => true
  | .mainPowerLoss => true
  | .retentionSupplyLoss => true

end Sys2Proof
end

