-- ==== Sys2Proof/Tests/Slice0.lean ====
section
/-! SUPPORT. The author's own checks: an ill-formed term for each check of WellFormed, payloads written out from Table 11-5, single
steps against the manual's worked figures, and for each statement with hypotheses a state and operands that meet them. -/

set_option Elab.async false

namespace Sys2Proof.Tests

open Sys2Proof.Machine

/-! ### Small states -/

/-- A configuration record; the figures are this file's own. -/
def cfg : AxisConfig :=
  { softMin := -1000, softMax := 1000, band := 100, vmax := 50, amax := 5, vstick := 40, channel := some 0,
    invert := false, deadband := 100, curve := .linear, mode := .trim, trimMax := 20, feLimit := 10, tipScaled := false,
    missLimit := 3 }

/-- The same record as SET_AXIS carries it. -/
def wire : WireAxis :=
  { softMin := -1000, softMax := 1000, band := 100, vmax := 50, amax := 5, vstick := 40, channel := some 0,
    invert := 0, deadband := 100, curve := 0, mode := 1, trimMax := 20, feLimit := 10, tipScaled := 0, missLimit := none }

/-- An axis in state `st` that stands at 10, its drive answering OK. -/
def axisIn (st : AxisState) : Axis :=
  { Axis.reset with
    state := st, cfg := some cfg, actual := some 10, drive := some .ok, out := 10,
    blend := { Blend.reset with live := 10, mode := .trim } }

/-- A crane whose SWING is in state `st`. -/
def crane (st : AxisState) : State := State.reset.setAxis 0 (axisIn st)

/-- A player in state `st` that is filled with a go-to move of SWING from 10 to 20 in four frames. -/
def goer (st : PlayerState) : Player :=
  { Player.reset with
    state := st, mark := some 0, mask := some 1#8, keyCount := some 2,
    startKey := some { index := 0, key := { time := 0, shape := .ease, positions := [10] } },
    endKey := some { index := 1, key := { time := 4, shape := .ease, positions := [20] } },
    filled := true, published := some [10] }

/-- A crane with player A in state `st`. -/
def playing (st : PlayerState) : State := (crane .active).setPlayer .a (goer st)

/-- The blend record of SWING, fading from LIVE to PLAY_A at frame `k` of `f`. -/
def fading (k f : Nat) : Blend := { (axisIn .active).blend with toSrc := .playA, k := k, len := some f }

/-- A crane whose SWING has the blend record `b`, with player A RUNNING. -/
def blending (b : Blend) : State := (playing .running).setAxis 0 { axisIn .active with blend := b }

/-- A move of SWING with `n` keys in block 7, written by `w`, in state `st`. -/
def moveOf (st : EntryState) (w : Option Writer) (n : Nat) : Entry :=
  { Entry.blank with
    state := st, name := some [65], mask := some 1#8, keys := n, endTime := some 5, first := some 7, last := some 7,
    writer := w }

/-- A library whose entry 0 is `e`. -/
def holding (e : Entry) : State := State.reset.setEntry 0 e

/-- A Recorder in state `st` with a take of SWING in entry 0. -/
def taking (st : RecState) (frames last : Option Nat) (fifo : List Key) (out : Bool) : State :=
  { holding (moveOf .writing (some .recorder) 2) with
    recorder := { Recorder.reset with
      state := st, move := some 0, mask := some 1#8, frames := frames, lastQueued := last, fifo := fifo,
      outstanding := out } }

/-- A key at time 6. -/
def key6 : Key := { time := 6, shape := .linear, positions := [1] }

/-- A cue record in state `st` at step 0, with `n` frames remaining. -/
def cueIn (st : CueState) (n : Option Nat) : State :=
  { State.reset with cue := { Cue.reset with state := st, remaining := n }, cueList := State.reset.cueList.set 0 (.waitFrames 3) }

/-- A queue place that holds a request in state `st`. -/
def placeOf (slot kind : Nat) (payload : List Byte) (st : PlaceState) : Place :=
  { slot := slot, kind := kind, tag := 9, payload := payload, state := st }

/-- A link with these places and replies. -/
def linked (places : List Place) (ready : List Ready) : State :=
  { State.reset with link := { Link.reset with places := places, ready := ready } }

/-- A part without main power. -/
def dark (loss : Bool) : State := { State.reset with power := { on := false, monitorLoss := loss, retentionLost := false } }

/-- A library whose block 0 holds a READY move of SWING with keys at times 0 and 4: in a part without main power; in a powered
one, player A streaming the move with the fetch of key 1 at the port; and the same with a RESTART's reply on the wire. -/
def stored (v : Fin 3) : State :=
  let s := State.reset.setEntry 0 { Entry.blank with
    state := .ready, name := some [65], mask := some 1#8, keys := 2, endTime := some 4, first := some 0, last := some 0,
    users := if v = 0 then 0 else 1 }
  { s with
    lib := { s.lib with
      freeList := List.range' 1 2047, blockMap := [(0, { cls := .chained, link := none, suspect := false })],
      keyStore := [(0, { key := { time := 0, shape := .linear, positions := [10] }, health := .good }),
        (1, { key := { time := 4, shape := .linear, positions := [20] }, health := .good })] },
    power := { on := decide (v ≠ 0), monitorLoss := false, retentionLost := false },
    playerA := if v = 0 then Player.reset else { Player.reset with
      state := .running, move := some 0, mask := some 1#8, keyCount := some 2,
      startKey := some { index := 0, key := { time := 0, shape := .linear, positions := [10] } }, published := some [10],
      cursor := some { block := 0, slot := 1, index := 1 }, outstanding := true },
    port := { KeyPort.idle with
      serving := if v = 0 then none else some { access := .fetch .a 0 1 0 1, wanted := true, released := false } },
    link := { Link.reset with sending := if v = 2 then some { kind := 0x82, tag := 5, payload := [0x00#8] } else none } }

/-- The next state of an outcome. -/
def next? (o : Host.Outcome State Fault Refusal) : Option State :=
  match o with
  | .next t => some t
  | .fault _ => none
  | .refused _ => none

/-- One reading of the next state. -/
def reads {α : Type} (o : Host.Outcome State Fault Refusal) (f : State → α) : Option α := (next? o).map f

/-- The payload that the transmitter has begun to send. -/
def sent? (o : Host.Outcome State Fault Refusal) : Option (List Byte) := (next? o).bind fun t => t.link.sending.map (·.payload)

/-! ### Well-formed commands: each check refuses a term -/

theorem test_wf_refuses_panel_seq : (Instr.panelFrame 256 (List.replicate 8 0) [] 0).wf = false := by decide
theorem test_wf_refuses_panel_samples : (Instr.panelFrame 0 (List.replicate 7 0) [] 0).wf = false := by decide
theorem test_wf_refuses_panel_sample : (Instr.panelFrame 0 (32768 :: List.replicate 7 0) [] 0).wf = false := by decide
theorem test_wf_refuses_panel_codes : (Instr.panelFrame 0 (List.replicate 8 0) [1, 2, 3, 4, 5] 0).wf = false := by decide
theorem test_wf_refuses_panel_code : (Instr.panelFrame 0 (List.replicate 8 0) [256] 0).wf = false := by decide
theorem test_wf_refuses_panel_check : (Instr.panelFrame 0 (List.replicate 8 0) [] 256).wf = false := by decide
theorem test_wf_refuses_sinks : (Instr.outputFrame [.cue, .cue] { order := .aFirst }).wf = false := by decide
theorem test_wf_refuses_stick_event :
    (Instr.outputFrame [] { order := .aFirst, mid := [.frame 256 (List.replicate 8 0) [] 0] }).wf = false ∧
    (Instr.outputFrame [] { order := .aFirst, late := [.expiry, .frame 0 (List.replicate 7 0) [] 0] }).wf = false := by decide
theorem test_wf_refuses_event_axis : (Instr.fadeComplete 8).wf = false ∧ (Instr.driveSilent 8).wf = false := by decide
theorem test_wf_refuses_reply :
    (Instr.driveReply 256 0 0 0 0 0).wf = false ∧ (Instr.driveReply 0 256 0 0 0 0).wf = false ∧
    (Instr.driveReply 0 0 8388608 0 0 0).wf = false ∧ (Instr.driveReply 0 0 0 256 0 0).wf = false ∧
    (Instr.driveReply 0 0 0 0 256 0).wf = false ∧ (Instr.driveReply 0 0 0 0 0 65536).wf = false := by decide
theorem test_wf_refuses_frame :
    (Instr.requestFrame 256 0 [] 0).wf = false ∧ (Instr.requestFrame 0 256 [] 0).wf = false ∧
    (Instr.requestFrame 0 0 (List.replicate 256 0#8) 0).wf = false ∧ (Instr.requestFrame 0 0 [] 65536).wf = false := by
  decide +kernel
theorem test_wf_refuses_one_byte :
    [Instr.setFrame 256, .getBlend 256, .clearZone 256, .zoneOn 256, .zoneOff 256, .getZone 256, .closeMove 256,
      .deleteMove 256, .getMove 256, .run 256, .pause 256, .stop 256, .getPlayer 256, .clearMark 256, .getMark 256,
      .cueStart 256, .releaseAxis 256, .enableAxis 256, .disableAxis 256, .clearFault 256, .getAxis 256].all
      (fun i => !i.wf) = true := by decide +kernel
theorem test_wf_refuses_two_bytes :
    (Instr.setPanel 65536).wf = false ∧ (Instr.setStatus 65536).wf = false ∧ (Instr.fade 0 0 65536).wf = false := by decide
theorem test_wf_refuses_pairs :
    [Instr.fade 256 0 0, .fade 0 256 0, .protectMove 256 0, .protectMove 0 256, .load 256 0 0, .load 0 256 0,
      .load 0 0 65536, .goTo 256 0 0, .goTo 0 256 0, .goTo 0 0 65536, .readKeys 256 0 0, .readKeys 0 65536 0,
      .readKeys 0 0 256, .readCue 256 0, .readCue 0 256, .putTrigger 256 0 0, .putTrigger 0 256 0, .putTrigger 0 0 256,
      .setNotices 65536 0, .setNotices 0 256].all (fun i => !i.wf) = true := by decide +kernel
theorem test_wf_refuses_geometry :
    [Instr.setGeometry 16777216 0 0 0, .setGeometry 0 16777216 0 0, .setGeometry 0 0 16777216 0,
      .setGeometry 0 0 0 65536].all (fun i => !i.wf) = true := by decide +kernel
theorem test_wf_refuses_zone :
    [Instr.setZone 256 none none none none, .setZone 0 (some (-8388609, 0)) none none none,
      .setZone 0 none (some (0, 8388608)) none none, .setZone 0 none none (some (-8388609, 0)) none,
      .setZone 0 none none none (some (0, 8388608))].all (fun i => !i.wf) = true := by decide +kernel
theorem test_wf_refuses_names :
    [Instr.openMove 256 [65] 1, .openMove 1 [256] 1, .openMove 1 [65] 256, .storeMark 256 [65] 1, .storeMark 0 [256] 1,
      .storeMark 0 [65] 256, .recordStart 256 [65] 1 1 0 0, .recordStart 1 [256] 1 1 0 0, .recordStart 1 [65] 256 1 0 0,
      .recordStart 1 [65] 1 256 0 0, .recordStart 1 [65] 1 1 256 0, .recordStart 1 [65] 1 1 0 256].all
      (fun i => !i.wf) = true := by decide +kernel
theorem test_wf_refuses_keys :
    [Instr.putKeys 256 [], .putKeys 1 (List.replicate 9 { time := 0, shape := 0, positions := [] }),
      .putKeys 1 [{ time := 16777216, shape := 0, positions := [] }], .putKeys 1 [{ time := 0, shape := 256, positions := [] }],
      .putKeys 1 [{ time := 0, shape := 0, positions := [8388608] }],
      .putKeys 1 [{ time := 0, shape := 0, positions := List.replicate 9 0 }]].all (fun i => !i.wf) = true := by decide +kernel
theorem test_wf_refuses_marks :
    [Instr.setMark 256 [] 1 [0], .setMark 0 [256] 1 [0], .setMark 0 [] 256 [0], .setMark 0 [] 1 [8388608],
      .setMark 0 [] 1 (List.replicate 9 0)].all (fun i => !i.wf) = true := by decide +kernel
theorem test_wf_refuses_binding :
    [Instr.setRate 256 0 none, .setRate 0 65536 none, .setRate 0 0 (some (257, 0)), .setRate 0 0 (some (0, 65536))].all
      (fun i => !i.wf) = true := by decide +kernel
theorem test_wf_refuses_steps :
    [Instr.putCue 256 [⟨0, 0, 0, 0, 0⟩], .putCue 0 [], .putCue 0 (List.replicate 9 ⟨0, 0, 0, 0, 0⟩),
      .putCue 0 [⟨256, 0, 0, 0, 0⟩], .putCue 0 [⟨0, 256, 0, 0, 0⟩], .putCue 0 [⟨0, 0, 256, 0, 0⟩],
      .putCue 0 [⟨0, 0, 0, 256, 0⟩], .putCue 0 [⟨0, 0, 0, 0, 256⟩]].all (fun i => !i.wf) = true := by decide +kernel
theorem test_wf_refuses_axis :
    [Instr.setAxis 256 wire, .setAxis 0 { wire with softMin := -8388609 }, .setAxis 0 { wire with softMax := 8388608 },
      .setAxis 0 { wire with band := 16777216 }, .setAxis 0 { wire with vmax := 65536 }, .setAxis 0 { wire with amax := 65536 },
      .setAxis 0 { wire with vstick := 65536 }, .setAxis 0 { wire with channel := some 256 },
      .setAxis 0 { wire with invert := 256 }, .setAxis 0 { wire with deadband := 65536 }, .setAxis 0 { wire with curve := 256 },
      .setAxis 0 { wire with mode := 256 }, .setAxis 0 { wire with trimMax := 16777216 },
      .setAxis 0 { wire with feLimit := 16777216 }, .setAxis 0 { wire with tipScaled := 256 },
      .setAxis 0 { wire with missLimit := some 256 }].all (fun i => !i.wf) = true := by decide +kernel
theorem test_wf_accepts_axis : (Instr.setAxis 7 wire).wf = true := by decide +kernel

/-! ### Requests read from payloads written out from Table 11-5 -/

theorem test_decode_ident : decodeRequest (fun _ => 0) 0x01 [] = .request .ident := by decide
theorem test_decode_set_panel : decodeRequest (fun _ => 0) 0x08 [0xF4#8, 0x01#8] = .request (.setPanel 500) := by decide
theorem test_decode_fade :
    decodeRequest (fun _ => 0) 0x12 [0x03#8, 0x01#8, 0x2C#8, 0x01#8] = .request (.fade 3 1 300) := by decide
theorem test_decode_zone :
    decodeRequest (fun _ => 0) 0x18 ([0x02#8, 0x01#8, 0xE0#8, 0x93#8, 0x04#8, 0xA0#8, 0xBB#8, 0x0D#8] ++ List.replicate 21 0#8)
      = .request (.setZone 2 (some (300000, 900000)) none none none) := by decide +kernel
theorem test_decode_put_keys :
    decodeRequest (fun _ => 1) 0x21 [0x05#8, 0x28#8, 0x00#8, 0x00#8, 0x01#8, 0xFF#8, 0xFF#8, 0xFF#8]
      = .request (.putKeys 5 [{ time := 40, shape := 1, positions := [-1] }]) := by decide +kernel
theorem test_decode_set_rate :
    decodeRequest (fun _ => 0) 0x2C [0x01#8, 0x00#8, 0x01#8, 0x01#8, 0x07#8, 0x80#8, 0x00#8]
      = .request (.setRate 1 256 (some (7, 128))) := by decide +kernel
theorem test_decode_set_mark :
    decodeRequest (fun _ => 0) 0x30 ([0x0C#8, 0x02#8, 0x48#8, 0x49#8] ++ List.replicate 10 0#8 ++ [0x01#8, 0x00#8, 0x00#8, 0x80#8])
      = .request (.setMark 12 [72, 73] 1 [-8388608]) := by decide +kernel
theorem test_decode_put_cue :
    decodeRequest (fun _ => 0) 0x40 [0x08#8, 0x0B#8, 0x00#8, 0x02#8, 0x00#8, 0x00#8]
      = .request (.putCue 8 [⟨11, 0, 2, 0, 0⟩]) := by decide
theorem test_decode_enable_axis : decodeRequest (fun _ => 0) 0x4A [0x09#8] = .request (.enableAxis 9) := by decide
theorem test_decode_set_notices :
    decodeRequest (fun _ => 0) 0x50 [0xFF#8, 0x03#8, 0x01#8] = .request (.setNotices 1023 1) := by decide
theorem test_decode_length : decodeRequest (fun _ => 0) 0x08 [0xF4#8] = .badLength := by decide
theorem test_decode_kind : decodeRequest (fun _ => 0) 0x1F [] = .unknownKind := by decide
theorem test_table_words_spell_nothing : decodeTableWord 8 0 = none := rfl

/-! ### The manual's worked figures -/

/-- Table 1-3, shaping with deadband 100. -/
theorem test_shape_linear : [0, 100, 101, 500, 1500, 2047, -2047].map (shape 100 .linear false) =
    [0, 0, 16, 6731, 23561, 32767, -32767] := by decide
theorem test_shape_square : [101, 500, 1500, 2047, -2047].map (shape 100 .square false) =
    [0, 1382, 16941, 32767, -32767] := by decide
theorem test_shape_mixed : [101, 500, 1500, 2047, -2047].map (shape 100 .mixed false) =
    [8, 4056, 20251, 32767, -32767] := by decide

/-- Table 1-5, step 6: TRACK. -/
theorem test_shape_inverted : shape 40 .linear true 1500 = -23836 := by decide

/-- Tables 2-3 and 2-4: swing rate at long and at short reach. -/
theorem test_tip_speed_long :
    stickVelocity { cfg with vstick := 400, tipScaled := true }
      { rBase := 250000, rRef := 500000, rMin := 100000, releaseFrames := 50 } 450000 20251 = 176 := by decide
theorem test_tip_speed_short :
    stickVelocity { cfg with vstick := 400, tipScaled := true }
      { rBase := 250000, rRef := 500000, rMin := 100000, releaseFrames := 50 } (-245000) 20251 = 988 := by decide

/-- Table 2-5: the candidate of one frame of a fade. -/
theorem test_fade_candidate :
    ({ fading 20 50 with live := 1000000 } : Blend).candidate 1012345 0 = 1004931 := by decide

/-- Table 2-7: reversal by hand-back. -/
theorem test_fade_reversal :
    let b := ({ fading 30 50 with toSrc := .playB } : Blend).fadeTo .live 40 0
    b.fromSrc = .playB ∧ b.toSrc = .live ∧ b.k = 16 ∧ b.len = some 40 ∧ b.weight = 409 := by decide

/-- Table 3-2: the first frame in the slowing band. -/
theorem test_slowing_band :
    limitChain { cfg with softMax := 600000, band := 20000, vmax := 500, amax := 10 } 590000 420 590460 ClampFlags.none
      = { p := 590250, flags := { ClampFlags.none with accel := true, band := true } } := by decide

/-- Table 3-6: SWING's first ramp frame, and TILT's, which would cross zero. -/
theorem test_stop_ramp : rampStep { cfg with amax := 6 } 50 = 38 ∧ rampStep { cfg with amax := 4 } (-7) = 0 := by decide

/-- R119's example, and Table 5-5 at 125 and 175 frames. -/
theorem test_interpolation :
    interpolate1 .linear 2688 10240 400000 399000 = 399738 ∧ interpolate1 .linear 6400 25600 0 10000 = 2500 ∧
    interpolate1 .ease 6400 25600 0 10000 = 1562 ∧ interpolate1 .ease 19200 25600 10000 0 = 1563 ∧
    interpolate1 .step 19200 25600 0 10000 = 0 := by decide

/-- Table 5-4: the bound rate with span 128. -/
theorem test_bound_rate :
    ([50, 1047, 2047, -2047] : List Int).map (fun j =>
      { State.reset with stick := { StickPort.reset with
          port := .live, held := Vector.replicate 8 j, channels := Vector.replicate 8 .live } }.boundRate
        { Player.reset with binding := some { channel := 0, span := 128 } }) = [256, 319, 384, 128] := by decide +kernel

/-- Table 6-4: player A's positions at frame 20 of the go-to move. -/
theorem test_go_to_half_way :
    interpolate { time := 0, shape := .ease, positions := [1200000, 50000, 0] }
      { time := 40, shape := .ease, positions := [1206000, 46000, 150000] } 5120 = [1203000, 48000, 75000] := by decide

/-- Table 8-5: code 12 is taken by the catch-all at entry 2, which stands before its own entry. -/
theorem test_trigger_lookup :
    let s := { State.reset with triggers := ((State.reset.triggers.set 0 { code := 5, action := .cueGo }).set 2
      { code := 0, action := .report }).set 4 { code := 12, action := .pauseAll } }
    ((buttonCode s 12).noticeSlot .button).detail = some { frame := 0, detail := .button 12 2 } := by decide +kernel

/-- Section 9.4's worked case: reply 6 of REACH. -/
theorem test_following_error :
    let a := { axisIn .active with
      cfg := some { cfg with feLimit := 2000 }, prev := some { setpoint := 1503600, enable := true } }
    a.followingSetpoint? 1501100 = some 1503600 ∧ a.followingSetpoint? 1502000 = none := by decide

/-! ### One step of each family -/

theorem test_set_panel_ends : sent? (exec (.setPanel 10) State.reset) = some [0#8] ∧
    sent? (exec (.setPanel 9) State.reset) = some [3#8] ∧
    reads (exec (.setPanel 500) State.reset) (·.stick.timeout) = some 500 ∧
    sent? (exec (.setPanel 501) State.reset) = some [3#8] := by decide +kernel
theorem test_panel_frame_brings_live :
    reads (exec (.panelFrame 12 (350 :: List.replicate 7 0) [] (panelCheck 12 (350 :: List.replicate 7 0) [])) State.reset)
      (fun t => (t.stick.port, t.stick.seq, t.stick.held[0], t.stick.channels[0], t.stick.channels[1])) =
      some (.live, some 12, 350, .centredWait, .live) := by decide +kernel
theorem test_set_frame_refuses_three : sent? (exec (.setFrame 3) State.reset) = some [3#8] := by decide +kernel
theorem test_get_frame_after_reset :
    sent? (exec .getFrame State.reset) = some [0#8, 2#8, 0#8, 0#8, 0#8, 0#8] := by decide +kernel
theorem test_fade_starts :
    reads (exec (.fade 1 1 4) (playing .running)) (fun t => ((t.axis 0).blend.toSrc, (t.axis 0).blend.len, t.refCount .a)) =
      some (.playA, some 4, 1) := by decide +kernel
theorem test_fade_of_no_axis_is_refused : sent? (exec (.fade 0 1 4) (playing .running)) = some [3#8, 0#8, 0#8] := by
  decide +kernel
theorem test_zone_bounds_are_ordered :
    sent? (exec (.setZone 0 (some (1, 0)) none none none) State.reset) = some [3#8] ∧
    sent? (exec (.setZone 0 (some (0, 0)) none none none) State.reset) = some [0#8] := by decide +kernel
theorem test_zone_on_inside_is_refused :
    sent? (exec (.zoneOn 0) ((crane .active).setZone 0 { Zone.blank with swing := some (10, 20) })) = some [10#8] := by
  decide +kernel
theorem test_stop_all_stops : reads (exec .stopAll (playing .running)) (fun t => ((t.axis 0).state, t.playerA.state)) =
    some (.stopping, .paused) := by decide +kernel
theorem test_resume_all_counts : sent? (exec .resumeAll (crane .held)) = some [0#8, 1#8, 1#8] := by decide +kernel
theorem test_stop_ramp_comes_to_rest :
    reads (exec (.outputFrame [] { order := .bFirst }) ((crane .stopping).modAxis 0 fun a => { a with vPrev := 7 }))
      (fun t => ((t.axis 0).state, (t.axis 0).out, (t.axis 0).flags.stop)) = some (.held, 10, true) := by decide +kernel
theorem test_open_move_writes :
    reads (exec (.openMove 32 [65] 255) State.reset) (fun t => ((t.entry 31).state, (t.entry 31).writer)) =
      some (.writing, some .console) := by decide +kernel
theorem test_delete_of_an_empty_entry : sent? (exec (.deleteMove 1) State.reset) = some [7#8] := by decide +kernel
theorem test_key_write_takes_block_zero :
    reads (exec (.putKeys 1 [{ time := 0, shape := 0, positions := [5] }])
      (holding { Entry.blank with state := .writing, mask := some 1#8, writer := some .console }))
      (fun t => ((t.entry 0).first, t.lib.freeList.head?, (t.block 0).cls)) = some (some 0, some 1, .chained) := by
  decide +kernel
theorem test_load_of_an_empty_entry : sent? (exec (.load 0 1 256) State.reset) = some [7#8] := by decide +kernel
theorem test_run_of_an_idle_player : sent? (exec (.run 0) State.reset) = some [4#8, 0#8] := by decide +kernel
theorem test_set_rate_range : sent? (exec (.setRate 0 512 none) State.reset) = some [0#8] ∧
    sent? (exec (.setRate 0 513 none) State.reset) = some [3#8] := by decide +kernel
theorem test_store_mark_reads_out :
    reads (exec (.storeMark 63 [] 1) (crane .active)) (fun t => t.marks[63]) =
      some (some { name := [], mask := 1#8, positions := [10] }) := by decide +kernel
theorem test_record_start_arms :
    reads (exec (.recordStart 1 [65] 1 2 0 1) State.reset) (fun t => (t.recorder.state, (t.entry 0).writer)) =
      some (.armed, some .recorder) := by decide +kernel
/-- R147, R166: an ENDREC that the cue executes at a publication forms its final key from that publication, whichever of the
two blocks takes it first. -/
theorem test_endrec_hears_the_publication :
    let s := (((taking .recording (some 4) (some 4) [key6] true).setAxis 0 (axisIn .held)).setEntry 0
      (moveOf .writing (some .recorder) 2))
    let t : State := { s with
      cue := { Cue.reset with state := .running }, cueList := State.reset.cueList.set 0 .endRec,
      recorder := { s.recorder with decimation := 64 } }
    ∀ order ∈ [[Sink.cue, .recorder], [.recorder, .cue]],
      reads (exec (.outputFrame order { order := .aFirst }) t) (fun u => (u.recorder.state, u.recorder.lastQueued,
        u.recorder.fifo.map (·.positions))) = some (.closing, some 5, [[1], [10]]) := by decide +kernel

/-- R12, R113: the player asked second answers from the panel frame that fell after the first one's answer. -/
theorem test_frame_between_the_players :
    let l : List Int := 2047 :: List.replicate 7 0
    let r : Player := { Player.reset with state := .running, binding := some { channel := 0, span := 256 } }
    let s : State := { State.reset with
      stick := { StickPort.reset with port := .live, channels := Vector.replicate 8 .live }, playerA := r, playerB := r }
    reads (exec (.outputFrame [] { order := .aFirst, mid := [.frame 1 l [] (panelCheck 1 l [])] }) s)
      (fun t => (t.playerA.rate, t.playerB.rate, t.stick.held[0])) = some (256, 512, 2047) ∧
    reads (exec (.outputFrame [] { order := .bFirst, late := [.frame 1 l [] (panelCheck 1 l [])] }) s)
      (fun t => (t.playerA.rate, t.playerB.rate, t.stick.held[0])) = some (256, 256, 2047) := by decide +kernel

theorem test_put_cue_names_the_bad_step :
    sent? (exec (.putCue 4 [⟨13, 0, 0, 0, 0⟩, ⟨14, 0, 0, 0, 0⟩]) State.reset) = some [3#8, 1#8, 5#8] := by decide +kernel
theorem test_set_axis_defaults_miss_limit :
    reads (exec (.setAxis 0 wire) State.reset) (fun t => (t.axis 0).cfg) = some (some cfg) := by decide +kernel
theorem test_enable_axis_seats :
    reads (exec (.enableAxis 1) (crane .disabled)) (fun t => ((t.axis 0).state, (t.axis 0).out, (t.axis 0).blend.live)) =
      some (.active, 10, 10) := by decide +kernel
theorem test_silent_drive_faults :
    reads (exec (.driveSilent 0) ((crane .active).modAxis 0 fun a => { a with miss := 3 }))
      (fun t => ((t.axis 0).state, t.log.locked)) = some (.fault, true) := by decide +kernel
theorem test_set_notices_range : sent? (exec (.setNotices 1023 0) State.reset) = some [0#8] ∧
    sent? (exec (.setNotices 1024 0) State.reset) = some [3#8] := by decide +kernel
theorem test_ident_after_reset :
    sent? (exec .ident State.reset) = some [0#8, 6#8, 0x5A#8, 0x4B#8, 0x2D#8, 0x38#8, 0x38#8, 0x30#8, 0#8, 0#8, 0#8, 0#8, 0#8,
      0#8, 1#8, 1#8, 0#8, 8#8, 16#8, 32#8, 64#8, 8#8, 48#8, 8#8, 4#8, 240#8, 0#8, 8#8] := by decide +kernel
theorem test_restart_stops_delivery : reads (exec .restart State.reset) (·.link.delivering) = some false := by decide +kernel

/-! ### States and operands that meet the hypotheses of the statements, clause by clause -/

theorem test_meets_StepRunsFrontCommand :
    ({ State.reset with pending := [.ident] } : State).pending = .ident :: [] := rfl

theorem test_meets_StepOnEmptyQueue :
    ((dark true).pending = [] ∧ (dark true).power.on = false) ∧
    (State.reset.pending = [] ∧ State.reset.power.on = true ∧ State.reset.link.oldest? = none) ∧
    (let p := placeOf 3 0x1F [] .waiting;
      (linked [p] []).pending = [] ∧ (linked [p] []).delivers = true ∧ (linked [p] []).link.oldest? = some p ∧
      (linked [p] []).decoded p = .unknownKind) ∧
    (let p := placeOf 3 0x01 [0#8] .waiting;
      (linked [p] []).link.oldest? = some p ∧ (linked [p] []).decoded p = .badLength) ∧
    (let p := placeOf 3 0x01 [] .waiting;
      (linked [placeOf 0 0x21 [] .held, p] []).link.oldest? = some p ∧ (linked [p] []).decoded p = .request .ident) := by
  decide +kernel

theorem stored_blocks (v : Fin 3) : (stored v).BlocksLawful where
  once := by
    have h : ∀ v, (stored v).chains = [0] := by decide +kernel
    have hr : ∀ n : Nat, List.range (n + 1) = 0 :: List.range' 1 n := fun n => by
      rw [List.range_eq_range', List.range'_succ]
    rw [h, show (stored v).lib.freeList = List.range' 1 2047 from rfl, show (stored v).lib.badSet = [] from rfl,
      show Config.blocks = 2047 + 1 from rfl, hr, List.append_nil]
    exact List.perm_append_singleton 0 _
  free := by
    intro b hb
    have : b ≠ 0 := by
      rintro rfl
      exact absurd (List.mem_range'_1.1 hb).1 (by decide)
    simp [State.block, stored, sparseGet, this, BlockEntry.blank]
  bad := by intro b hb; cases hb
  chained := by revert v; decide +kernel
  last := by revert v; decide +kernel
  ends := by
    intro m b h
    have hm : ∀ v m, ((stored v).entry m).last = none ∨ ((stored v).entry m).last = some 0 := by decide +kernel
    rcases hm v m with h' | h' <;> rw [h'] at h
    · cases h
    · cases h; clear h' hm; revert v; decide +kernel
  empty := by revert v; decide +kernel

theorem stored_keys (v : Fin 3) (m : MoveIx) : (stored v).KeysLawful m := by
  have hk : ∀ v m, ((stored v).entry m).keys = if m = 0 then 2 else 0 := by decide +kernel
  have hn : ¬ (stored v).writeOn m := by
    have h : ∀ v, ((stored v).port.serving.bind fun x => x.access.writes?) = none := by decide +kernel
    rintro ⟨x, hx, hw⟩
    have := h v
    rw [hx] at this
    exact absurd (this.symm.trans hw) (by simp)
  have hl : ∀ v m, ((stored v).chain ((stored v).entry m)).length = blocksFor ((stored v).entry m).keys := by
    decide +kernel
  refine ⟨?_, fun h => absurd h hn, fun _ => .inl (hl v m), ?_, ?_, ?_⟩
  · clear hn; revert v m; decide +kernel
  · clear hn; revert v m; decide +kernel
  · clear hn; revert v m; decide +kernel
  · intro i h
    rw [hk] at h
    split at h
    · obtain rfl : i = 0 := by omega
      subst_vars; clear hn; revert v; decide +kernel
    · omega

/-- The stored states meet the laws of the Move Library, block by block and key by key. -/
theorem stored_lawful (v : Fin 3) : (stored v).LibraryLawful where
  canonical := by revert v; decide +kernel
  blocks := stored_blocks v
  keys := stored_keys v
  owner := by revert v; decide +kernel
  port := by
    refine ⟨by rintro a ⟨⟩, by rintro a ⟨⟩, .inl ⟨rfl, ?_⟩, .inl ?_⟩ <;> revert v <;> decide +kernel
  take := by rintro m ⟨⟩

theorem test_meets_StepOnEmptyQueue_clocks :
    let s (e f : Nat) : State := { State.reset with
      stick := { StickPort.reset with port := .live, elapsed := e },
      timer := { FrameTimer.reset with elapsed := f } }
    State.reset.stick.port = .stale ∧ (s 48 0).pending = [] ∧ (s 48 0).stick.port = .live ∧
    (s 48 0).stick.elapsed + 1 < (s 48 0).stick.timeout ∧ (s 49 0).stick.timeout ≤ (s 49 0).stick.elapsed + 1 ∧
    (s 48 0).timer.elapsed + 1 < (s 48 0).timer.interval ∧ (s 48 1).timer.interval ≤ (s 48 1).timer.elapsed + 1 := by
  decide +kernel

theorem test_meets_StepKeepsLibraryLawful (v : Fin 3) : (stored v).LibraryLawful ∧ ∃ t, step (stored v) = .next t := by
  refine ⟨stored_lawful v, ?_⟩
  match v with
  | 0 => exact ⟨_, rfl⟩
  | 1 => exact ⟨_, rfl⟩
  | 2 => exact ⟨_, rfl⟩

theorem test_meets_StepKeepsLibraryCanonical :
    (holding (moveOf .ready none 3)).lib.wf = true ∧ ∃ t, step (holding (moveOf .ready none 3)) = .next t :=
  ⟨by decide +kernel, _, rfl⟩

theorem test_meets_StepKeepsAxesLawful : (crane .active).axesLawful = true ∧ ∃ t, step (crane .active) = .next t :=
  ⟨by decide +kernel, _, rfl⟩

theorem test_meets_StepKeepsPlayersLawful :
    let s := blending (fading 1 4)
    s.axesLawful = true ∧ s.playersLawful = true ∧ ∃ t, step s = .next t :=
  ⟨by decide +kernel, by decide +kernel, _, rfl⟩

theorem test_meets_StepKeepsPlayersLawful_streams :
    (stored 1).LibraryLawful ∧ (stored 1).streamsLawful = true ∧ (∃ t, step (stored 1) = .next t) ∧
      (stored 1).port.fetchesOf .a = [.fetch .a 0 1 0 1] :=
  ⟨stored_lawful 1, by decide +kernel, ⟨_, rfl⟩, by decide +kernel⟩

theorem test_meets_StepKeepsOwnersLawful :
    let s := taking .recording (some 4) (some 4) [key6] true
    s.ownersLawful = true ∧ ∃ t, step s = .next t :=
  ⟨by decide +kernel, _, rfl⟩

theorem test_meets_StepKeepsBoundsLawful :
    let s := linked [placeOf 3 0x21 [] .held, placeOf 0 0x01 [] .waiting] [.refusal 1 2]
    (s.buffersLawful = true ∧ s.rangesLawful = true) ∧ ∃ t, step s = .next t :=
  ⟨by decide +kernel, _, rfl⟩

theorem test_meets_PowerOnResetsAndRetains :
    (dark true).power.on = false ∧ (dark true).power.monitorLoss = true ∧ (dark false).power.monitorLoss = false ∧
    ((dark false).entry 31).state ≠ .writing := by decide +kernel

theorem test_meets_PowerOnResetsAndRetains_library :
    (stored 0).power.on = false ∧ (stored 0).power.monitorLoss = false ∧ (stored 0).LibraryLawful ∧
      (∀ m : MoveIx, ((stored 0).entry m).state ≠ .writing) ∧ (stored 0).chain ((stored 0).entry 0) = [0] :=
  ⟨rfl, rfl, stored_lawful 0, by decide +kernel, by decide +kernel⟩

/-- A dark part whose entry 0 was WRITING with one key in a suspect block: the power-on raises the notice of R100 and R194. -/
theorem test_meets_PowerOnResetsAndRetains_notice :
    let s := (holding (moveOf .writing (some .console) 1)).setBlock 7 { cls := .chained, link := none, suspect := true }
    let t := powerOn .aboveFive { s with power := { on := false, monitorLoss := false, retentionLost := false } }
    (s.entry 0).state = .writing ∧
    t.noticeSlot .store =
      { enabled := true, pending := true, coalesced := false,
        detail := some { frame := 0, detail := .storeRetired 0 1 } } := by decide +kernel

theorem test_meets_RecoveryClosesWritingEntries :
    ((holding (moveOf .writing (some .console) 2)).entry 0).state = .writing ∧
    2 ≤ ((holding (moveOf .writing (some .console) 2)).entry 0).keys ∧
    ((holding (moveOf .writing (some .recorder) 1)).entry 0).keys < 2 := by decide +kernel

theorem test_meets_PowerLossKeepsRetainedTables :
    ((dark true).power.on = false ∧ Instr.ident ≠ .retentionSupplyLoss ∧ ∀ loop, Instr.ident ≠ .powerOn loop) ∧
    State.reset.power.on = true :=
  ⟨⟨rfl, by decide, fun loop => by cases loop <;> decide⟩, rfl⟩

theorem test_meets_TransmitDoneFreesOrRestarts :
    let f : TxFrame := { kind := 0xE0, tag := 0, payload := [0x00#8] }
    let g : TxFrame := { kind := 0x82, tag := 5, payload := [0x00#8] }
    ({ State.reset with link := { Link.reset with sending := some f } } : State).link.sending = some f ∧
    ¬ (f.kind = 0x82 ∧ f.payload = [0x00#8]) ∧ (g.kind = 0x82 ∧ g.payload = [0x00#8]) ∧
    ({ State.reset with link := { Link.reset with sending := some g, delivering := false } } : State).power.on = true := by
  decide +kernel

theorem test_meets_TransmitDoneFreesOrRestarts_library :
    (stored 2).power.on = true ∧ (stored 2).link.sending = some { kind := 0x82, tag := 5, payload := [0x00#8] } ∧
      (stored 2).port.serving = some { access := .fetch .a 0 1 0 1, wanted := true, released := false } ∧
      (stored 2).LibraryLawful ∧ (∀ m : MoveIx, ((finishForReset .damaged (stored 2)).entry m).state ≠ .writing) ∧
      State.reset.port.serving = none :=
  ⟨rfl, rfl, rfl, stored_lawful 2, by decide +kernel, rfl⟩

theorem test_meets_LinkAndNoticeRequestsComplete_link :
    State.reset.delivers = true ∧
    ({ State.reset with link := { Link.reset with delivering := false } } : State).link.delivering = false ∧
    requestKind (.cueStop) ≠ none := by decide +kernel

theorem test_meets_TransmitterChoosesInOrder :
    (let s := linked [placeOf 2 0x01 [] (.answered [0#8])] [.place 2, .refusal 1 1];
      s.link.sending = none ∧ s.link.ready = .place 2 :: [.refusal 1 1] ∧ (s.link.places.map (·.slot)).Nodup ∧
      placeOf 2 0x01 [] (.answered [0#8]) ∈ s.link.places) ∧
    (linked [] [.refusal 0x7F 255]).link.ready = .refusal 0x7F 255 :: [] ∧
    (let s := raise (.link .overrun) State.reset;
      s.link.ready = [] ∧ (s.noticeSlot .link).enabled = true ∧ (s.noticeSlot .link).pending = true ∧
      (s.noticeSlot .link).detail = some { frame := 0, detail := .link .overrun } ∧
      (s.noticeSlot .fault).pending = false ∧ (s.noticeSlot .axis).pending = false ∧ (s.noticeSlot .zone).pending = false ∧
      (s.noticeSlot .player).pending = false ∧ (s.noticeSlot .record).pending = false ∧ (s.noticeSlot .cue).pending = false ∧
      (s.noticeSlot .stick).pending = false ∧ (s.noticeSlot .store).pending = false ∧ (s.noticeSlot .button).pending = false) ∧
    (({ State.reset with link := { Link.reset with sending := some { kind := 0xE1, tag := 0, payload := [] } } } : State).link.sending ≠ none) := by
  decide +kernel

theorem test_meets_TransmitterFindsNothing (b : NoticeClass) :
    State.reset.link.sending = none ∧ State.reset.link.ready = [] ∧
      ((State.reset.noticeSlot b).enabled = false ∨ (State.reset.noticeSlot b).pending = false) := by
  refine ⟨rfl, rfl, .inr ?_⟩; cases b <;> rfl

theorem test_meets_ConsoleBytesAssembleTheFrame :
    let f : TxFrame := { kind := 127, tag := 255, payload := List.replicate 240 0x5C#8 }
    f.kind < 128 ∧ f.tag < 256 ∧ f.payload.length ≤ 240 ∧ State.reset.link.framer = none := by decide +kernel

theorem test_meets_RequestFrameArrives_frames :
    State.reset.power.on = true ∧ 240 < (List.replicate 241 0#8).length ∧
    consoleCheck 1 0 [] + 1 ≠ consoleCheck 1 0 [] ∧ (128 : Nat) ≤ 128 ∧ (127 : Nat) < 128 ∧
    ([placeOf 0 1 [] .held, placeOf 1 1 [] .held, placeOf 2 1 [] .held]).length < 4 ∧
    (let s := linked [placeOf 0 1 [] .held, placeOf 1 1 [] .held, placeOf 2 1 [] .held, placeOf 3 1 [] .held]
        (List.replicate 7 (.refusal 1 1));
      4 ≤ s.link.places.length ∧ s.link.refusals.length < 8) ∧
    (let s := linked [placeOf 0 1 [] .held, placeOf 1 1 [] .held, placeOf 2 1 [] .held, placeOf 3 1 [] .held]
        (List.replicate 8 (.refusal 1 1));
      4 ≤ s.link.places.length ∧ 8 ≤ s.link.refusals.length) := by decide +kernel

theorem test_meets_RequestFrameArrives_bytes :
    State.reset.link.framer = none ∧
    (let buf := [0x5C#8]; buf.length = 1 ∧ 240 < (241#8).toNat ∧ (240#8).toNat ≤ 240) ∧
    (let buf := [0x5C#8, 1#8, 1#8, 0#8, 0#8]; 2 ≤ buf.length ∧ buf.length + 1 < 6 + (1#8).toNat ∧ buf[1]? = some 1#8) := by
  decide

theorem test_meets_PanelFrameArrives :
    let samples : List Int := -2048 :: List.replicate 7 2047
    255 ≤ 255 ∧ samples.length = 8 ∧ panelValid 255 samples [1, 255] (panelCheck 255 samples [1, 255]) = true ∧
    panelValid 255 samples [0] (panelCheck 255 samples [0]) = false ∧
    panelValid 0 (2048 :: List.replicate 7 0) [] (panelCheck 0 (2048 :: List.replicate 7 0) []) = false ∧
    (∀ i : Fin 8, (State.reset.axis i).boundTo 7 = false) ∧
    ((crane .active).axis 0).cfg = some cfg ∧ cfg.channel = some 0 ∧ ((crane .active).axis 0).boundTo 0 = true := by
  decide +kernel

theorem test_meets_PanelFrameArrives_new : State.reset.stick.seq ≠ some 255 ∧ State.reset.stick.port = .stale := by decide

theorem test_meets_PanelBytesAssembleTheFrame_frames :
    let samples : List Int := [-32768, 32767, 0, 0, 0, 0, 0, 0]
    (255 : Nat) < 256 ∧ samples.length = 8 ∧ (∀ x ∈ samples, -32768 ≤ x ∧ x ≤ 32767) ∧ [0, 255, 1, 2].length ≤ 4 ∧
    (∀ c ∈ [0, 255, 1, 2], c < 256) ∧ State.reset.stick.receiver = none := by decide +kernel

theorem test_meets_PanelBytesAssembleTheFrame_bytes :
    State.reset.power.on = true ∧ State.reset.stick.receiver = none ∧
    (let buf := [0xA5#8, 0#8]; buf.length = 2 ∧ 4 < (5#8).toNat ∧ (4#8).toNat ≤ 4) ∧
    (let buf := 0xA5#8 :: 7#8 :: 1#8 :: List.replicate 16 0#8;
      3 ≤ buf.length ∧ buf[2]? = some 1#8 ∧ buf.length + 1 < 20 + (1#8).toNat) := by decide +kernel

theorem test_meets_StickAndFrameRequestsComplete_stick :
    let s (e : Nat) : State := { State.reset with stick := { StickPort.reset with port := .live, elapsed := e } }
    State.reset.power.on = true ∧ State.reset.stick.port = .stale ∧ (s 3).stick.port = .live ∧ (s 3).delivers = true ∧
    ((10 : Nat) ≤ 10 ∧ (s 9).stick.elapsed < 10) ∧ ((500 : Nat) ≤ 500 ∧ (s 500).stick.port = .live ∧ 500 ≤ (s 500).stick.elapsed) ∧
    ((9 : Nat) < 10 ∧ 500 < 501) := by decide +kernel

theorem test_meets_DemandIsShapedWithinRange :
    let p (x : Int) : StickPort := { StickPort.reset with
      port := .live, held := Vector.replicate 8 x, channels := Vector.replicate 8 .live }
    cfg.deadband ≤ 512 ∧ (p (-2047)).held[0].natAbs ≤ 2047 ∧ ({ cfg with channel := none } : AxisConfig).channel = none ∧
    cfg.channel = some 0 ∧ StickPort.reset.port = .stale ∧ StickPort.reset.channels[0] = .centredWait ∧
    (p 100).held[0].natAbs ≤ cfg.deadband ∧ cfg.deadband < (101 : Int).natAbs ∧
    cfg.deadband < (p (-2047)).held[0].natAbs ∧ (p 2047).port = .live ∧ (p 2047).channels[0] = .live ∧ cfg.invert = false ∧
    (p 2047).held[0] = 2047 ∧ (p (-2047)).held[0] = -2047 := by decide +kernel

theorem test_meets_StickAndFrameRequestsComplete_frame :
    State.reset.delivers = true ∧
    (∀ i : Fin 8, ((crane .fault).axis i).state ≠ .active ∧ ((crane .fault).axis i).state ≠ .stopping ∧
      ((crane .fault).axis i).state ≠ .held) ∧
    ((4 : Nat) = 1 ∨ (4 : Nat) = 2 ∨ (4 : Nat) = 4) ∧ ¬ ((3 : Nat) = 1 ∨ (3 : Nat) = 2 ∨ (3 : Nat) = 4) ∧
    ((crane .held).axis 0).state = .held ∧
    (4000000 ≤ 4000000 ∧ 1 ≤ 1 ∧ 1 ≤ 4000000 ∧ 1 ≤ 4000000 ∧ 4000000 ≤ 4000000 ∧ 1 ≤ 65535 ∧ 65535 ≤ 65535) ∧
    ¬ (0 ≤ 4000000 ∧ 1 ≤ 0) ∧ (8 : Nat) ≤ 8 := by decide +kernel

theorem test_meets_VelocityRoutingAndCandidate :
    ((-32767 : Int).natAbs ≤ 32767) ∧ cfg.tipScaled = false ∧ ({ cfg with tipScaled := true } : AxisConfig).tipScaled = true ∧
    Geometry.reset.scale 0 = 4096 ∧ cfg.softMin < cfg.softMax ∧ (fading 1 4).fromSrc = .live ∧
    (let b := { Blend.reset with fromSrc := .playA, toSrc := .playB, mode := .trim };
      b.fromSrc ≠ .live ∧ b.toSrc ≠ .live ∧ b.mode = .trim) ∧
    (let b := { Blend.reset with fromSrc := .playA, toSrc := .playA };
      b.fromSrc ≠ .live ∧ b.mode = .liveOnly ∧ b.fromSrc = b.toSrc) ∧
    (fading 1 4).fromSrc ≠ (fading 1 4).toSrc ∧ (fading 3 4).lawful = true ∧ (fading 0 4).weight = 0 := by decide +kernel

theorem test_meets_FadeChangesAndCountsARecord_change :
    Blend.reset.fromSrc = Blend.reset.toSrc ∧ Blend.reset.fromSrc = .live ∧ Blend.reset.fromSrc ≠ .playA ∧
    ¬ ((fading 1 4).fromSrc = (fading 1 4).toSrc) ∧ (1 : Nat) ≤ 1 ∧
    ((fading 1 2000).len = some 2000 ∧ 1024 * (fading 1 2000).k / 2000 = 0) ∧
    ((fading 30 50).len = some 50 ∧ (fading 30 50).k < 50 ∧ 1024 * (fading 30 50).k / 50 ≠ 0) := by decide +kernel

theorem test_meets_FadeChangesAndCountsARecord_count :
    (Blend.reset.fromSrc = Blend.reset.toSrc ∧ Blend.reset.fromSrc ≠ .playA ∧ 0 < 1 ∧ 0 < 1) ∧
    (let s := blending (fading 4 4);
      s.power.on = true ∧ (s.axis 0).blend.fromSrc ≠ (s.axis 0).blend.toSrc ∧ (s.axis 0).blend.len = some 4 ∧
      (s.axis 0).blend.k = 4) ∧
    (let s := (blending { fading 4 4 with fromSrc := .playA, toSrc := .live }).setPlayer .a (goer .releasing);
      (s.player .a).state = .releasing ∧ s.refCount .a ≠ 0) ∧
    ((blending (fading 3 4)).axis 0).blend.len ≠ some ((blending (fading 3 4)).axis 0).blend.k := by decide +kernel

theorem test_meets_FadeRequestChecksItsAxes_accepted :
    let s := playing .ended
    s.delivers = true ∧ (1#8 : Mask) ≠ 0#8 ∧ 65535 ≤ 65535 ∧
    (∀ i : Fin 8, Mask.has 1#8 i = true → (s.axis i).state = .active ∧
      ((s.axis i).blend.fromSrc = (s.axis i).blend.toSrc ∨ (s.axis i).blend.fromSrc = .playA)) ∧
    (s.playerA.filled = true ∧ s.playerA.covers 0 = true ∧ s.playerA.state = .ended) := by decide +kernel

theorem test_meets_FadeRequestChecksItsAxes_refused :
    (Mask.has 3#8 0 = true ∧ fadeCheck (playing .running) .playA 0 = .ok ∧ Mask.has 3#8 1 = true ∧
      ((playing .running).axis 1).state ≠ .active) ∧
    (((crane .active).axis 0).state = .active ∧ Source.playB = PlayerId.source .b ∧ ((crane .active).player .b).filled = false) ∧
    (let s := (playing .running).setAxis 1 (axisIn .active);
      (s.axis 1).state = .active ∧ (s.player .a).fadable = true ∧ (s.player .a).covers 1 = false) ∧
    (let s := blending (fading 1 4);
      (s.axis 0).state = .active ∧ (s.axis 0).blend.fromSrc ≠ (s.axis 0).blend.toSrc ∧ Source.playA ≠ (s.axis 0).blend.fromSrc ∧
      (s.player .a).fadable = true ∧ (s.player .a).covers 0 = true) := by decide +kernel

theorem test_meets_FadeRequestChecksItsAxes_values :
    (∀ st ∈ [PlayerState.releasing, .faulted], ((playing st).player .a).state = st ∧ ((playing st).player .a).filled = true) ∧
    ((playing .faulted).axis 0).state = .active ∧ Source.playA = PlayerId.source .a ∧ (256 : Nat) ≤ 256 ∧ (3 : Nat) ≤ 3 ∧
    (65535 : Nat) < 65536 := by decide +kernel

theorem test_meets_TakeOverHandsBack :
    State.reset.delivers = true ∧ ((crane .held).axis 0).state ≠ .active ∧
    (let b := ((blending { fading 0 1 with toSrc := .live, len := none }).axis 0).blend; b.toSrc = .live) ∧
    (let b := ((blending { fading 0 1 with fromSrc := .playA, len := none }).axis 0).blend;
      b.fromSrc ≠ .live ∧ b.fromSrc = b.toSrc) ∧
    (let b := ((blending { fading 2 4 with fromSrc := .playB }).axis 0).blend;
      b.fromSrc ≠ .live ∧ b.toSrc ≠ .live ∧ b.fromSrc ≠ b.toSrc) ∧
    (∀ k ∈ [0, 2], let b := ((blending (fading k 4)).axis 0).blend;
      ((blending (fading k 4)).axis 0).state = .active ∧ b.fromSrc = .live ∧ b.toSrc ≠ .live ∧ b.len = some 4) ∧
    0 < State.reset.geometry.releaseFrames ∧ ((playing .running).player .a).state ≠ .releasing ∧
    (let s := (blending { fading 2 4 with fromSrc := .playB }).setPlayer .a (goer .releasing);
      (s.player .a).state = .releasing ∧ s.refCount .a ≠ 0 ∧ reads (exec .takeOver s) (·.refCount .a) = some 0) ∧
    (let s := (blending { fading 0 1 with fromSrc := .playA, len := none }).setPlayer .a (goer .releasing);
      reads (exec .takeOver s) (·.refCount .a) = some 1) := by decide +kernel

theorem test_meets_OutputFramePublishes :
    (crane .active).power.on = true ∧ ((crane .fault).axis 0).state = .fault ∧ ((crane .disabled).axis 0).state = .disabled ∧
    (crane .active).axes = (crane .active).axes ∧ (drivePublication (crane .active) (crane .active)).exchanges.length = 1 := by
  decide +kernel

/-- Accesses that complete between the answers: the key placed before its player answers, and after. -/
theorem test_meets_OutputFramePublishes_accesses :
    let k (i : Nat) : PlayerKey := { index := i, key := { key6 with time := i, positions := [i] } }
    let e := (holding (moveOf .ready none 40)).setSlot 7 2 { key := key6, health := .good }
    let s : State := { e.setPlayer .a { Player.reset with
        state := .running, move := some 0, mask := some 1#8, keyCount := some 40, startKey := some (k 0), endKey := some (k 1),
        filled := true, published := some [0], cursor := some { block := 7, slot := 2, index := 2 }, outstanding := true } with
      port := { KeyPort.idle with serving := some { access := .fetch .a 0 2 7 2, wanted := true, released := false } } }
    let state (l m : List KeyCheck) :=
      ((askPlayers { order := .aFirst, accesses := l, midAccesses := m } s).1.player .a).state
    state [] [] = .starved ∧ state [.good] [] = .running ∧ state [] [.good] = .running ∧
    (askPlayers { order := .aFirst, accesses := [.good] } s).1.playerA.time = 256 := by decide +kernel

theorem test_meets_LimitChainAndRampBoundTheMove :
    (cfg.softMin < cfg.softMax ∧ cfg.softMin ≤ -1000 ∧ (1000 : Int) ≤ cfg.softMax ∧ 0 < cfg.band ∧
      0 < (limitChain cfg 0 10 40 ClampFlags.none).p ∧
      (limitChain cfg 0 10 10 ClampFlags.none).flags = ClampFlags.none) ∧
    1 ≤ cfg.amax := by decide

theorem test_meets_OutputFrameNeverJumps :
    (∀ st ∈ [AxisState.active, .stopping, .held], (crane st).axesLawful = true) ∧ (crane .active).power.on = true ∧
    ((crane .active).axis 0).cfg = some cfg ∧ ((crane .active).axis 0).moving = true ∧ ((crane .held).axis 0).moving = false ∧
    ((crane .stopping).axis 0).state = .stopping := by decide +kernel

theorem test_meets_OutputFrameNeverJumps_next (st : AxisState) : ∃ t, exec (.outputFrame [] { order := .bFirst }) (crane st) = .next t := ⟨_, rfl⟩

/-- A frame that brings the last STOPPING axis to rest, and one that leaves another on its ramp. -/
theorem test_meets_OutputFrameNeverJumps_rest :
    let two := (crane .stopping).setAxis 1 { axisIn .stopping with vPrev := 40 }
    let f (s : State) := next? (exec (.outputFrame [] { order := .aFirst }) s)
    ((crane .stopping).axis 0).state = .stopping ∧
    (∃ t, f (crane .stopping) = some t ∧ (t.axis 0).state = .held ∧ (∀ j : Fin 8, (t.axis j).state ≠ .stopping) ∧
      (∀ j : Fin 8, (t.axis j).state = .fault → ((crane .stopping).axis j).state = .fault) ∧
      (t.noticeSlot .axis).detail = some { frame := 1, detail := .axis .allHeld none none }) ∧
    ((f two).map fun t => ((t.axis 0).state, (t.axis 1).state, (t.noticeSlot .axis).detail)) = some (.held, .stopping, none) :=
  ⟨rfl, ⟨_, rfl, by decide +kernel, by decide +kernel, by decide +kernel, by decide +kernel⟩, by decide +kernel⟩

/-- A crane whose SWING, about to reach 15, stands below an enabled zone from `lo` to 100. -/
def zoned (lo : Int) : State := (crane .active).setZone 0 { Zone.blank with swing := some (lo, 100), enabled := true }

theorem test_meets_ZoneHoldStopsTheArm :
    (((zoned 15).axis 0).propose 15 ClampFlags.none).isSome = true ∧ geometric 0 = true ∧ (zoned 15).geometricMoving = true ∧
    (let q := (zoned 15).checkPoint fun j => ((zoned 15).axis j).propose (if j = 0 then 15 else 0) ClampFlags.none;
      (zoned 15).inEnabledZone q = true ∧ (zoned 16).inEnabledZone q = false) ∧
    geometric 4 = false ∧ (zoned 15).inEnabledZone (zoned 15).outPoint = false := by decide +kernel

theorem test_meets_ZoneHoldStopsTheArm_notice :
    let fresh (s : State) := allAxes.filter fun j =>
      !(s.zone j).holding && ((limitStage (fun j => if j = 0 then 15 else 0) (fun _ => ClampFlags.none) s).zone j).holding
    fresh (zoned 15) = [0] ∧ fresh (zoned 16) = [] ∧
    fresh ((zoned 15).setZone 7 ((zoned 15).zone 0)) = [0, 7] ∧
    fresh ((zoned 15).setZone 0 { (zoned 15).zone 0 with holding := true }) = [] := by decide +kernel

theorem test_meets_ZoneHoldStopsTheArm_rest :
    let t (s : State) := limitStage (fun _ => 0) (fun _ => ClampFlags.none) s
    ((crane .stopping).axis 0).state = .stopping ∧ ((t (crane .stopping)).axis 0).state = .held ∧
    (∀ i : Fin 8, ((t (crane .stopping)).axis i).state ≠ .stopping) ∧
    (∀ i : Fin 8, ((t (crane .held)).axis i).state = .held → ((crane .held).axis i).state ≠ .stopping) := by decide +kernel

/-- The clauses on an axis of the frame: ACTIVE and STOPPING, held by a zone and not, and orders of the blocks. -/
theorem test_meets_OutputFramePublishes_axis :
    (∀ st ∈ [AxisState.active, .stopping], ((crane st).axis 0).cfg = some cfg ∧ ((crane st).axis 0).state = st ∧
      (crane st).inEnabledZone ((crane st).checkPoint fun j => ((crane st).axis j).propose 10 ClampFlags.none) = false) ∧
    (zoned 10).inEnabledZone ((zoned 10).checkPoint fun j => ((zoned 10).axis j).propose ((zoned 10).candidate j)
      ((zoned 10).handedFlags j)) = true ∧ geometric 0 = true ∧
    [Sink.cue, .driveLine].Nodup ∧ sinkOrder [.cue, .driveLine] = [.cue, .driveLine, .noticeUnit, .recorder] := by
  decide +kernel

/-- A RELEASING player whose last record the frame clears, and one that keeps its record. -/
theorem test_meets_OutputFramePublishes_clears :
    let s (k : Nat) := (blending { fading k 4 with fromSrc := .playA, toSrc := .live }).setPlayer .a (goer .releasing)
    let t (k : Nat) := reads (exec (.outputFrame [] { order := .aFirst }) (s k)) fun t => (t.refCount .a, (t.player .a).state)
    (s 3).power.on = true ∧ ((s 3).player .a).state = .releasing ∧ (s 3).refCount .a ≠ 0 ∧ (s 3).cue.state ≠ .running ∧
    (s 3).cue.state ≠ .waiting ∧ t 3 = some (0, .idle) ∧ t 2 = some (1, .releasing) := by decide +kernel

theorem test_meets_StepKeepsArmOutsideZones : (zoned 15).zonesLawful = true ∧ ∃ t, step (zoned 15) = .next t :=
  ⟨by decide +kernel, _, rfl⟩

theorem test_meets_ZoneAndStopRequestsComplete_zone :
    State.reset.delivers = true ∧ (State.reset.zone 7).enabled = false ∧ (some (posMin, posMax) : WireBound) ≠ none ∧
    (∀ x ∈ ([some (posMin, posMax), none, some (5, 5), none] : List WireBound), ∀ b : Int × Int, x = some b →
      b.1 ≤ b.2 ∧ posMin ≤ b.1 ∧ b.2 ≤ posMax) ∧
    ((zoned 15).zone 0).enabled = true ∧ ((0 : Int) < 1) ∧ (posMax < posMax + 1) ∧ (State.reset.zone 0).isDefined = false ∧
    (let s (lo : Int) := (zoned lo).setZone 0 { (zoned lo).zone 0 with enabled := false };
      ((s 10).zone 0).isDefined = true ∧ ((s 10).zone 0).enabled = false ∧ ((s 10).zone 0).contains (s 10).outPoint = true ∧
      ((s 11).zone 0).contains (s 11).outPoint = false) ∧ (8 : Nat) ≤ 8 :=
  ⟨rfl, rfl, by decide, fun x h b hb => by
    simp only [List.mem_cons, List.not_mem_nil, or_false] at h
    rcases h with h | h | h | h <;> subst h <;> simp_all <;> subst hb <;> decide,
   by decide +kernel, by decide, by decide, by decide +kernel, by decide +kernel, le_refl 8⟩

theorem test_meets_CascadeStopsTheCrane :
    ((playing .running).player .a).state ≠ .releasing ∧
    (let s := (blending (fading 1 4)).setPlayer .a (goer .releasing);
      (s.player .a).state = .releasing ∧ s.refCount .a ≠ 0 ∧ (cascade s).refCount .a = 0) := by decide +kernel

theorem test_meets_ZoneAndStopRequestsComplete_stop :
    State.reset.delivers = true ∧ State.reset.stopLine = .released ∧
    ({ State.reset with stopLine := .asserted } : State).stopLine = .asserted := by decide +kernel

theorem test_meets_OnlyEnableOrResumeActivates :
    (∃ t, exec .resumeAll (crane .held) = .next t) ∧ ((crane .held).axis 0).state ≠ .active ∧
    reads (exec .resumeAll (crane .held)) (fun t => (t.axis 0).state) = some .active ∧
    reads (exec (.enableAxis 1) (crane .disabled)) (fun t => (t.axis 0).state) = some .active :=
  ⟨⟨_, rfl⟩, by decide +kernel, by decide +kernel, by decide +kernel⟩

/-- A crane whose SWING, in state `st`, has window 15 open after an exchange with the setpoint `p`. -/
def asked (st : AxisState) (p : Int) : State :=
  (crane st).modAxis 0 fun a => { a with
    window := some { seq := 15, setpoint := 10, enable := true, answered := false },
    prev := some { setpoint := p, enable := true } }

/-- A fault record of SWING. -/
def following : FaultRecord :=
  { kind := .following, axis := some 0, player := none, frame := 0, setpoint := none, actual := none, code := none,
    move := none, index := none }

theorem test_meets_AxisRequestsComplete :
    State.reset.delivers = true ∧ ((State.reset.axis 0).state = .unconfigured ∧ ((crane .disabled).axis 0).state = .disabled) ∧
    badField? wire = none ∧ badField? { wire with missLimit := some 16 } = some 14 ∧
    badField? { wire with softMax := -1000 } = some 0 ∧
    ((crane .held).axis 0).state ≠ .unconfigured ∧ ((crane .held).axis 0).state ≠ .disabled ∧
    ((crane .disabled).axis 0).blend.steadyLive = true ∧
    (crane .disabled).inEnabledZone (pointOf fun j => if j = 0 then 0 else (crane .disabled).geoOut j) = false ∧
    (let s := (crane .disabled).setZone 0 { Zone.blank with swing := some (0, 0), enabled := true };
      geometric 0 = true ∧ s.inEnabledZone (pointOf fun j => if j = 0 then 0 else s.geoOut j) = true) ∧
    ((crane .active).axis 0).state ≠ .fault ∧
    (((crane .fault).axis 0).state = .fault ∧ following.axis = some 0 ∧ (State.reset.log.report following).locked = true ∧
      (State.reset.log.report following).record = some following ∧ (some 1 : Option (Fin 8)) ≠ some 0) ∧
    State.reset.log.locked = false ∧ (8 : Nat) ≤ 8 := by decide +kernel

/-- The fields of Table 9-1 at both ends of their ranges, and each one past an end. -/
theorem test_meets_AxisRequestsComplete_fields :
    [{ wire with softMin := -8388608, softMax := -8388607 }, { wire with softMin := 8388606, softMax := 8388607 },
      { wire with band := 0, vmax := 1, amax := 1, vstick := 0, channel := none, deadband := 0 },
      { wire with band := 1000000, vmax := 65535, amax := 4095, vstick := 65535, channel := some 7, invert := 1, deadband := 512 },
      { wire with curve := 2, mode := 0, trimMax := 0, feLimit := 1, tipScaled := 1, missLimit := some 1 },
      { wire with curve := 1, trimMax := 1000000, feLimit := 1000000, missLimit := some 15 }].map badField? =
      List.replicate 6 none ∧
    [{ wire with softMin := -8388609 }, { wire with softMin := 1000 }, { wire with softMax := 8388608 }, { wire with band := 1000001 },
      { wire with vmax := 0 }, { wire with amax := 4096 }, { wire with vstick := 65536 }, { wire with channel := some 8 },
      { wire with invert := 2 }, { wire with deadband := 513 }, { wire with curve := 3 }, { wire with mode := 2 },
      { wire with trimMax := 1000001 }, { wire with feLimit := 0 }, { wire with tipScaled := 2 },
      { wire with missLimit := some 0 }].map badField? = some 0 :: (List.range 15).map some ∧
    configOf wire = cfg := by decide +kernel

/-- A DISABLED axis that SET_AXIS finds with a window open and an exchange before it. -/
theorem test_meets_AxisRequestsComplete_kept :
    ((asked .disabled 10).axis 0).state = .disabled ∧ ((asked .disabled 10).axis 0).window.isSome = true ∧
    reads (exec (.setAxis 0 wire) (asked .disabled 10)) (fun t => ((t.axis 0).window, (t.axis 0).prev)) =
      some (some { seq := 15, setpoint := 10, enable := true, answered := false }, some { setpoint := 10, enable := true }) := by
  decide +kernel

theorem test_meets_EnableAndDisableComplete :
    (let s := crane .disabled;
      s.delivers = true ∧ (1#8 : Mask) ≠ 0#8 ∧ s.stopLine = .released ∧
      (∀ i : Fin 8, Mask.has 1#8 i = true → (s.axis i).state = .disabled ∧ (s.axis i).miss = 0 ∧
        (s.axis i).drive = some .ok ∧ (s.axis i).blend.steadyLive = true ∧ (s.axis i).actual = some 10 ∧
        (s.axis i).cfg = some cfg) ∧ cfg.softMin ≤ 10 ∧ 10 ≤ cfg.softMax ∧ s.inEnabledZone (s.enablePoint 1#8) = false) ∧
    (Mask.has 3#8 1 = true ∧ ((crane .disabled).axis 1).state ≠ .disabled) ∧
    (let s := (crane .disabled).setZone 0 { Zone.blank with swing := some (10, 10), enabled := true };
      Mask.has 1#8 0 = true ∧ geometric 0 = true ∧ s.inEnabledZone (s.enablePoint 1#8) = true) ∧
    (Mask.has 3#8 0 = true ∧ ((crane .held).axis 0).enabled = true ∧ ((crane .held).axis 1).enabled = false) ∧
    (∀ i : Fin 8, Mask.has 1#8 i = true → ((crane .stopping).axis i).enabled = true) := by decide +kernel

/-- Each cause for which ENABLE_AXIS refuses an axis; an actual on a soft limit is no cause. -/
theorem test_meets_EnableAndDisableComplete_refused :
    let s (f : Axis → Axis) : State := (crane .disabled).modAxis 0 f
    let at_ (x : Int) : State := s fun a => { a with actual := some x }
    ((s fun a => { a with actual := none }).axis 0).actual = none ∧ ((s fun a => { a with miss := 1 }).axis 0).miss ≠ 0 ∧
    ((s fun a => { a with drive := some .warn }).axis 0).drive ≠ some .ok ∧
    (((at_ 1001).axis 0).state = .disabled ∧ ((at_ 1001).axis 0).actual = some 1001 ∧ ((at_ 1001).axis 0).miss = 0 ∧
      ((at_ 1001).axis 0).drive = some .ok ∧ ((at_ 1001).axis 0).cfg = some cfg ∧ cfg.softMax < 1001 ∧ -1001 < cfg.softMin) ∧
    (crane .disabled).stopLine = .released ∧ Mask.has 1#8 0 = true ∧ (256 : Nat) ≤ 256 ∧
    [s fun a => { a with actual := none }, s fun a => { a with miss := 1 }, s fun a => { a with drive := some .warn },
      at_ 1001, at_ (-1001), at_ 1000, at_ (-1000)].map (fun s => (sent? (exec (.enableAxis 1) s)).map (·.take 1)) =
    [Result.wrongState, .wrongState, .wrongState, .outsideLimits, .outsideLimits, .ok, .ok].map
      (fun r => some (u8 r.code)) := by decide +kernel

theorem test_meets_DriveReplyIsTaken :
    (let s := asked .active 10;
      s.power.on = true ∧ (s.axis 0).state ≠ .unconfigured ∧
      (s.axis 0).window = some { seq := 15, setpoint := 10, enable := true, answered := false } ∧ (15 : Nat) ≤ 15 ∧
      (s.axis 0).enabled = true ∧ (s.axis 0).followingSetpoint? 20 = none ∧ (s.axis 0).moving = true ∧
      (s.axis 0).cfg = some cfg ∧ (s.axis 0).prev = some { setpoint := 10, enable := true } ∧
      cfg.feLimit < ((10 : Int) - 21).natAbs) ∧
    driveStatusOf? 3 0 = none ∧ driveStatusOf? 2 255 = some (.fault 255) ∧ driveStatusOf? 1 0 = some .warn ∧
    inPosRange posMin = true ∧ driveCheck 0 15 0 0 0 + 1 ≠ driveCheck 0 15 0 0 0 ∧ (14 : Nat) ≠ 15 ∧
    ((asked .fault 10).axis 0).state = .fault ∧ ((asked .disabled 10).axis 0).state = .disabled := by decide +kernel

theorem test_meets_DriveReplyIsTaken_discarded :
    State.reset.power.on = true ∧ (8 : Nat) ≤ 8 ∧ (15 : Nat) < 16 ∧ inPosRange (posMax + 1) = false ∧
    (State.reset.axis 7).state = .unconfigured ∧ ((crane .held).axis 0).state = .held ∧
    ((crane .held).axis 0).window = none := by decide +kernel

theorem test_meets_AxisFaultStopsTheCrane :
    let s (n : Nat) : State := (crane .held).modAxis 0 fun a => { a with miss := n }
    ((crane .disabled).axis 0).enabled = false ∧
    (s 2).power.on = true ∧ ((s 2).axis 0).enabled = true ∧ ((s 2).axis 0).cfg = some cfg ∧ ((s 2).axis 0).miss < cfg.missLimit ∧
    cfg.missLimit ≤ ((s 3).axis 0).miss ∧ (s 3).log.locked = false := by decide +kernel

/-- The clauses on the window close: a window unanswered below the limit and at it, one answered, and none open. -/
theorem test_meets_AxisFaultStopsTheCrane_window :
    let s (n : Nat) : State := (asked .active 10).modAxis 0 fun a => { a with miss := n }
    let w : Window := { seq := 15, setpoint := 10, enable := true, answered := false }
    (∀ i : Fin 8, ((s 2).axis i).configured = ((s 2).axis i).configured) ∧ ((s 2).axis 1).configured = false ∧
    ((s 2).axis 0).configured = true ∧
    (((s 2).axis 0).enabled = true ∧ ((s 2).axis 0).window = some w ∧ w.answered = false ∧ ((s 2).axis 0).cfg = some cfg ∧
      cfg.missLimit ≤ min (2 + 1) 15) ∧
    ¬ cfg.missLimit ≤ min (1 + 1) 15 ∧ ((crane .active).axis 0).window = none := by decide +kernel

/-- Table 9-6, steps 5 and 7: the close that brings the count to miss_limit faults the axis before its exchange is sent. -/
theorem test_drive_falls_silent :
    let s (n : Nat) : State := (asked .active 10).modAxis 0 fun a => { a with miss := n }
    let t (n : Nat) : State := drivePublication (s n) (s n)
    (((t 1).axis 0).state = .active ∧ ((t 1).axis 0).miss = 2 ∧ (t 1).exchanges.map (·.enable) = [true]) ∧
    ((t 2).axis 0).state = .fault ∧ ((t 2).axis 0).miss = 3 ∧ (t 2).exchanges.map (·.enable) = [false] := by decide +kernel

theorem test_meets_MoveRequestsComplete :
    State.reset.delivers = true ∧ (255#8 : Mask) ≠ 0#8 ∧
    (1 ≤ (List.replicate 12 126).length ∧ (List.replicate 12 126).length ≤ 12 ∧
      (∀ c ∈ List.replicate 12 126, 32 ≤ c ∧ c ≤ 126) ∧ (State.reset.entry 31).state = .empty) ∧
    (12 < (List.replicate 13 65).length ∧ (127 : Nat) > 126 ∧ (31 : Nat) < 32) ∧
    (nameOk 1 [32] = true ∧ ((holding (moveOf .ready none 2)).entry 0).state ≠ .empty) ∧
    (let s := holding (moveOf .writing (some .console) 2);
      (s.entry 0).state = .writing ∧ (s.entry 0).writer = some .console ∧ s.putOn 0 = false ∧ 2 ≤ (s.entry 0).keys) ∧
    ((holding (moveOf .writing (some .recorder) 2)).entry 0).writer ≠ some .console ∧
    ({ holding (moveOf .writing (some .console) 2) with
      txn := some { via := .direct 0x21, move := 0, work := .put [] 0 } } : State).putOn 0 = true ∧
    ((holding (moveOf .writing (some .console) 1)).entry 0).keys < 2 ∧ ((0 : Nat) = 0 ∨ 32 < 33) := by decide +kernel

theorem test_meets_DeleteMoveReleasesTheChain :
    (let s := (holding (moveOf .ready none 2)).setBlock 7 { cls := .chained, link := none, suspect := true };
      s.delivers = true ∧ s.lib.wf = true ∧ (s.chain (s.entry 0)).Nodup ∧ s.chain (s.entry 0) = [7] ∧
      (s.entry 0).state ≠ .empty ∧ (s.entry 0).writer ≠ some .recorder ∧ s.txnOn 0 = false ∧
      (s.entry 0).flags.isProtected = false ∧ (s.entry 0).users = 0 ∧ (s.block 7).suspect = true ∧
      reads (exec (.deleteMove 1) s) (fun t => (t.noticeSlot .store).detail) =
        some (some { frame := 0, detail := .storeRetired 0 1 })) := by decide +kernel

/-- Each refusal of DELETE_MOVE, at the ends of the range of ids. -/
theorem test_meets_DeleteMoveReleasesTheChain_refused :
    let ready := holding (moveOf .ready none 2)
    let reading (m : MoveIx) : Option Txn := some { via := .direct 0x23, move := m, work := .read 0 1 [] }
    let flagged (u : Nat) : State :=
      holding { moveOf .ready none 2 with flags := { (moveOf .ready none 2).flags with isProtected := true }, users := u }
    State.reset.delivers = true ∧ ((0 : Nat) = 0 ∧ 32 < 33) ∧ (State.reset.entry 31).state = .empty ∧
    (((holding (moveOf .writing (some .recorder) 2)).entry 0).state = .writing ∧
      ((holding (moveOf .writing (some .recorder) 2)).entry 0).writer = some .recorder) ∧
    ((ready.entry 0).state ≠ .empty ∧ (ready.entry 0).state ≠ .writing ∧ ready.txn = none) ∧
    ((({ ready with txn := reading 0 } : State).txn.map (·.move)) = some 0 ∧ (1 : MoveIx) ≠ 0) ∧
    ((flagged 2).entry 0).flags.isProtected = true ∧
    (((holding { moveOf .ready none 2 with users := 1 }).entry 0).flags.isProtected = false ∧
      ((holding { moveOf .ready none 2 with users := 1 }).entry 0).users ≠ 0) ∧
    [({ ready with txn := reading 0 } : State), { ready with txn := reading 1 }, flagged 2].map
      (fun s => (sent? (exec (.deleteMove 1) s)).map (·.take 1)) =
      [Result.busy, .ok, .protectedMove].map (fun r => some (u8 r.code)) := by decide +kernel

theorem test_meets_KeyTransactionsBegin :
    (let s := holding (moveOf .writing (some .console) 16);
      let w : WireKey := { time := 16777215, shape := 2, positions := [0] };
      s.delivers = true ∧ (s.entry 0).state = .writing ∧ (s.entry 0).writer = some .console ∧ (List.replicate 8 w).length ≤ 8 ∧
      (∀ x ∈ [w], x.positions.length = s.axesOf (0 + 1)) ∧ s.txn = none ∧
      keysOf? [w] = some ({ time := 16777215, shape := .step, positions := [0] } :: []) ∧
      keyInOrder (s.entry 0) { time := 16777215, shape := .step, positions := [0] } = true ∧ s.port = KeyPort.idle ∧
      s.lib.freeList ≠ []) ∧
    (State.reset.entry 0).state ≠ .writing ∧
    (let s := holding (moveOf .ready none 3);
      (s.entry 0).state ≠ .empty ∧ 2 + 1 ≤ (s.entry 0).keys ∧ (s.entry 0).keys < 3 + 1 ∧
      ({ s with txn := some { via := .direct 0x23, move := 1, work := .read 0 1 [] } } : State).txn ≠ none) := by decide +kernel

theorem test_meets_KeyTransactionsBegin_refused :
    let s (n : Nat) : State := holding (moveOf .writing (some .console) n)
    let full : State := { s 16 with lib := { (s 16).lib with freeList := [] } }
    let w (t sh : Nat) : WireKey := { time := t, shape := sh, positions := [0] }
    (∀ n ∈ [0, 16], ((s n).entry 0).state = .writing ∧ ((s n).entry 0).writer = some .console ∧ (s n).txn = none) ∧
    (w 0 0).positions.length = (s 16).axesOf (0 + 1) ∧ 16777215 < (w 16777216 2).time ∧ 2 < (w 0 3).shape ∧
    ({ s 16 with txn := some { via := .direct 0x23, move := 1, work := .read 0 1 [] } } : State).txn ≠ none ∧
    (keysOf? [w 5 0] = some ({ time := 5, shape := .linear, positions := [0] } :: []) ∧
      ((s 16).entry 0).keys ≠ 0 ∧ 5 ≤ ((s 16).entry 0).endTime.getD 0 ∧ ((s 0).entry 0).keys = 0 ∧ 5 ≠ 0) ∧
    (((s 16).entry 0).endTime.getD 0 < 6 ∧ full.port = KeyPort.idle ∧ (full.entry 0).keys % 16 = 0 ∧ full.lib.freeList = []) ∧
    (32 : Nat) < 33 ∧ (8 : Nat) < 9 := by decide +kernel

theorem test_meets_KeyAccessCompletes :
    State.reset.port.serving = none ∧
    (let s : State := { holding (moveOf .writing (some .console) 15) with port := { KeyPort.idle with
        serving := some { access := .consoleWrite 0 key6, wanted := true, released := false } } };
      s.power.on = true ∧ s.port.serving = some { access := .consoleWrite 0 key6, wanted := true, released := false } ∧
      s.port.waitConsole = none ∧ s.lib.wf = true ∧ s.recorder.move ≠ some 0 ∧ (s.entry 0).last = some 7) ∧
    (let s := (holding (moveOf .ready none 2)).setSlot 7 15 { key := key6, health := .damaged };
      s.lib.wf = true ∧ s.readOutcome 7 15 .good = .damaged ∧ s.readOutcome 7 14 .corrected = .corrected ∧
      s.readOutcome 7 14 .good = .good ∧ (s.slot 7 14).health = .good ∧ (s.slot 7 15).health = .damaged) ∧
    (let s := (holding (moveOf .ready none 2)).setSlot 7 15 { key := key6, health := .corrected };
      s.lib.wf = true ∧ (s.slot 7 15).health = .corrected ∧ s.readOutcome 7 15 .good = .corrected) := by decide +kernel

theorem test_meets_ArbiterGrantsInPriority :
    let f : Access := .fetch .a 0 0 7 0
    (({ State.reset with port := { KeyPort.idle with serving := some { access := f, wanted := true, released := false } } } : State).port.serving ≠ none) ∧
    State.reset.lib.freeList ≠ [] ∧
    (let q : KeyPort := { KeyPort.idle with waitA := some f, waitB := some f };
      q.serving = none ∧ q.waitA = some f) ∧
    (let q : KeyPort := { KeyPort.idle with waitB := some f, waitRecorder := some f };
      q.waitA = none ∧ q.waitB = some f) ∧
    (let q : KeyPort := { KeyPort.idle with waitRecorder := some (.recorderWrite 0 key6) };
      q.waitA = none ∧ q.waitB = none ∧ q.waitRecorder = some (.recorderWrite 0 key6)) ∧
    (let s : State := { holding { moveOf .writing (some .console) 16 with users := 0 } with
        port := { KeyPort.idle with waitConsole := some (.consoleWrite 0 key6) },
        txn := some { via := .direct 0x21, move := 0, work := .put [key6] 0 } };
      let t : State := { s with lib := { s.lib with freeList := [] } };
      s.port = { KeyPort.idle with waitConsole := some (.consoleWrite 0 key6) } ∧ (t.entry 0).keys % 16 = 0 ∧
      t.lib.freeList = [] ∧ t.txn ≠ none) := by decide +kernel

theorem test_meets_ArbiterGrantsInPriority_allocation :
    let s (n : Nat) (l : Option Nat) : State := { holding { moveOf .writing (some .console) n with last := l } with
      port := { KeyPort.idle with waitConsole := some (.consoleWrite 0 key6) } }
    let r : State := { holding (moveOf .writing (some .recorder) 17) with
      port := { KeyPort.idle with waitRecorder := some (.recorderWrite 0 key6) } }
    (s 0 none).lib.wf = true ∧ (s 0 none).port = { KeyPort.idle with waitConsole := some (.consoleWrite 0 key6) } ∧
    r.port = { KeyPort.idle with waitRecorder := some (.recorderWrite 0 key6) } ∧ (r.entry 0).keys % 16 ≠ 0 ∧
    ((s 0 none).entry 0).keys % 16 = 0 ∧ (s 0 none).lib.freeList = 0 :: (s 0 none).lib.freeList.tail ∧
    ((s 0 none).entry 0).last = none ∧ ((s 16 (some 7)).entry 0).keys % 16 = 0 ∧
    ((s 16 (some 7)).entry 0).last = some 7 ∧ (some 7 : Option Nat) ≠ some 0 := by decide +kernel

theorem test_meets_ArbiterGrantsInPriority_storeFull : ∃ (s : State) (v : Via) (left : List Key) (n : Nat),
    s.txn = some { via := v, move := 0, work := .put left n } ∧ (s.entry 0).keys % 16 = 0 ∧ s.lib.freeList = [] :=
  ⟨{ State.reset with
      lib := { State.reset.lib with freeList := [] }, txn := some { via := .direct 0x21, move := 0, work := .put [key6] 8 } },
    .direct 0x21, [key6], 8, rfl, by decide +kernel, rfl⟩

/-- A console transaction on entry 0, with this work, whose access is served. -/
def transacting (n : Nat) (a : Access) (released : Bool) (w : TxnWork) : State :=
  { holding (moveOf .writing (some .console) n) with
    port := { KeyPort.idle with serving := some { access := a, wanted := true, released := released } },
    txn := some { via := .direct 0x21, move := 0, work := w } }

theorem test_meets_ConsoleTransactionGoesOn :
    let key7 : Key := { key6 with time := 7 }
    let put (n : Nat) (l : List Key) := transacting n (.consoleWrite 0 key6) false (.put (key6 :: l) 0)
    let read (r : Bool) (i left : Nat) := transacting 3 (.consoleRead 0 i 7 i) r (.read i left [])
    let full : State := { put 15 [key7] with lib := { (put 15 [key7]).lib with freeList := [] } }
    (put 1 []).power.on = true ∧ (put 1 []).lib.wf = true ∧
    (put 1 []).port = { KeyPort.idle with
      serving := some { access := .consoleWrite 0 key6, wanted := true, released := false } } ∧
    (put 1 []).txn = some { via := .direct 0x21, move := 0, work := .put [key6] 0 } ∧
    key6.time ≤ key6.time ∧ key6.time < key7.time ∧
    ((full.entry 0).keys + 1) % 16 = 0 ∧ full.lib.freeList = [] ∧ full.lib.wf = true ∧
    (((put 1 [key7]).entry 0).keys + 1) % 16 ≠ 0 ∧ (put 15 [key7]).lib.freeList ≠ [] ∧
    (read true 1 1).txn = some { via := .direct 0x21, move := 0, work := .read 1 1 [] } ∧
    (read false 1 2).port = { KeyPort.idle with
      serving := some { access := .consoleRead 0 1 7 1, wanted := true, released := false } } ∧
    (read false 1 1).readOutcome 7 1 .damaged = .damaged ∧ (read false 1 1).readOutcome 7 1 .corrected ≠ .damaged ∧
    ((read false 1 2).entry 0).state ≠ .empty := by decide +kernel

theorem test_meets_PlayerRequestsComplete_load :
    (let s := holding (moveOf .ready none 2);
      s.delivers = true ∧ (s.player .b).state = .idle ∧ 512 ≤ 512 ∧ (s.entry 0).state = .ready ∧
      (s.entry 0).flags.damaged = false ∧ (s.entry 0).first = some 7 ∧ 0 < (s.entry 0).keys ∧ s.port = KeyPort.idle) ∧
    ((playing .loaded).player .a).state ≠ .idle ∧ (State.reset.entry 0).state = .empty ∧
    ((holding (moveOf .writing (some .console) 2)).entry 0).state = .writing ∧
    ((holding { moveOf .ready none 2 with flags := { MoveFlags.none with damaged := true } }).entry 0).flags.damaged = true ∧
    ((33 : Nat) = 0 ∨ 32 < 33 ∨ 512 < 512) ∧ ((1 : Nat) = 0 ∨ 32 < 1 ∨ 512 < 513) := by
  decide +kernel

theorem test_meets_PlayerRequestsComplete_states :
    ((playing .loaded).player .a).state = .loaded ∧
    (((playing .paused).player .a).state = .paused ∧ ((playing .paused).player .a).endKey ≠ none) ∧
    (let s := (playing .paused).setPlayer .a { goer .paused with endKey := none };
      (s.player .a).state = .paused ∧ (s.player .a).endKey = none ∧ (s.player .a).filled = true) ∧
    ((playing .running).player .a).state = .running ∧ ((playing .starved).player .a).state = .starved ∧
    ((playing .ended).player .a).state = .ended ∧ ((playing .releasing).player .a).state = .releasing ∧
    ((playing .faulted).player .a).state = .faulted ∧ (playing .faulted).refCount .a = 0 ∧
    ((playing .running).axis 0).blend.names (PlayerId.source .a) = false ∧ (256 : Nat) ≤ 256 ∧ (512 : Nat) < 513 ∧
    ((8 : Nat) ≤ 8 ∨ 256 < 257) ∧ (2 : Nat) ≤ 2 := by decide +kernel

/-- A player A in state `st` with these keys, whose fetch of key `i` from slot `n` of block 7 is served. -/
def fetchingIn (st : PlayerState) (startKey endKey : Option PlayerKey) (fifo : List PlayerKey) (i n : Nat) : State :=
  { (holding (moveOf .ready none 40)).setBlock 7 { cls := .chained, link := some 9, suspect := false } with
    playerA := { Player.reset with
      state := st, move := some 0, mask := some 1#8, keyCount := some 40, startKey := startKey, endKey := endKey, fifo := fifo,
      filled := endKey.isSome, published := some [1], cursor := some { block := 7, slot := n, index := i },
      outstanding := true },
    port := { KeyPort.idle with serving := some { access := .fetch .a 0 i 7 n, wanted := true, released := false } } }

theorem test_meets_FetchedKeyIsPlaced :
    let k (i : Nat) : PlayerKey := { index := i, key := { key6 with time := i } }
    let s (st : PlayerState) := fetchingIn st (some (k 0)) none [] 1 1
    ((s .running).power.on = true ∧ (s .running).lib.wf = true ∧ (s .running).port = { KeyPort.idle with
      serving := some { access := .fetch .a 0 1 7 1, wanted := true, released := false } }) ∧
    (∀ st ∈ [PlayerState.idle, .releasing, .faulted, .loaded, .running, .paused, .starved], ((s st).player .a).state = st) ∧
    (s .running).readOutcome 7 1 .damaged = .damaged ∧ (s .running).readOutcome 7 1 .corrected = .corrected ∧
    ((fetchingIn .loaded none none [] 0 0).player .a).startKey = none ∧
    (((s .starved).player .a).startKey ≠ none ∧ ((s .starved).player .a).endKey = none) ∧
    ((fetchingIn .running (some (k 0)) (some (k 1)) [] 2 2).player .a).endKey ≠ none ∧
    (((s .running).player .a).keyCount = some 40 ∧ 40 ≤ 39 + 1 ∧ 38 + 1 < 40) ∧
    ((14 : Nat) < 15 ∧ (15 : Nat) ≤ 15 ∧ ((s .running).block 7).link = some 9) ∧
    7 ≤ ((fetchingIn .running (some (k 0)) (some (k 1)) ((List.range' 2 7).map k) 9 9).player .a).fifo.length := by
  decide +kernel

theorem test_meets_FetchedKeyIsPlaced_damaged :
    let s := (blending { fading 0 1 with fromSrc := .playA, len := none })
    (s.axis 0).state = .active ∧ (s.axis 0).blend.names (PlayerId.source .a) = true := by decide +kernel

/-- A DAMAGED key met in the middle of an output frame: the library flags it at once, the player faults after the publication. -/
theorem test_meets_FetchedKeyIsPlaced_inFrame :
    let k (i : Nat) : PlayerKey := { index := i, key := { key6 with time := i } }
    let s := fetchingIn .running (some (k 0)) (some (k 1)) [] 2 2
    let f := exec (.outputFrame [] { order := .bFirst, accesses := [.damaged] }) s
    (s.power.on = true ∧ s.lib.wf = true ∧ (s.player .a).state = .running ∧ (s.player .a).keysRemain = true ∧
      s.readOutcome 7 2 .damaged = .damaged ∧ (∀ q ∈ [PlayerId.a, .b], (s.player q).arrived = none) ∧
      s.cue.state ≠ .running ∧ s.cue.state ≠ .waiting) ∧
    ((frameAccesses [.damaged] s).player .a).state = .running ∧ ((frameAccesses [.damaged] s).entry 0).flags.damaged = true ∧
    reads f (fun t => ((t.player .a).state, (t.player .a).faultKey, (t.player .a).time)) = some (.faulted, some 2, 256) ∧
    reads f (fun t => t.log.record.map (·.frame)) = some (some 1) := by decide +kernel

/-- A cue that loads the move at the publication finds it DAMAGED, with the player that met the damaged key not yet FAULTED. -/
theorem test_frame_publishes_between_report_and_fault :
    let s := fetchingIn .running none none [] 2 2
    let c : State := { s with
      cue := { Cue.reset with state := .running }, cueList := (s.cueList.set 0 (.stopPlay .a)).set 1 (.load .a 0 256) }
    reads (exec (.outputFrame [] { order := .aFirst, midAccesses := [.damaged] }) c)
      (fun t => (t.cue.state, t.cue.haltCode, (t.player .a).state)) = some (.halted, some .damaged, .idle) := by decide +kernel

/-- RUN with keys remaining: at a FREE port, at a BUSY one, and with the fetch outstanding or no key remaining. -/
theorem test_meets_PlayerRequestsComplete_run :
    let k (i : Nat) : PlayerKey := { index := i, key := { key6 with time := i } }
    let busy := fetchingIn .loaded (some (k 0)) (some (k 1)) [] 2 2
    let free : State := { busy.setPlayer .a { busy.playerA with outstanding := false } with port := KeyPort.idle }
    let wait : State := { free with port := { KeyPort.idle with
      serving := some { access := .recorderWrite 1 key6, wanted := true, released := false } } }
    let f : Access := .fetch .a 0 2 7 2
    (free.delivers = true ∧ (free.player .a).state = .loaded ∧ (free.player .a).move = some 0 ∧
      (free.player .a).cursor = some { block := 7, slot := 2, index := 2 } ∧ (free.player .a).keyCount = some 40 ∧
      (free.player .a).outstanding = false ∧ (free.player .a).fifo.length < 8 ∧ free.port = KeyPort.idle) ∧
    wait.port.serving ≠ none ∧ (busy.player .a).outstanding = true ∧ ((playing .loaded).player .a).move = none ∧
    reads (exec (.run 0) free) (·.port.serving.map (·.access)) = some (some f) ∧
    reads (exec (.run 0) wait) (·.port.waitA) = some (some f) ∧
    reads (exec (.run 0) busy) (·.port) = some busy.port := by decide +kernel

/-- STOP with an ACTIVE axis that follows the player, which fades out or is cut; with its fetch waiting; and in FAULTED. -/
theorem test_meets_PlayerRequestsComplete_stop :
    let on (b : Blend) (st : PlayerState) := (blending b).setPlayer .a { goer st with outstanding := true }
    let steady : Blend := { fading 0 1 with fromSrc := .playA, len := none }
    let waits : State := { on steady .paused with port := { KeyPort.idle with waitA := some (.fetch .a 0 2 7 2) } }
    let after (s : State) := reads (exec (.stop 0) s) fun t => ((t.player .a).state, t.refCount .a, (t.player .a).outstanding)
    (waits.delivers = true ∧ (waits.axis 0).state = .active ∧ (waits.axis 0).blend.names (PlayerId.source .a) = true ∧
      waits.port.fetchWaits .a = true ∧ (waits.player .a).state = .paused) ∧
    after waits = some (.releasing, 1, false) ∧ after (on steady .ended) = some (.releasing, 1, true) ∧
    after (on { fading 2 4 with fromSrc := .playB } .running) = some (.idle, 0, false) ∧
    (((on steady .faulted).player .a).state = .faulted ∧
      reads (exec (.stop 0) (on steady .faulted)) (fun t => ((t.player .a).state, (t.axis 0).blend.toSrc, (t.axis 0).blend.len)) =
        some (.idle, .live, none)) := by decide +kernel

theorem test_meets_InterpolationStaysBetweenKeys :
    (0 < 25600 ∧ 25600 ≤ 25600) ∧ 2 * 12800 = 25600 ∧ 25599 < 25600 ∧ (0 : Nat) ≤ 1 ∧
    65535 * 65536 / 65536 = 65535 ∧ 32768 * 65536 / 65536 = 32768 ∧ (0 : Int) ≠ 1 ∧ key6.positions[0]? = some 1 ∧
    (let r : Player := { Player.reset with fifo := [{ index := 2, key := key6 }] }
     (goer .running).fifo = [] ∧ 4 * 256 ≤ 1024 ∧ r.fifo = { index := 2, key := key6 } :: [] ∧ 1024 < key6.time * 256) := by
  decide

theorem test_meets_PositionRequestAdvances :
    ((playing .paused).player .a).state ≠ .running ∧ ((playing .running).player .a).binding = none ∧
    ({ Player.reset with binding := some { channel := 0, span := 128 } } : Player).binding =
      some { channel := 0, span := 128 } ∧
    ((playing .running).setPlayer .a { Player.reset with state := .running }).playerA.filled = false ∧
    (let r := (playing .running).player .a;
      r.state = .running ∧ r.filled = true ∧
      r.startKey = some { index := 0, key := { time := 0, shape := .ease, positions := [10] } } ∧
      r.endKey = some { index := 1, key := { time := 4, shape := .ease, positions := [20] } } ∧
      r.time + (playing .running).boundRate r < 4 * 256 ∧ r.fifo = []) ∧
    (let s := (playing .running).setPlayer .a { goer .running with time := 768, fifo := [{ index := 2, key := key6 }] };
      4 * 256 ≤ (s.player .a).time + s.boundRate (s.player .a) ∧ (s.player .a).fifo = { index := 2, key := key6 } :: [] ∧
      (s.player .a).time + s.boundRate (s.player .a) < key6.time * 256) := by decide +kernel

/-- The notices, and the fetch after a pop: at a FREE port, at a BUSY one, and with the fetch outstanding. -/
theorem test_meets_PositionRequestAdvances_fetch :
    let k (i : Nat) : PlayerKey := { index := i, key := { key6 with time := i } }
    let busy := fetchingIn .running (some (k 0)) (some (k 1)) [k 2, k 3] 4 4
    let free : State := { busy.setPlayer .a { busy.playerA with outstanding := false, rate := 256 } with port := KeyPort.idle }
    let wait : State := { free with port := { KeyPort.idle with
      serving := some { access := .recorderWrite 1 key6, wanted := true, released := false } } }
    let f : Access := .fetch .a 0 4 7 4
    let ends := (playing .running).setPlayer .a { goer .running with time := 1023, rate := 1 }
    ((free.player .a).state = .running ∧ (free.player .a).filled = true ∧ (free.player .a).startKey = some (k 0) ∧
      (free.player .a).endKey = some (k 1) ∧ (free.player .a).move = some 0 ∧
      (free.player .a).cursor = some { block := 7, slot := 4, index := 4 } ∧ (free.player .a).keyCount = some 40 ∧
      (free.player .a).outstanding = false ∧ 1 * 256 ≤ (free.player .a).time + free.boundRate (free.player .a) ∧
      (free.player .a).fifo = k 2 :: [k 3] ∧ (free.player .a).time + free.boundRate (free.player .a) < 2 * 256) ∧
    free.port = KeyPort.idle ∧ wait.port.serving ≠ none ∧ (busy.player .a).outstanding = true ∧
    (positionRequest .a free).port.serving.map (·.access) = some f ∧ (positionRequest .a wait).port.waitA = some f ∧
    (((positionRequest .a ends).player .a).state = .ended ∧ ((positionRequest .a ends).noticeSlot .player).detail =
      some { frame := 0, detail := .player .a .ended (some (.mark 0)) 4 none }) ∧
    ((positionRequest .a free).player .a).state = .running := by decide +kernel

theorem test_meets_MarkRequestsComplete :
    (State.reset.delivers = true ∧ (3#8 : Mask) ≠ 0#8 ∧ ([] : List Nat).length ≤ 12 ∧ [posMin, posMax].length = Mask.count 3#8 ∧
      (∀ x ∈ [posMin, posMax], posMin ≤ x ∧ x ≤ posMax)) ∧
    nameOk 0 (List.replicate 13 65) = false ∧ ¬ (posMax + 1 ≤ posMax) ∧
    (∀ i : Fin 8, Mask.has 1#8 i = true → ((crane .fault).axis i).state ≠ .unconfigured) ∧
    (nameOk 0 [] = true ∧ Mask.has 3#8 1 = true ∧ ((crane .fault).axis 1).state = .unconfigured ∧
      ((crane .fault).axis 0).state ≠ .unconfigured) ∧ (64 : Nat) ≤ 64 ∧
    (let x : MarkData := { name := [], mask := 3#8, positions := [0, 0] };
      let s := (crane .active).setMark 63 (some x);
      (s.player .b).state = .idle ∧ s.marks[63] = some x ∧ s.marks[0] = none ∧ 1 ≤ 1 ∧ 65535 ≤ 65535) ∧
    ((playing .ended).player .a).state ≠ .idle := by decide +kernel

theorem test_meets_MarkRequestsComplete_values :
    State.reset.delivers = true ∧ ([] : List Int).length = maskAxes 0 ∧ (256 : Nat) ≤ 256 ∧ (64 : Nat) ≤ 64 ∧
    (65535 : Nat) < 65536 ∧ (2 : Nat) ≤ 2 := by decide

theorem test_meets_GoToArrives : (1 : Nat) ≤ 1 ∧ 0 < 1 ∧ (1 : Nat) ≤ 1 := by decide

theorem test_meets_RecorderRequestsComplete :
    (State.reset.delivers = true ∧ (1#8 : Mask) ≠ 0#8 ∧ nameOk 1 [65] = true ∧ 1 ≤ 64 ∧ 64 ≤ 64 ∧
      State.reset.recorder.state = .idle ∧ (State.reset.entry 0).state = .empty) ∧
    ((holding (moveOf .ready none 2)).entry 0).state ≠ .empty ∧ (taking .closing none none [] false).recorder.state = .closing ∧
    ((taking .armed none none [] false).recorder.move = some 0 ∧ (taking .armed none none [] false).recorder.state = .armed) ∧
    ((taking .recording none none [] false).recorder.state = .recording ∧
      (taking .recording none none [] false).recorder.frames = none) ∧
    (let s := taking .recording (some 16777215) (some 16777215) [key6] true;
      s.recorder.state = .recording ∧ s.recorder.frames = some 16777215 ∧ s.recorder.lastQueued = some 16777215 ∧
      s.recorder.outstanding = true ∧ s.recorder.fifo ≠ []) ∧
    (let s := taking .recording (some 5) (some 4) (List.replicate 7 key6) true;
      s.recorder.frames = some 5 ∧ s.recorder.lastQueued = some 4 ∧ (4 : Nat) < 5 ∧ s.recorder.move = some 0 ∧
      s.recorder.mask = some 1#8 ∧ s.recorder.outstanding = true ∧ s.recorder.fifo.length < 8) ∧
    (let s := taking .recording (some 5) (some 5) [] false;
      s.recorder.frames = some 5 ∧ s.recorder.lastQueued = some 5 ∧ s.recorder.fifo = [] ∧ 2 ≤ (s.entry 0).keys) := by
  decide +kernel

theorem test_meets_RecorderRequestsComplete_values :
    State.reset.delivers = true ∧ (32 : Nat) < 33 ∧ nameOk 1 [] = false ∧ (256 : Nat) ≤ 256 ∧ (64 : Nat) < 65 ∧ (3 : Nat) ≤ 3 ∧
    (2 : Nat) ≤ 2 := by decide

/-- A take with the greatest frame count, its last queued key at time 9. -/
def ending (fifo : List Key) (out : Bool) : State := taking .recording (some 16777215) (some 9) fifo out

/-- The same take with nothing left to write, its entry of `n` keys. -/
def written (n : Nat) : State :=
  (taking .recording (some 16777215) (some 16777215) [] false).setEntry 0
    { moveOf .writing (some .recorder) n with first := none, last := none }

/-- The final key skipped, queued already, and queued: its write asked of a FREE port, of a BUSY one, and of a FREE one with a
new block; and nothing left to write. -/
def endings : List State :=
  let busy : KeyPort := { KeyPort.idle with
    serving := some { access := .fetch .a 1 0 9 0, wanted := true, released := false } }
  [ending (List.replicate 8 key6) true, taking .recording (some 16777215) (some 16777215) [key6] true, ending [] false,
    { ending [] false with port := busy }, (ending [] false).setEntry 0 (moveOf .writing (some .recorder) 16),
    written 2, written 1]

theorem test_meets_RecorderRequestsComplete_ends :
    (∀ s ∈ endings, s.delivers = true ∧ s.recorder.state = .recording ∧ s.recorder.frames = some 16777215 ∧
      s.recorder.move = some 0 ∧ s.recorder.mask = some 1#8) ∧
    ((ending (List.replicate 8 key6) true).recorder.fifo.length = 8 ∧ (ending [] false).port = KeyPort.idle ∧
      ((ending [] false).entry 0).keys % 16 ≠ 0 ∧ (ending [] false).lib.freeList ≠ []) ∧
    ((written 1).lib.wf = true ∧ (written 1).chain ((written 1).entry 0) = [] ∧ ((written 1).entry 0).keys < 2 ∧
      2 ≤ ((written 2).entry 0).keys) := by decide +kernel

/-- What the end of a take leaves: the states of the Recorder and of the entry; the keys in the FIFO and those skipped; and whether
a write is outstanding, one is served, one waits, and the move is GAPPED. -/
def leaves (t : State) : RecState × EntryState × List Nat × List Bool :=
  (t.recorder.state, (t.entry 0).state, [t.recorder.fifo.length, t.recorder.skipped],
    [t.recorder.outstanding, t.port.serving.isSome, t.port.waitRecorder.isSome, (t.entry 0).flags.gapped])

/-- What R145 to R148 leave of each of these takes. -/
def left : List (RecState × EntryState × List Nat × List Bool) :=
  [(.closing, .writing, [8, 1], [true, false, false, true]), (.closing, .writing, [1, 0], [true, false, false, false]),
    (.closing, .writing, [1, 0], [true, true, false, false]), (.closing, .writing, [1, 0], [true, true, true, false]),
    (.closing, .writing, [1, 0], [true, true, false, false]), (.idle, .ready, [0, 0], [false, false, false, false]),
    (.idle, .empty, [0, 0], [false, false, false, false])]

theorem test_record_stop_ends_the_take :
    endings.map (fun s => reads (exec .recordStop s) leaves) = left.map some := by decide +kernel

theorem test_time_limit_ends_the_take :
    endings.map (fun s => reads (exec .recorderTimeLimit s) leaves) = left.map some := by decide +kernel

theorem test_meets_RecorderCapturesAtItsDecimation :
    let s (n : Nat) (d : Nat) (l : List Key) : State :=
      { taking .recording (some n) (some 0) l true with
        recorder := { (taking .recording (some n) (some 0) l true).recorder with decimation := d } }
    ((s 4 2 []).recorder.move = some 0 ∧ (s 4 2 []).recorder.mask = some 1#8 ∧ (s 4 2 []).recorder.state = .recording) ∧
    ((4 + 1) % (s 4 2 []).recorder.decimation ≠ 0) ∧
    ((5 + 1) % (s 5 2 []).recorder.decimation = 0 ∧ (s 5 2 (List.replicate 7 key6)).recorder.fifo.length < 8) ∧
    ((s 16777213 1 (List.replicate 8 key6)).recorder.fifo.length = 8 ∧ 16777213 + 1 < 16777215) ∧
    (State.reset.recorder.state ≠ .recording ∧ State.reset.recorder.move = none) := by decide +kernel

/-- The first key of a take: at a FREE port, and at a BUSY one. -/
theorem test_meets_RecorderCapturesAtItsDecimation_first :
    let s := taking .recording none none [] false
    let b : State := { s with port := { KeyPort.idle with
      serving := some { access := .fetch .a 1 0 9 0, wanted := true, released := false } } }
    s.recorder.outstanding = false ∧ s.recorder.fifo.length < 8 ∧ 0 % s.recorder.decimation = 0 ∧ s.port = KeyPort.idle ∧
    (s.entry 0).keys % 16 ≠ 0 ∧ b.port.serving ≠ none ∧
    (recorderPublication s).port.serving.map (·.access) =
      some (.recorderWrite 0 { time := 0, shape := .linear, positions := [0] }) := by decide +kernel

/-- A Recorder one publication before the greatest key time. -/
def lastFrame (l : List Key) (o : Bool) (d : Nat) : State :=
  { taking .recording (some 16777214) (some 16777214) l o with
    recorder := { (taking .recording (some 16777214) (some 16777214) l o).recorder with decimation := d } }

/-- What the Recorder holds after a publication. -/
def seen (s : State) : RecState × CloseCause × Nat × Option Nat × Nat :=
  let r := (recorderPublication s).recorder
  (r.state, r.cause, r.fifo.length, r.lastQueued, r.skipped)

/-- The publication of the greatest key time: with room at a FREE and a BUSY port and with a write outstanding, and with none. -/
theorem test_meets_RecorderCapturesAtItsDecimation_limit :
    ((lastFrame [] false 1).recorder.state = .recording ∧ (lastFrame [] false 1).recorder.frames = some 16777214 ∧
      (lastFrame [] false 1).recorder.lastQueued ≠ some 16777215 ∧ (lastFrame [] false 1).port = KeyPort.idle ∧
      ((lastFrame [] false 1).entry 0).keys % 16 ≠ 0) ∧
    (let b : State := { lastFrame [] false 1 with port := { KeyPort.idle with
        serving := some { access := .fetch .a 1 0 9 0, wanted := true, released := false } } };
      b.port.serving ≠ none ∧ seen b = (.closing, .timeLimit, 1, some 16777215, 0)) ∧
    (lastFrame (List.replicate 7 key6) true 1).recorder.fifo.length < 8 ∧
    (lastFrame (List.replicate 8 key6) true 1).recorder.fifo.length = 8 := by decide +kernel

/-- Due and not due at that publication, with room and with none: the keys queued and skipped. -/
theorem test_time_limit_queues_or_skips :
    [lastFrame [] true 1, lastFrame [] true 2, lastFrame [] false 2, lastFrame (List.replicate 8 key6) true 1,
      lastFrame (List.replicate 8 key6) true 2].map seen =
    [(.closing, .timeLimit, 1, some 16777215, 0), (.closing, .timeLimit, 1, some 16777215, 0),
      (.closing, .timeLimit, 1, some 16777215, 0), (.closing, .timeLimit, 8, some 16777214, 2),
      (.closing, .timeLimit, 8, some 16777214, 1)] := by decide +kernel

/-- A Recorder in state `st` whose write of the first of these keys, into an entry of `n` keys, is served. -/
def writingKey (st : RecState) (n : Nat) (fifo : List Key) : State :=
  { (taking st (some 7) (some 7) fifo true).setEntry 0 (moveOf .writing (some .recorder) n) with
    port := { KeyPort.idle with serving := some { access := .recorderWrite 0 key6, wanted := true, released := false } } }

theorem test_meets_RecorderStoresAndCloses :
    let key7 : Key := { key6 with time := 7 }
    let s := writingKey .recording 1 [key6, key7]
    (s.power.on = true ∧ s.lib.wf = true ∧ s.recorder.move = some 0 ∧ s.recorder.fifo = key6 :: [key7] ∧
      s.recorder.state = .recording ∧ ((s.entry 0).keys + 1) % 16 ≠ 0 ∧ s.port = { KeyPort.idle with
        serving := some { access := .recorderWrite 0 key6, wanted := true, released := false } }) ∧
    ((writingKey .closing 15 [key6, key7]).lib.freeList ≠ [] ∧
      (writingKey .closing 15 [key6, key7]).recorder.state = .closing) ∧
    (writingKey .recording 1 [key6]).recorder.fifo = key6 :: [] ∧
    ((writingKey .closing 1 [key6]).recorder.cause ≠ .storeFull ∧ 1 ≤ ((writingKey .closing 1 [key6]).entry 0).keys) ∧
    (((writingKey .closing 0 [key6]).entry 0).keys = 0 ∧
      ((writingKey .closing 0 [key6]).chain ((writingKey .closing 0 [key6]).entry 0)).Nodup) := by decide +kernel

theorem test_meets_RecorderStoresAndCloses_full :
    let s (st : RecState) (n : Nat) (c : Option Access) : State := { writingKey st n [key6] with
      lib := { (writingKey st n [key6]).lib with freeList := [] },
      port := { KeyPort.idle with waitRecorder := some (.recorderWrite 0 key6), waitConsole := c } }
    (s .recording 16 none).power.on = true ∧ (s .recording 16 none).lib.wf = true ∧
    (s .recording 16 none).recorder.move = some 0 ∧ (s .closing 16 none).recorder.state = .closing ∧
    ((s .recording 16 none).entry 0).keys % 16 = 0 ∧ 2 ≤ ((s .recording 16 none).entry 0).keys ∧
    ((s .recording 0 none).entry 0).keys = 0 ∧ (s .recording 0 none).lib.freeList = [] ∧
    (s .recording 16 none).port = { KeyPort.idle with waitRecorder := some (.recorderWrite 0 key6) } ∧
    (s .recording 16 (some (.consoleRead 1 0 3 0))).port = { KeyPort.idle with
      waitRecorder := some (.recorderWrite 0 key6), waitConsole := some (.consoleRead 1 0 3 0) } := by decide +kernel

/-- The only key of a take that closes EMPTY is stored while a console write waits for a block. -/
theorem test_meets_RecorderStoresAndCloses_console :
    let u := (writingKey .closing 0 [key6]).setEntry 1 { moveOf .writing (some .console) 16 with first := some 9, last := some 9 }
    let s : State := { u with
      lib := { u.lib with freeList := [], blockMap := [(7, { cls := .chained, link := none, suspect := false })] },
      txn := some { via := .direct 0x21, move := 1, work := .put [key6] 3 },
      port := { u.port with waitConsole := some (.consoleWrite 1 key6) } }
    (s.power.on = true ∧ s.lib.wf = true ∧ s.recorder.move = some 0 ∧ s.recorder.state = .closing ∧ s.recorder.fifo = [key6] ∧
      (s.entry 0).keys = 0 ∧ (s.chain (s.entry 0)).Nodup ∧ s.lib.freeList = [] ∧ (1 : MoveIx) ≠ 0 ∧
      (s.entry 1).keys % 16 = 0 ∧ s.port = { KeyPort.idle with
        serving := some { access := .recorderWrite 0 key6, wanted := true, released := false },
        waitConsole := some (.consoleWrite 1 key6) }) ∧
    sent? (exec (.keyAccessComplete .good) s) = some [0x08#8, 0x03#8] ∧
    reads (exec (.keyAccessComplete .good) s) (fun t => (t.lib.freeList, (t.entry 1).keys, (t.entry 0).state, t.recorder.state)) =
      some ([7], 16, .empty, .idle) := by decide +kernel

theorem test_meets_CueRequestsComplete :
    State.reset.delivers = true ∧ State.reset.cue.state = .idle ∧ State.reset.cue.atRest = true ∧
    (List.replicate 8 (⟨13, 0, 0, 0, 0⟩ : WireStep)).length ≤ 8 ∧ 40 + 8 ≤ 48 ∧ 48 < 41 + 8 ∧
    (stepsOf? [⟨13, 0, 0, 0, 0⟩]).toOption = some [.finish] ∧
    (match stepsOf? [⟨13, 0, 0, 0, 0⟩, ⟨14, 0, 0, 0, 0⟩] with | .ok _ => none | .error n => some n) = some 1 ∧
    (cueIn .running none).cue.state = .running ∧ (cueIn .waiting (some 3)).cue.state = .waiting ∧
    ((0 : Nat) = 0 ∨ 8 < 9 ∨ 48 < 48 + 1) ∧ (48 : Nat) ≤ 48 ∧ (255 : Nat) ≤ 255 ∧ (8 ≤ 8 ∨ 255 < 256 ∨ 6 ≤ 6) := by
  decide +kernel

theorem test_meets_WaitFramesIsMetAtItsPublication :
    ((cueIn .running none).cueStepAt = .waitFrames 3 ∧ (1 : Nat) ≤ 3 ∧ (cueIn .running none).cue.state = .running) ∧
    ((cueIn .waiting (some 3)).cueStepAt = .waitFrames 3 ∧ (cueIn .waiting (some 3)).cue.state = .waiting ∧
      (cueIn .waiting (some 3)).cue.remaining = some 3 ∧ (cueIn .waiting (some 3)).power.on = true) ∧
    ((cueIn .waiting (some 0)).cue.remaining = some 0 ∧ (cueIn .waiting (some 3)).cue.remaining ≠ some 0) ∧
    (cueIn .waiting none).cue.current.val < 47 ∧
    (let s : State := { State.reset with
        cue := { Cue.reset with state := .running, current := 47 }, cueList := State.reset.cueList.set 47 (.waitFrames 1) };
      s.cueStepAt = .waitFrames 1 ∧ s.cue.current.val = 47) := by decide +kernel

/-- A cue in state `st` at step 0, which is `c`, with a mark of SWING at 3 in place 2. -/
def cueAt (st : CueState) (c : CueStep) : State :=
  { (cueIn st none).setMark 2 (some { name := [], mask := 1#8, positions := [3] }) with
    cueList := State.reset.cueList.set 0 c, playerB := goer .ended }

theorem test_meets_CueExecutesItsSteps :
    (∀ c ∈ [CueStep.load .a 0 256, .goTo .b 2 10, .run .a, .fade 1#8 .playA 4, .stopPlay .b, .record 8 1#8 2, .record 9 1#8 2,
        .endRec, .waitTrigger 5, .waitTrigger 0, .waitEnd .a, .waitEnd .b, .waitAt 2 3, .waitAt 2 2, .waitAt 1 0, .loop 7 2,
        .loop 7 1, .note 9, .finish],
      (cueAt .running c).cueStepAt = c ∧ (cueAt .waiting c).cueStepAt = c ∧ (cueAt .running c).delivers = true) ∧
    (let s := taking .recording (some 4) (some 4) [key6] true;
      let t : State := { s with recorder := { s.recorder with awaiting := true } };
      t.recorder.state = .recording ∧ t.recorder.awaiting = true ∧ s.recorder.awaiting = false) ∧
    (let s := cueAt .running (.loop 7 1); 1 < (s.cue.counters[s.cue.current]).getD 2 ∧
      (s.cue.counters[s.cue.current]).getD 1 ≤ 1) ∧
    (((cueAt .running (.waitEnd .b)).player .b).state = .ended ∧ ((cueAt .running (.waitEnd .a)).player .a).state ≠ .ended) ∧
    (let s := cueAt .running (.waitAt 2 3); s.marks[1] = none ∧
      s.marks[2] = some { name := [], mask := 1#8, positions := [3] } ∧
      (∀ i : Fin 8, Mask.has 1#8 i = true → ((s.outputSet[i]).getD 0 - positionFor 1#8 [3] i).natAbs ≤ 3) ∧
      ¬ (∀ i : Fin 8, Mask.has 1#8 i = true → ((s.outputSet[i]).getD 0 - positionFor 1#8 [3] i).natAbs ≤ 2)) ∧
    (∀ st ∈ [CueState.idle, .halted, .done, .running, .waiting], (cueAt st .finish).cue.state = st) ∧
    (∀ c : Nat, (cueAt .waiting .finish).cueStepAt ≠ .waitTrigger c) ∧ ((5 : Nat) = 0 ∨ 5 = 5) ∧
    ((5 : Nat) ≠ 0 ∧ (5 : Nat) ≠ 6) := by
  refine ⟨by decide +kernel, by decide +kernel, by decide +kernel, by decide +kernel, by decide +kernel, by decide +kernel,
    fun c => ?_, by decide, by decide⟩
  rw [show (cueAt .waiting .finish).cueStepAt = .finish by decide +kernel]
  simp

/-- A WAIT_TRIGGER met at step 46 and at step 47: the cue is RUNNING, and after step 47 the next publication ends it. -/
theorem test_meets_CueExecutesItsSteps_met :
    let s (i : Fin 48) : State := { State.reset with
      cue := { Cue.reset with state := .waiting, current := i }, cueList := State.reset.cueList.set i (.waitTrigger 0) }
    let seen (s : State) : CueState × Fin 48 × Bool × Option Detail :=
      (s.cue.state, s.cue.current, s.cue.pastEnd, ((s.noticeSlot .cue).detail).map (·.detail))
    ((s 46).cueStepAt = .waitTrigger 0 ∧ (s 46).cue.state = .waiting ∧ (s 46).cue.current.val + 1 = 47 ∧
      (s 47).cue.current.val = 47) ∧
    seen (cueGo 5 (s 46)) = (.running, 47, false, none) ∧ seen (cueGo 5 (s 47)) = (.running, 47, true, none) ∧
    seen (cuePublication (cueGo 5 (s 47))) = (.done, 47, false, some (.cueDone 47)) := by decide +kernel

/-- A part whose trigger entry 7 alone acts. -/
def set7 (code : Nat) (a : TriggerAction) : State :=
  { State.reset with triggers := State.reset.triggers.set 7 { code := code, action := a } }

theorem test_meets_TriggerTakesTheFirstMatch :
    (∀ e : Fin 8, (State.reset.triggers[e]).action = .none) ∧
    (∀ a ∈ [TriggerAction.report, .takeOver, .pauseAll, .resumePlay, .cueGo],
      ((set7 5 a).triggers[7]).action ≠ .none ∧ ((set7 5 a).triggers[7]).code = 5 ∧
      ((set7 0 a).triggers[7]).code = 0 ∧
      ∀ j : Fin 8, j < 7 → ((set7 5 a).triggers[j]).action = .none) ∧
    ((crane .held).axis 0).state = .held ∧ State.reset.cue.state ≠ .waiting ∧ State.reset.recorder.state ≠ .armed ∧
    (taking .armed none none [] false).recorder.state = .armed ∧ (taking .armed none none [] false).recorder.move = some 0 ∧
    (∀ i : Fin 8, ((playing .paused).axis i).state ≠ .stopping ∧ ((playing .paused).axis i).state ≠ .held) ∧
    ((playing .paused).playerA.state = .paused ∧ (playing .paused).playerA.endKey ≠ none) ∧
    (playing .paused).playerB.state ≠ .paused ∧
    (({ goer .paused with endKey := none } : Player).filled = true ∧ ({ goer .paused with endKey := none } : Player).endKey = none) := by
  decide +kernel

theorem test_meets_TriggerTakesTheFirstMatch_armed :
    let s : State := { taking .armed none none [] false with triggers := (set7 5 .cueGo).triggers }
    (s.triggers[7]).action = .cueGo ∧ s.recorder.state = .armed ∧ s.recorder.move = some 0 ∧
    ((buttonCode s 5).noticeSlot .record).detail = some { frame := 0, detail := .recordStarted 0 } := by decide +kernel

theorem test_meets_LinkAndNoticeRequestsComplete_notice :
    State.reset.delivers = true ∧ 1023 < 1024 ∧ (1024 ≤ 1024 ∨ 2 ≤ 2) ∧ 1000 ≤ 1000 ∧ 1000 < 1001 ∧
    State.reset.status.interval = 0 ∧
    (let s : State := { State.reset with status := { StatusUnit.reset with interval := 3, count := 3 } };
      s.power.on = true ∧ s.status.interval ≠ 0 ∧ s.status.interval ≤ s.status.count) ∧
    (let s : State := { State.reset with status := { StatusUnit.reset with interval := 3, count := 2 } };
      s.status.count < s.status.interval) := by decide +kernel

theorem test_meets_RaiseKeepsTheLatestDetail :
    NoticeClass.link ≠ (Detail.stick .stale none).cls ∧ State.reset.status.interval = 0 ∧ State.reset.status.count = 0 ∧
    (let s : State := { State.reset with status := { StatusUnit.reset with interval := 1 } };
      s.status.interval = 1 ∧ s.status.count = 0 ∧ 0 < 1 ∧ 1 ≤ 1) := by decide +kernel

theorem test_meets_LockedLogKeepsItsRecord :
    let s := faultReport following State.reset
    State.reset.log.locked = false ∧ s.log.locked = true ∧
    reads (exec .stopAll s) (·.log.locked) = some true ∧ reads (exec .clearLog s) (·.log.locked) = some false := by
  decide +kernel

end Sys2Proof.Tests
end

section
/-! The sizes of the buffers and the ranges of the fields (R5, R6, R18, R19, R112, R144, R145, R192, R196, R198): one law per
component, a relation that says a change keeps every law, and one lemma per operation of the model. -/

namespace Sys2Proof.Machine

/-! ### The law of each component -/

/-- The numbers of the occupied queue places, in arrival order. -/
def Link.slots (l : Link) : List Nat := l.places.map (·.slot)

/-- The Console Link within its sizes (R196, R198). -/
structure Link.Bounded (l : Link) : Prop where
  size : l.slots.length ≤ Config.queueDepth
  distinct : l.slots.Nodup
  numbered : ∀ n ∈ l.slots, n < Config.queueDepth
  refused : l.refusals.length ≤ Config.refusalDepth

/-- The Frame Timer within its ranges (R18, R19). -/
structure FrameTimer.InRange (t : FrameTimer) : Prop where
  period : periodOk t.period = true
  interval : periodOk t.interval = true
  number : t.number < Config.frameWrap

/-- The Stick Port within its ranges (R5, R6). -/
structure StickPort.InRange (p : StickPort) : Prop where
  timeout : within 10 500 p.timeout = true
  held : ∀ ch : Fin 8, (p.held[ch]).natAbs ≤ 2047

/-- The Recorder within its ranges (R142, R145). -/
structure Recorder.InRange (r : Recorder) : Prop where
  decimation : within 1 64 r.decimation = true
  skipped : r.skipped ≤ Config.maxSkipped

/-- The status divider within its ranges (R192). -/
structure StatusUnit.InRange (u : StatusUnit) : Prop where
  interval : u.interval ≤ 1000
  replaced : u.replaced ≤ Config.maxReplaced

theorem buffersLawful_iff (s : State) :
    s.buffersLawful = true ↔ s.link.Bounded ∧ s.recorder.fifo.length ≤ Config.fifoDepth := by
  simp only [State.buffersLawful, Bool.and_eq_true, decide_eq_true_eq, List.all_eq_true]
  constructor
  · rintro ⟨⟨⟨⟨size, distinct⟩, numbered⟩, refused⟩, fifo⟩
    exact ⟨⟨by simpa [Link.slots] using size, distinct, by simpa [Link.slots] using numbered, refused⟩, fifo⟩
  · rintro ⟨⟨size, distinct, numbered, refused⟩, fifo⟩
    exact ⟨⟨⟨⟨by simpa [Link.slots] using size, distinct⟩, by simpa [Link.slots] using numbered⟩, refused⟩, fifo⟩

theorem held_all_iff (p : StickPort) :
    (p.held.toList.all fun x => decide (x.natAbs ≤ 2047)) = true ↔ ∀ ch : Fin 8, (p.held[ch]).natAbs ≤ 2047 := by
  simp [Fin.forall_iff]

theorem rangesLawful_iff (s : State) :
    s.rangesLawful = true ↔ s.timer.InRange ∧ s.stick.InRange ∧ s.playerA.rate ≤ 512 ∧ s.playerB.rate ≤ 512
      ∧ s.recorder.InRange ∧ s.status.InRange := by
  simp only [State.rangesLawful, Bool.and_eq_true, decide_eq_true_eq, held_all_iff]
  constructor
  · rintro ⟨⟨⟨⟨⟨⟨⟨⟨⟨⟨period, interval⟩, number⟩, timeout⟩, held⟩, rateA⟩, rateB⟩, decimation⟩, skipped⟩, div⟩, replaced⟩
    exact ⟨⟨period, interval, number⟩, ⟨timeout, held⟩, rateA, rateB, ⟨decimation, skipped⟩, ⟨div, replaced⟩⟩
  · rintro ⟨⟨period, interval, number⟩, ⟨timeout, held⟩, rateA, rateB, ⟨decimation, skipped⟩, ⟨div, replaced⟩⟩
    exact ⟨⟨⟨⟨⟨⟨⟨⟨⟨⟨period, interval⟩, number⟩, timeout⟩, held⟩, rateA⟩, rateB⟩, decimation⟩, skipped⟩, div⟩, replaced⟩

/-! ### Changes that keep every law -/

/-- The change from `s` to `t` keeps the law of each component. -/
structure KeepsBounds (s t : State) : Prop where
  link : s.link.Bounded → t.link.Bounded
  fifo : s.recorder.fifo.length ≤ Config.fifoDepth → t.recorder.fifo.length ≤ Config.fifoDepth
  timer : s.timer.InRange → t.timer.InRange
  stick : s.stick.InRange → t.stick.InRange
  rateA : s.playerA.rate ≤ 512 → t.playerA.rate ≤ 512
  rateB : s.playerB.rate ≤ 512 → t.playerB.rate ≤ 512
  recorder : s.recorder.InRange → t.recorder.InRange
  status : s.status.InRange → t.status.InRange

theorem KeepsBounds.refl (s : State) : KeepsBounds s s := ⟨id, id, id, id, id, id, id, id⟩

theorem KeepsBounds.trans {s t u : State} (h : KeepsBounds s t) (k : KeepsBounds t u) : KeepsBounds s u :=
  ⟨k.link ∘ h.link, k.fifo ∘ h.fifo, k.timer ∘ h.timer, k.stick ∘ h.stick, k.rateA ∘ h.rateA, k.rateB ∘ h.rateB,
    k.recorder ∘ h.recorder, k.status ∘ h.status⟩

theorem KeepsBounds.ite {s t u : State} {c : Prop} [Decidable c] (h : KeepsBounds s t) (k : KeepsBounds s u) :
    KeepsBounds s (if c then t else u) := by
  split
  · exact h
  · exact k

theorem KeepsBounds.foldl {α : Type} {f : State → α → State} (h : ∀ (s : State) (x : α), KeepsBounds s (f s x)) (l : List α) :
    ∀ s : State, KeepsBounds s (l.foldl f s) := by
  induction l with
  | nil => exact KeepsBounds.refl
  | cons x t ih => exact fun s => (h s x).trans (ih _)

/-- A change of no component that has a law here. -/
theorem KeepsBounds.untouched {s t : State} (link : t.link = s.link := by rfl) (recorder : t.recorder = s.recorder := by rfl)
    (timer : t.timer = s.timer := by rfl) (stick : t.stick = s.stick := by rfl) (playerA : t.playerA = s.playerA := by rfl)
    (playerB : t.playerB = s.playerB := by rfl) (status : t.status = s.status := by rfl) : KeepsBounds s t :=
  ⟨link ▸ id, recorder ▸ id, timer ▸ id, stick ▸ id, playerA ▸ id, playerB ▸ id, recorder ▸ id, status ▸ id⟩

/-- A change of the Stick Port and the notices alone. -/
theorem SameButStick.keepsBounds {s t : State} (h : SameButStick s t) (k : s.stick.InRange → t.stick.InRange) :
    KeepsBounds s t where
  link := h.link ▸ id
  fifo := h.recorder ▸ id
  timer := h.timer ▸ id
  stick := k
  rateA := h.playerA ▸ id
  rateB := h.playerB ▸ id
  recorder := h.recorder ▸ id
  status := h.status ▸ id

/-- A change of the link alone. -/
theorem keepsBounds_link {s : State} {l : Link} (h : s.link.Bounded → l.Bounded) : KeepsBounds s { s with link := l } :=
  ⟨h, id, id, id, id, id, id, id⟩

/-- A change of the Recorder alone. -/
theorem keepsBounds_recorder {s : State} {r : Recorder}
    (h : s.recorder.fifo.length ≤ Config.fifoDepth → r.fifo.length ≤ Config.fifoDepth)
    (k : s.recorder.InRange → r.InRange) : KeepsBounds s { s with recorder := r } :=
  ⟨id, h, id, id, id, id, k, id⟩

/-- A change of the Frame Timer alone. -/
theorem keepsBounds_timer {s : State} {t : FrameTimer} (h : s.timer.InRange → t.InRange) :
    KeepsBounds s { s with timer := t } := ⟨id, id, h, id, id, id, id, id⟩

/-- A change of the Stick Port alone. -/
theorem keepsBounds_stick {s : State} {p : StickPort} (h : s.stick.InRange → p.InRange) :
    KeepsBounds s { s with stick := p } := ⟨id, id, id, h, id, id, id, id⟩

/-- A change of the status unit alone. -/
theorem keepsBounds_status {s : State} {u : StatusUnit} (h : s.status.InRange → u.InRange) :
    KeepsBounds s { s with status := u } := ⟨id, id, id, id, id, id, id, h⟩

/-- A change of one player. -/
theorem setPlayer_bounds {p : PlayerId} {r : Player} {s : State} (h : (s.player p).rate ≤ 512 → r.rate ≤ 512) :
    KeepsBounds s (s.setPlayer p r) := by
  cases p with
  | a => exact ⟨id, id, id, id, h, id, id, id⟩
  | b => exact ⟨id, id, id, id, id, h, id, id⟩

/-! ### Notices, the readiness order and the transmitter -/

theorem raise_bounds (d : Detail) (s : State) : KeepsBounds s (raise d s) := .untouched

theorem faultReport_bounds (r : FaultRecord) (s : State) : KeepsBounds s (faultReport r s) :=
  .ite (.ite .untouched .untouched) .untouched

/-- A link that has no place and no refusal that it did not have is still within its sizes. -/
theorem Link.Bounded.shrink {l l' : Link} (h : l.Bounded) (hs : l'.slots.Sublist l.slots)
    (hr : l'.refusals.Sublist l.refusals) : l'.Bounded where
  size := hs.length_le.trans h.size
  distinct := hs.nodup h.distinct
  numbered := fun n hn => h.numbered n (hs.subset hn)
  refused := hr.length_le.trans h.refused

theorem slots_map_state (places : List Place) (k : Nat) (x : PlaceState) :
    (places.map fun p => if p.slot = k then { p with state := x } else p).map (·.slot) = places.map (·.slot) := by
  rw [List.map_map]
  congr 1
  funext p
  simp only [Function.comp_apply]
  split <;> rfl

theorem readyReply_bounds (v : Via) (l : List Byte) (s : State) : KeepsBounds s (readyReply v l s) := by
  cases v with
  | place k =>
    refine keepsBounds_link fun h => h.shrink ?_ ?_
    · rw [Link.slots, slots_map_state]
      exact List.Sublist.refl _
    · simp [Link.refusals]
  | direct k => exact keepsBounds_link fun h => h.shrink (List.Sublist.refl _) (by simp [Link.refusals])

theorem holdPlace_bounds (v : Via) (s : State) : KeepsBounds s (holdPlace v s) := by
  cases v with
  | place k =>
    refine keepsBounds_link fun h => h.shrink ?_ (List.Sublist.refl _)
    rw [Link.slots, slots_map_state]
    exact List.Sublist.refl _
  | direct k => exact .refl s

theorem takeReady_sublist {places places' : List Place} {f : TxFrame} {ready ready' : List Ready}
    (h : takeReady places ready = some (f, places', ready')) : places'.Sublist places ∧ ready'.Sublist ready := by
  induction ready with
  | nil => cases h
  | cons r t ih =>
    cases r with
    | place k =>
      rw [takeReady] at h
      split at h
      · cases h
        exact ⟨List.filter_sublist, List.sublist_cons_self _ _⟩
      · exact ⟨(ih h).1, (ih h).2.cons _⟩
    | refusal k n =>
      cases h
      exact ⟨List.Sublist.refl _, List.sublist_cons_self _ _⟩
    | direct k l =>
      cases h
      exact ⟨List.Sublist.refl _, List.sublist_cons_self _ _⟩

theorem send_bounds (f : TxFrame) (s : State) : KeepsBounds s (send f s) :=
  keepsBounds_link fun h => h.shrink (List.Sublist.refl _) (List.Sublist.refl _)

theorem chooseFrame_bounds (s : State) : KeepsBounds s (chooseFrame s) := by
  unfold chooseFrame
  split
  · rename_i taken
    obtain ⟨hplaces, hready⟩ := takeReady_sublist taken
    refine KeepsBounds.trans ?_ (send_bounds _ _)
    exact keepsBounds_link fun h => h.shrink (hplaces.map _) (hready.filterMap _)
  · split
    · exact KeepsBounds.trans .untouched (send_bounds _ _)
    · split
      · refine KeepsBounds.trans ?_ (send_bounds _ _)
        exact keepsBounds_status fun h => ⟨h.interval, Nat.zero_le _⟩
      · exact .refl s

theorem pump_bounds (s : State) : KeepsBounds s (pump s) := by
  unfold pump
  split
  · exact .refl s
  · exact chooseFrame_bounds s

theorem replacedNext_le {u : StatusUnit} (h : u.InRange) : u.replacedNext ≤ Config.maxReplaced := by
  unfold StatusUnit.replacedNext
  split
  · exact Nat.min_le_right _ _
  · exact h.replaced

theorem statusDue_bounds (f s : State) : KeepsBounds s (statusDue f s) :=
  .ite (keepsBounds_status fun h => ⟨h.interval, replacedNext_le h⟩) (.refl s)

theorem dividerCount_bounds (f s : State) : KeepsBounds s (dividerCount f s) := by
  refine .ite (keepsBounds_status fun h => ⟨h.interval, h.replaced⟩) (.trans ?_ (statusDue_bounds f _))
  exact keepsBounds_status fun h => ⟨h.interval, h.replaced⟩

/-! ### The Move Library -/

theorem setEntry_bounds (m : MoveIx) (e : Entry) (s : State) : KeepsBounds s (s.setEntry m e) := .untouched

theorem setBlock_bounds (b : Nat) (e : BlockEntry) (s : State) : KeepsBounds s (s.setBlock b e) := .untouched

theorem setSlot_bounds (b n : Nat) (x : Slot) (s : State) : KeepsBounds s (s.setSlot b n x) := .untouched

theorem releaseBlock_bounds (s : State) (b : Nat) : KeepsBounds s (releaseBlock s b) :=
  .ite .untouched .untouched

theorem releaseBlocks_bounds (m : MoveIx) (bs : List Nat) (s : State) : KeepsBounds s (releaseBlocks m bs s) :=
  have released := KeepsBounds.foldl releaseBlock_bounds bs s
  .ite released (released.trans (raise_bounds _ _))

theorem endTxn_bounds (c : Result) (s : State) : KeepsBounds s (endTxn c s) := by
  unfold endTxn
  split
  · exact .refl s
  · exact KeepsBounds.trans .untouched (readyReply_bounds _ _ _)

theorem releaseServing_bounds (m : MoveIx) (s : State) : KeepsBounds s (releaseServing m s) := by
  unfold releaseServing
  split
  · exact .ite .untouched (.refl s)
  · exact .refl s

theorem abandonTxn_bounds (m : MoveIx) (s : State) : KeepsBounds s (abandonTxn m s) := by
  unfold abandonTxn
  split
  · exact .ite (KeepsBounds.trans .untouched (endTxn_bounds _ _)) (.refl s)
  · exact .refl s

theorem emptyEntry_bounds (m : MoveIx) (s : State) : KeepsBounds s (emptyEntry m s) :=
  (releaseBlocks_bounds m _ s).trans
    ((setEntry_bounds m _ _).trans ((releaseServing_bounds m _).trans (abandonTxn_bounds m _)))

theorem closeEntry_bounds (m : MoveIx) (b : Bool) (s : State) : KeepsBounds s (closeEntry m b s) :=
  .ite (setEntry_bounds _ _ s) (emptyEntry_bounds m s)

/-- The Recorder becomes IDLE. -/
theorem toIdle_bounds (s : State) : KeepsBounds s { s with recorder := s.recorder.toIdle } :=
  keepsBounds_recorder (fun _ => Nat.zero_le _) fun h => ⟨h.decimation, h.skipped⟩

theorem closeTake_bounds (c : CloseCause) (s : State) : KeepsBounds s (closeTake c s) := by
  unfold closeTake
  split
  · exact .refl s
  · exact (closeEntry_bounds _ _ s).trans ((toIdle_bounds _).trans (raise_bounds _ _))

theorem appendBlock_bounds (m : MoveIx) (b : Nat) (s : State) : KeepsBounds s (appendBlock m b s) := by
  unfold appendBlock
  simp only
  split <;> exact .untouched

theorem allocate_bounds {m : MoveIx} {s t : State} (h : allocate? m s = some t) : KeepsBounds s t := by
  unfold allocate? at h
  split at h
  · split at h
    · cases h
    · cases h
      exact KeepsBounds.trans .untouched (appendBlock_bounds m _ _)
  · cases h
    exact .refl s

theorem storeKey_bounds (m : MoveIx) (k : Key) (s : State) : KeepsBounds s (storeKey m k s) := by
  unfold storeKey
  simp only
  split <;> exact .untouched

theorem serve_bounds (a : Access) (s : State) : KeepsBounds s (serve a s) := .untouched

theorem grant_bounds (a : Access) (s : State) : KeepsBounds s (grant a s) := by
  cases a with
  | fetch | consoleRead => exact serve_bounds _ s
  | recorderWrite m k =>
    rw [grant]
    split
    · next granted => exact (allocate_bounds granted).trans (serve_bounds _ _)
    · exact closeTake_bounds _ s
  | consoleWrite m k =>
    rw [grant]
    split
    · next granted => exact (allocate_bounds granted).trans (serve_bounds _ _)
    · exact endTxn_bounds _ s

theorem arbitrate_bounds (n : Nat) : ∀ s : State, KeepsBounds s (arbitrate n s) := by
  induction n with
  | zero => exact KeepsBounds.refl
  | succ n ih =>
    intro s
    unfold arbitrate
    split
    · exact .refl s
    · split
      · exact .refl s
      · exact KeepsBounds.trans .untouched ((grant_bounds _ _).trans (ih _))

theorem requestPort_bounds (a : Access) (s : State) : KeepsBounds s (requestPort a s) := by
  unfold requestPort
  split
  · exact KeepsBounds.trans .untouched (arbitrate_bounds 5 _)
  · exact .untouched

theorem consoleStep_bounds (s : State) : KeepsBounds s (consoleStep s) := by
  unfold consoleStep
  split
  · exact .refl s
  · split
    · exact endTxn_bounds _ s
    · exact .ite (requestPort_bounds _ s) (endTxn_bounds _ s)
    · exact .ite (endTxn_bounds _ s) (.ite (endTxn_bounds _ s) (requestPort_bounds _ s))

theorem reportRead_bounds (m : MoveIx) (i b : Nat) (p : Option PlayerId) (c : KeyCheck) (s : State) :
    KeepsBounds s (reportRead m i b p c s) := by
  cases c with
  | good => exact .refl s
  | corrected => exact (faultReport_bounds _ s).trans (raise_bounds _ _)
  | damaged =>
    exact (setEntry_bounds m _ s).trans ((setBlock_bounds b _ _).trans ((faultReport_bounds _ _).trans (raise_bounds _ _)))

theorem finishRead_bounds (m : MoveIx) (i b n : Nat) (p : Option PlayerId) (c : KeyCheck) (s : State) :
    KeepsBounds s (finishRead m i b n p c s) :=
  (setSlot_bounds b n _ s).trans (reportRead_bounds _ _ _ _ _ _)

theorem finishAccess_bounds (v : Serving) (c : KeyCheck) (s : State) : KeepsBounds s (finishAccess v c s) := by
  unfold finishAccess
  split
  · exact storeKey_bounds _ _ s
  · exact storeKey_bounds _ _ s
  · exact .ite (.refl s) (finishRead_bounds _ _ _ _ _ _ s)
  · exact .ite (.refl s) (finishRead_bounds _ _ _ _ _ _ s)

theorem deliverConsoleWrite_bounds (s : State) : KeepsBounds s (deliverConsoleWrite s) := by
  unfold deliverConsoleWrite
  split
  · split
    · exact .untouched
    · exact .refl s
  · exact .refl s

theorem deliverConsoleRead_bounds (r : Bool) (c : KeyCheck) (k : Key) (s : State) :
    KeepsBounds s (deliverConsoleRead r c k s) := by
  unfold deliverConsoleRead
  split
  · split
    · exact .ite (endTxn_bounds _ s) (.ite (endTxn_bounds _ s) .untouched)
    · exact .refl s
  · exact .refl s

/-! ### The Recorder -/

theorem recorderWrite_bounds (s : State) : KeepsBounds s (recorderWrite s) := by
  unfold recorderWrite
  split
  · refine .ite (.trans ?_ (requestPort_bounds _ _)) (.refl s)
    exact keepsBounds_recorder id fun h => ⟨h.decimation, h.skipped⟩
  · exact .refl s

theorem deliverRecorder_bounds (s : State) : KeepsBounds s (deliverRecorder s) :=
  keepsBounds_recorder (fun h => (List.tail_sublist _).length_le.trans h) fun h => ⟨h.decimation, h.skipped⟩

theorem recorderNext_bounds (s : State) : KeepsBounds s (recorderNext s) :=
  .ite (closeTake_bounds _ s) (recorderWrite_bounds s)

/-- A due key joins the FIFO only below its depth, and the skipped count saturates (R144, R145). -/
theorem dueKey_bounds (n : Nat) (s : State) : KeepsBounds s (dueKey n s) := by
  unfold dueKey
  simp only
  split
  · split
    · next room =>
      refine keepsBounds_recorder (fun _ => ?_) fun h => ⟨h.decimation, h.skipped⟩
      rw [List.length_append]
      exact room
    · exact (setEntry_bounds _ _ s).trans (keepsBounds_recorder id fun h => ⟨h.decimation, Nat.min_le_right _ _⟩)
  · exact .refl s

theorem endTake_bounds (c : CloseCause) (s : State) : KeepsBounds s (endTake c s) := by
  have finalKey : KeepsBounds s (if s.recorder.lastQueued = some (s.recorder.frames.getD 0) then s
      else dueKey (s.recorder.frames.getD 0) s) := .ite (.refl s) (dueKey_bounds _ s)
  refine finalKey.trans (.trans ?_ (recorderNext_bounds _))
  exact keepsBounds_recorder id fun h => ⟨h.decimation, h.skipped⟩

theorem recorderTimeLimit_bounds (s : State) : KeepsBounds s (recorderTimeLimit s) := .ite (endTake_bounds _ s) (.refl s)

theorem recorderCapture_bounds (s : State) : KeepsBounds s (recorderCapture s) :=
  have counted : KeepsBounds s { s with recorder := { s.recorder with frames := some s.recorder.nextFrames } } :=
    keepsBounds_recorder id fun h => ⟨h.decimation, h.skipped⟩
  .ite (.ite (counted.trans ((dueKey_bounds _ _).trans (recorderWrite_bounds _))) counted) (.refl s)

theorem recorderTakes_bounds (s : State) : KeepsBounds s (recorderTakes s) :=
  keepsBounds_recorder id fun h => ⟨h.decimation, h.skipped⟩

theorem recorderPublication_bounds (s : State) : KeepsBounds s (recorderPublication s) :=
  (recorderTakes_bounds s).trans ((recorderCapture_bounds _).trans (recorderTimeLimit_bounds _))

theorem recorderGo_bounds (s : State) : KeepsBounds s (recorderGo s) := by
  have started : KeepsBounds s { s with recorder := { s.recorder with state := .recording } } :=
    keepsBounds_recorder id fun h => ⟨h.decimation, h.skipped⟩
  unfold recorderGo
  simp only
  split
  · split
    · exact started.trans (raise_bounds _ _)
    · exact started
  · exact .refl s

theorem abortTake_bounds (s : State) : KeepsBounds s (abortTake s) := by
  unfold abortTake
  split
  · exact (emptyEntry_bounds _ s).trans (toIdle_bounds _)
  · exact toIdle_bounds s

/-- An accepted RECORD_START has its decimation in range and starts from an empty FIFO (R142). -/
theorem recordStartRequest_bounds (id : Nat) (name : List Nat) (mask d sh tr : Nat) (s : State) :
    KeepsBounds s (recordStartRequest id name mask d sh tr s).1 := by
  unfold recordStartRequest
  split
  · split
    · exact .refl s
    · next fields =>
      have inRange : within 1 64 d = true := by simpa using (not_or.mp fields).2
      split
      · exact .refl s
      · split
        · exact .refl s
        · exact (setEntry_bounds _ _ s).trans
            (keepsBounds_recorder (fun _ => Nat.zero_le _) fun _ => ⟨inRange, Nat.zero_le _⟩)
  · exact .refl s

theorem recordStopRequest_bounds (s : State) : KeepsBounds s (recordStopRequest s).1 := by
  unfold recordStopRequest
  split
  · exact .refl s
  · exact abortTake_bounds s
  · split
    · exact abortTake_bounds s
    · exact endTake_bounds _ s
  · exact .refl s

theorem recorderHears_bounds (s : State) : KeepsBounds s (recorderHears s) :=
  .ite (keepsBounds_recorder id fun h => ⟨h.decimation, h.skipped⟩) (.refl s)

theorem endRecRequest_bounds (s : State) : KeepsBounds s (endRecRequest s).1 :=
  (recorderHears_bounds s).trans (recordStopRequest_bounds _)

end Sys2Proof.Machine
end

section
/-! The operations of the players, the Blend Engine, the cue, Axis Control and the output frame keep the bounds. -/

namespace Sys2Proof.Machine

/-! ### The players -/

theorem setPlayer_sameRate_bounds {p : PlayerId} {r : Player} {s : State} (h : r.rate = (s.player p).rate) :
    KeepsBounds s (s.setPlayer p r) := setPlayer_bounds fun k => h ▸ k

theorem playerNotice_bounds (p : PlayerId) (s : State) : KeepsBounds s (playerNotice p s) := raise_bounds _ s

theorem fetchIfRoom_bounds (p : PlayerId) (s : State) : KeepsBounds s (fetchIfRoom p s) := by
  unfold fetchIfRoom
  simp only
  split
  · refine .ite (.trans ?_ (requestPort_bounds _ _)) (.refl s)
    exact setPlayer_sameRate_bounds rfl
  · exact .refl s

theorem becomeIdle_bounds (p : PlayerId) (s : State) : KeepsBounds s (becomeIdle p s) := by
  have cleared : ∀ u : State, u.player p = s.player p →
      KeepsBounds u ({ u with port := (u.port.withdraw p).disown p }.setPlayer p (s.player p).toIdle) := fun u h => by
    refine .trans (t := { u with port := (u.port.withdraw p).disown p }) .untouched
      (setPlayer_sameRate_bounds ?_)
    cases p <;> exact (congrArg Player.rate h).symm
  unfold becomeIdle
  simp only
  split
  · exact (setEntry_bounds _ _ s).trans (cleared _ (by cases p <;> rfl))
  · exact cleared s rfl

theorem refClear_bounds (p : PlayerId) (s : State) : KeepsBounds s (refClear p s) := .ite (becomeIdle_bounds p s) (.refl s)

theorem clearIfGone_bounds (p : PlayerId) (n : Nat) (s : State) : KeepsBounds s (clearIfGone p n s) :=
  .ite (refClear_bounds p s) (.refl s)

theorem withClears_bounds (s t : State) : KeepsBounds t (withClears s t) :=
  (clearIfGone_bounds .a _ t).trans (clearIfGone_bounds .b _ _)

/-- A bound rate is saturated at 512 (R113). -/
theorem boundRate_le {s : State} {r : Player} (h : r.rate ≤ 512) : s.boundRate r ≤ 512 := by
  unfold State.boundRate
  split
  · exact h
  · unfold sat
    split
    · decide
    · split
      · decide
      · omega

theorem advance_rate (r : Player) (time : Nat) (k0 k1 : PlayerKey) : (r.advance time k0 k1).rate = r.rate := by
  unfold Player.advance
  split <;> rfl

theorem positionRequest_bounds (p : PlayerId) (s : State) : KeepsBounds s (positionRequest p s) := by
  refine .ite ?_ (.refl s)
  unfold runningRequest
  simp only
  split
  · refine .trans ?_ (fetchIfRoom_bounds p _)
    have advanced : ∀ time k0 k1, KeepsBounds s
        (s.setPlayer p (({ s.player p with rate := s.boundRate (s.player p) } : Player).advance time k0 k1)) :=
      fun time k0 k1 => setPlayer_bounds fun h => by
        rw [advance_rate]
        exact boundRate_le h
    exact .ite (advanced _ _ _) ((advanced _ _ _).trans (playerNotice_bounds p _))
  · exact setPlayer_bounds boundRate_le

theorem discardOutcome_bounds (p : PlayerId) (s : State) : KeepsBounds s (discardOutcome p s) := setPlayer_sameRate_bounds rfl

theorem place_rate (r : Player) (i : Nat) (k : Key) (n : Option (Nat × Nat)) : (r.place i k n).rate = r.rate := by
  unfold Player.place
  simp only
  split <;> rfl

theorem runEffect_bounds (p : PlayerId) (s : State) : KeepsBounds s (runEffect p s) := by
  refine .ite (.trans ?_ (fetchIfRoom_bounds p _)) (fetchIfRoom_bounds p s)
  exact setPlayer_sameRate_bounds rfl

theorem pauseEffect_bounds (p : PlayerId) (s : State) : KeepsBounds s (pauseEffect p s) :=
  .ite (setPlayer_sameRate_bounds rfl) (.refl s)

theorem pausePlayers_bounds (s : State) : KeepsBounds s (pausePlayers s) :=
  (pauseEffect_bounds .a s).trans (pauseEffect_bounds .b _)

theorem loadRequest_bounds (c id r : Nat) (s : State) : KeepsBounds s (loadRequest c id r s).1 := by
  unfold loadRequest
  split
  · split
    · exact .refl s
    · next rate =>
      split
      · exact .refl s
      · split
        · exact .refl s
        · exact (setEntry_bounds _ _ s).trans
            (.trans (setPlayer_bounds fun _ => Nat.le_of_not_lt rate) (fetchIfRoom_bounds _ _))
  · exact .refl s

theorem runRequest_bounds (c : Nat) (s : State) : KeepsBounds s (runRequest c s).1 := by
  unfold runRequest
  split
  · exact .refl s
  · split
    case h_5 | h_6 | h_7 | h_8 => exact .refl s
    all_goals exact runEffect_bounds _ s

theorem pauseRequest_bounds (c : Nat) (s : State) : KeepsBounds s (pauseRequest c s).1 := by
  unfold pauseRequest
  split
  · exact .refl s
  · split
    case h_1 | h_2 | h_3 => exact pauseEffect_bounds _ s
    all_goals exact .refl s

theorem goToRequest_bounds (c k f : Nat) (s : State) : KeepsBounds s (goToRequest c k f s).1 := by
  unfold goToRequest
  split
  · split
    · exact .refl s
    · split
      · exact .refl s
      · split
        · exact .refl s
        · exact setPlayer_bounds fun _ => (by decide : 256 ≤ 512)
  · exact .refl s

/-! ### The Blend Engine -/

theorem setAxis_bounds (i : Fin 8) (a : Axis) (s : State) : KeepsBounds s (s.setAxis i a) := .untouched

theorem mapAxes_bounds (f : Fin 8 → Axis → Axis) (s : State) : KeepsBounds s (s.mapAxes f) := .untouched

theorem handBackWhere_bounds (p : Blend → Bool) (s : State) : KeepsBounds s (handBackWhere p s) :=
  (mapAxes_bounds _ s).trans (withClears_bounds s _)

theorem takeOver_bounds (s : State) : KeepsBounds s (takeOver s) := handBackWhere_bounds _ s

theorem dropRequest_bounds (p : PlayerId) (s : State) : KeepsBounds s (dropRequest p s) :=
  (mapAxes_bounds _ s).trans (withClears_bounds s _)

theorem fadeRequest_bounds (m t l : Nat) (s : State) : KeepsBounds s (fadeRequest m t l s).1 := by
  unfold fadeRequest
  split
  · split
    · exact .refl s
    · split
      · exact .refl s
      · exact (mapAxes_bounds _ s).trans (withClears_bounds s _)
  · exact .refl s

theorem releaseRequest_bounds (p : PlayerId) (s : State) : KeepsBounds s (releaseRequest p s) := handBackWhere_bounds _ s

theorem playerFault_bounds (p : PlayerId) (i : Nat) (s : State) : KeepsBounds s (playerFault p i s) := by
  unfold playerFault
  refine .trans (.trans ?_ (releaseRequest_bounds p _)) (playerNotice_bounds p _)
  exact setPlayer_sameRate_bounds rfl

theorem enterReleasing_bounds (p : PlayerId) (s : State) : KeepsBounds s (enterReleasing p s) :=
  .trans (t := { s with port := s.port.withdraw p }) .untouched
    (setPlayer_sameRate_bounds (by cases p <;> rfl))

theorem idleIfUnreferenced_bounds (p : PlayerId) (s : State) : KeepsBounds s (idleIfUnreferenced p s) :=
  .ite (becomeIdle_bounds p s) (.refl s)

theorem stopRequest_bounds (c : Nat) (s : State) : KeepsBounds s (stopRequest c s).1 := by
  unfold stopRequest
  split
  · exact .refl s
  · split
    case h_1 | h_2 => exact .refl s
    case h_3 => exact (dropRequest_bounds _ s).trans (becomeIdle_bounds _ _)
    all_goals
      exact (enterReleasing_bounds _ s).trans ((releaseRequest_bounds _ _).trans (idleIfUnreferenced_bounds _ _))

/-! ### Key accesses -/

theorem deliverFetch_bounds (f : Bool) (p : PlayerId) (i : Nat) (r : Bool) (c : KeyCheck) (k : Key)
    (n : Option (Nat × Nat)) (s : State) : KeepsBounds s (deliverFetch f p i r c k n s) :=
  .ite (discardOutcome_bounds p s)
    (.ite (.ite (setPlayer_sameRate_bounds rfl) (playerFault_bounds p i s)) (setPlayer_sameRate_bounds (place_rate _ _ _ _)))

theorem deliverOutcome_bounds (f : Bool) (v : Serving) (c : KeyCheck) (s : State) :
    KeepsBounds s (deliverOutcome f v c s) := by
  unfold deliverOutcome
  split
  · exact .ite (deliverFetch_bounds _ _ _ _ _ _ _ s) (.refl s)
  · exact deliverRecorder_bounds s
  · exact deliverConsoleWrite_bounds s
  · exact deliverConsoleRead_bounds _ _ _ s

theorem nextRequest_bounds (a : Access) (s : State) : KeepsBounds s (nextRequest a s) := by
  cases a with
  | fetch => exact fetchIfRoom_bounds _ s
  | recorderWrite => exact recorderNext_bounds s
  | consoleWrite | consoleRead => exact consoleStep_bounds s

theorem freePort_bounds (s : State) : KeepsBounds s (freePort s) :=
  KeepsBounds.trans .untouched (arbitrate_bounds 5 _)

theorem completeAccess_bounds (f : Bool) (c : KeyCheck) (s : State) : KeepsBounds s (completeAccess f c s) := by
  unfold completeAccess
  split
  · exact .refl s
  · exact (finishAccess_bounds _ c s).trans
      ((deliverOutcome_bounds f _ c _).trans ((freePort_bounds _).trans (nextRequest_bounds _ _)))

theorem frameAccesses_bounds (l : List KeyCheck) (s : State) : KeepsBounds s (frameAccesses l s) :=
  .foldl (fun s c => completeAccess_bounds true c s) l s

theorem takeArrived_bounds (p : PlayerId) (s : State) : KeepsBounds s (takeArrived p s) := by
  unfold takeArrived
  split
  · exact .refl s
  · have taken : KeepsBounds s (s.setPlayer p { s.player p with arrived := none }) := setPlayer_sameRate_bounds rfl
    exact .ite (taken.trans (playerFault_bounds p _ _)) (taken.trans (discardOutcome_bounds p _))

theorem takeFaults_bounds (o : PlayerOrder) (s : State) : KeepsBounds s (takeFaults o s) :=
  (takeArrived_bounds _ s).trans (takeArrived_bounds _ _)

/-! ### The cue and the trigger table -/

theorem setCue_bounds (c : Cue) (s : State) : KeepsBounds s (s.setCue c) := .untouched

theorem cueRefused_bounds (c : Result) (ax : Option (Fin 8)) (s : State) : KeepsBounds s (cueRefused c ax s) :=
  (setCue_bounds _ s).trans (raise_bounds _ _)

theorem cueDone_bounds (s : State) : KeepsBounds s (cueDone s) := (setCue_bounds _ s).trans (raise_bounds _ _)

theorem cueAdvance_bounds (s : State) : KeepsBounds s (cueAdvance s) := by
  unfold cueAdvance
  split
  · exact setCue_bounds _ s
  · exact cueDone_bounds s

theorem cueResult_bounds {s : State} {r : State × Result × Option (Fin 8)} (h : KeepsBounds s r.1) :
    KeepsBounds s (cueResult r) := .ite (h.trans (cueAdvance_bounds _)) (h.trans (cueRefused_bounds _ _ _))

theorem cueResult1_bounds {s : State} {r : State × Result} (h : KeepsBounds s r.1) : KeepsBounds s (cueResult1 r) :=
  cueResult_bounds h

theorem testEnd_bounds (p : PlayerId) (s : State) : KeepsBounds s (testEnd p s) := .ite (cueAdvance_bounds s) (setCue_bounds _ s)

theorem testAt_bounds (k : Fin 64) (w : Nat) (s : State) : KeepsBounds s (testAt k w s) := by
  unfold testAt
  split
  · exact cueRefused_bounds _ _ s
  · exact .ite (cueAdvance_bounds s) (setCue_bounds _ s)

theorem cueLoop_bounds (t : Fin 48) (n : Nat) (s : State) : KeepsBounds s (cueLoop t n s) :=
  .ite (setCue_bounds _ s) ((setCue_bounds _ s).trans (cueAdvance_bounds _))

theorem cueExecute_bounds (s : State) : KeepsBounds s (cueExecute s) := by
  unfold cueExecute
  split
  · exact cueResult1_bounds (loadRequest_bounds _ _ _ s)
  · exact cueResult1_bounds (goToRequest_bounds _ _ _ s)
  · exact cueResult1_bounds (runRequest_bounds _ s)
  · exact cueResult_bounds (fadeRequest_bounds _ _ _ s)
  · exact cueResult1_bounds (stopRequest_bounds _ s)
  · exact cueResult1_bounds (recordStartRequest_bounds _ _ _ _ _ _ s)
  · exact cueResult1_bounds (endRecRequest_bounds s)
  · exact setCue_bounds _ s
  · exact setCue_bounds _ s
  · exact testEnd_bounds _ s
  · exact testAt_bounds _ _ s
  · exact cueLoop_bounds _ _ s
  · exact (raise_bounds _ s).trans (cueAdvance_bounds _)
  · exact cueDone_bounds s

theorem cueRun_bounds (n : Nat) : ∀ s : State, KeepsBounds s (cueRun n s) := by
  induction n with
  | zero => exact KeepsBounds.refl
  | succ n ih => exact fun s => .ite ((cueExecute_bounds s).trans (ih _)) (.refl s)

theorem waitFramesExpired_bounds (s : State) : KeepsBounds s (waitFramesExpired s) := by
  unfold waitFramesExpired
  split
  · exact .ite ((cueAdvance_bounds s).trans (cueRun_bounds _ _)) (.refl s)
  · exact .refl s

theorem cueWaiting_bounds (s : State) : KeepsBounds s (cueWaiting s) := by
  unfold cueWaiting
  split
  · exact (setCue_bounds _ s).trans (waitFramesExpired_bounds _)
  · exact (testEnd_bounds _ s).trans (cueRun_bounds _ _)
  · exact (testAt_bounds _ _ s).trans (cueRun_bounds _ _)
  · exact .refl s

theorem cuePublication_bounds (s : State) : KeepsBounds s (cuePublication s) := by
  unfold cuePublication
  split
  case h_1 => exact cueWaiting_bounds s
  case h_2 =>
    exact .ite ((setCue_bounds _ s).trans (cueDone_bounds _)) ((setCue_bounds _ s).trans (cueRun_bounds _ _))
  all_goals exact .refl s

theorem cueStopped_bounds (s : State) : KeepsBounds s (cueStopped s) := .ite (setCue_bounds _ s) (.refl s)

theorem cueMet_bounds (s : State) : KeepsBounds s (cueMet s) := by
  unfold cueMet
  split <;> exact setCue_bounds _ s

theorem cueGo_bounds (code : Nat) (s : State) : KeepsBounds s (cueGo code s) := by
  refine .ite ?_ (.refl s)
  split
  · exact .ite (cueMet_bounds s) (.refl s)
  · exact .refl s

theorem resumePlayer_bounds (p : PlayerId) (s : State) : KeepsBounds s (resumePlayer p s) :=
  .ite (runEffect_bounds p s) (.refl s)

theorem triggerAct_bounds (a : TriggerAction) (code : Nat) (e : Fin 8) (s : State) :
    KeepsBounds s (triggerAct a code e s) := by
  cases a with
  | none => exact .refl s
  | cueGo => exact (cueGo_bounds code s).trans (recorderGo_bounds _)
  | pauseAll => exact pausePlayers_bounds s
  | resumePlay =>
    unfold triggerAct
    exact .ite (.refl s) ((resumePlayer_bounds .a s).trans (resumePlayer_bounds .b _))
  | takeOver => exact takeOver_bounds s
  | report => exact raise_bounds _ s

theorem buttonCode_bounds (s : State) (code : Nat) : KeepsBounds s (buttonCode s code) := by
  unfold buttonCode
  split
  · exact triggerAct_bounds _ _ _ s
  · exact .refl s

/-! ### Axis Control and the Drive Line -/

theorem cascade_bounds (s : State) : KeepsBounds s (cascade s) :=
  (mapAxes_bounds _ s).trans ((withClears_bounds s _).trans ((pausePlayers_bounds _).trans (cueStopped_bounds _)))

theorem allHeldIf_bounds (b : Bool) (s : State) : KeepsBounds s (allHeldIf b s) := .ite (raise_bounds _ s) (.refl s)

theorem enterFault_bounds (i : Fin 8) (c : FaultCause) (x : Int) (code : Option Nat) (s : State) :
    KeepsBounds s (enterFault i c x code s) := by
  unfold enterFault
  refine .trans (.trans (.trans (.trans (.trans ?_ (withClears_bounds s _)) (allHeldIf_bounds _ _))
    (faultReport_bounds _ _)) (raise_bounds _ _)) (cascade_bounds _)
  exact setAxis_bounds i _ s

theorem driveSilent_bounds (i : Fin 8) (s : State) : KeepsBounds s (driveSilent i s) :=
  .ite (enterFault_bounds _ _ _ _ s) (.refl s)

theorem closeWindow_bounds (i : Fin 8) (s : State) : KeepsBounds s (closeWindow i s) := by
  unfold closeWindow
  split
  · exact .ite (.refl s) ((setAxis_bounds i _ s).trans (driveSilent_bounds i _))
  · exact .refl s

theorem driveAxis_bounds (f s : State) (i : Fin 8) : KeepsBounds s (driveAxis f s i) :=
  .ite ((closeWindow_bounds i s).trans .untouched) (.refl s)

theorem drivePublication_bounds (f s : State) : KeepsBounds s (drivePublication f s) :=
  .trans (t := { s with exchanges := [] }) .untouched (.foldl (driveAxis_bounds f) _ _)

theorem replyAct_bounds (i : Fin 8) (x : Int) (st : DriveStatus) (s : State) : KeepsBounds s (replyAct i x st s) := by
  have recorded := setAxis_bounds i ((s.axis i).answeredBy x st) s
  refine .ite ?_ recorded
  split
  case h_1 => exact recorded.trans (enterFault_bounds _ _ _ _ _)
  all_goals
    split
    · exact recorded.trans (enterFault_bounds _ _ _ _ _)
    · exact recorded

theorem driveReply_bounds (ad sq : Nat) (x : Int) (st co ch : Nat) (s : State) :
    KeepsBounds s (driveReply ad sq x st co ch s) := by
  unfold driveReply
  split
  · exact .ite (replyAct_bounds _ _ _ s) (.refl s)
  · exact .refl s

/-! ### The Stick Port -/

theorem staleExpire_bounds (s : State) : KeepsBounds s (staleExpire s) :=
  have expired : KeepsBounds s { s with stick := s.stick.expired } := keepsBounds_stick fun h => ⟨h.timeout, h.held⟩
  .ite (expired.trans (raise_bounds _ _)) (.refl s)

/-- A sample of a valid frame is stored within ±2047 (R2, R5). -/
theorem storedSample_natAbs_le {x : Int} (h : -2048 ≤ x ∧ x ≤ 2047) : (storedSample x).natAbs ≤ 2047 := by
  unfold storedSample
  split <;> omega

theorem panelValid_iff {seq check : Nat} {samples : List Int} {codes : List Nat} :
    panelValid seq samples codes check = true ↔ check = panelCheck seq samples codes
      ∧ (∀ x ∈ samples, -2048 ≤ x ∧ x ≤ 2047) ∧ ∀ c ∈ codes, 1 ≤ c ∧ c ≤ 255 := by
  simp [panelValid, within_iff, and_assoc]

theorem getD_zero_mem {samples : List Int} {P : Int → Prop} (h : ∀ x ∈ samples, P x) (h0 : P 0) (n : Nat) :
    P (samples.getD n 0) := by
  by_cases hn : n < samples.length
  · rw [List.getD_eq_getElem _ _ hn]
    exact h _ (List.getElem_mem hn)
  · rw [List.getD_eq_default _ _ (Nat.le_of_not_lt hn)]
    exact h0

theorem arrive_inRange {p : StickPort} {seq : Nat} {samples : List Int} (hs : ∀ x ∈ samples, -2048 ≤ x ∧ x ≤ 2047)
    (h : p.InRange) : (p.arrive seq samples).InRange where
  timeout := h.timeout
  held := fun ch => by
    simpa [StickPort.arrive] using storedSample_natAbs_le (getD_zero_mem hs (by decide) ch.val)

theorem portArrival_bounds {seq : Nat} {samples : List Int} {codes : List Nat} (hs : ∀ x ∈ samples, -2048 ≤ x ∧ x ≤ 2047)
    (s : State) : KeepsBounds s (portArrival seq samples codes s).1 := by
  refine (portArrival_stick seq samples codes s).keepsBounds fun h => ?_
  have arrived := arrive_inRange (seq := seq) hs h
  unfold portArrival
  simp only
  split <;> exact ⟨arrived.timeout, arrived.held⟩

theorem portComplete_bounds (seq : Nat) (samples : List Int) (codes : List Nat) (check : Nat) (s : State) :
    KeepsBounds s (portComplete seq samples codes check s).1 := by
  unfold portComplete
  split
  · next valid => exact portArrival_bounds (panelValid_iff.mp valid).2.1 s
  · exact .refl s

theorem handOn_bounds (r : State × List Nat) : KeepsBounds r.1 (handOn r) := .foldl buttonCode_bounds _ _

theorem panelHunt_bounds (s : State) : KeepsBounds s (panelHunt s) := keepsBounds_stick fun h => ⟨h.timeout, h.held⟩

theorem portFrame_bounds (seq : Nat) (samples : List Int) (codes : List Nat) (check : Nat) (s : State) :
    KeepsBounds s (portFrame seq samples codes check s).1 := by
  unfold portFrame
  split
  · exact (panelHunt_bounds s).trans (portComplete_bounds _ _ _ _ _)
  · exact panelHunt_bounds s

theorem stickEvents_bounds (l : List StickEvent) : ∀ s : State, KeepsBounds s (stickEvents l s).1 := by
  induction l with
  | nil => exact KeepsBounds.refl
  | cons e t ih =>
    intro s
    refine .trans ?_ (ih _)
    cases e with
    | frame => exact portFrame_bounds _ _ _ _ s
    | expiry => exact staleExpire_bounds s

theorem panelReceive_bounds (b : Byte) (e : Bool) (s : State) : KeepsBounds s (panelReceive b e s) := by
  have taken : ∀ r, KeepsBounds s { s with stick := { s.stick with receiver := r } } :=
    fun r => keepsBounds_stick fun h => ⟨h.timeout, h.held⟩
  unfold panelReceive
  split
  · exact .ite (taken _) (.refl s)
  · refine .ite (panelHunt_bounds s) (.ite (panelHunt_bounds s) (.ite ?_ (taken _)))
    exact (panelHunt_bounds s).trans ((portComplete_bounds _ _ _ _ _).trans (handOn_bounds _))

/-! ### The output frame -/

theorem limitStage_bounds (c : Fin 8 → Int) (f : Fin 8 → ClampFlags) (s : State) : KeepsBounds s (limitStage c f s) := by
  refine .trans (.trans ?_ (.foldl (fun t i => raise_bounds _ t) _ _)) (allHeldIf_bounds _ _)
  exact .untouched

theorem blendAndLimit_bounds (s : State) : KeepsBounds s (blendAndLimit s) :=
  have blended : KeepsBounds s (blendStage s) := (mapAxes_bounds _ s).trans (withClears_bounds s _)
  blended.trans ((limitStage_bounds _ _ _).trans (mapAxes_bounds _ _))

theorem askPlayers_bounds (t : PlayerTurns) (s : State) : KeepsBounds s (askPlayers t s).1 :=
  (frameAccesses_bounds _ s).trans ((positionRequest_bounds _ _).trans ((frameAccesses_bounds _ _).trans
    ((stickEvents_bounds _ _).trans ((positionRequest_bounds _ _).trans ((frameAccesses_bounds _ _).trans
      (stickEvents_bounds _ _))))))

theorem publishTo_bounds (f s : State) (x : Sink) : KeepsBounds s (publishTo f s x) := by
  cases x with
  | driveLine => exact drivePublication_bounds f s
  | recorder => exact recorderPublication_bounds s
  | cue => exact cuePublication_bounds s
  | noticeUnit => exact dividerCount_bounds f s

theorem publish_bounds (order : List Sink) (s : State) : KeepsBounds s (publish order s) := by
  refine .trans ?_ (.foldl (publishTo_bounds _) _ _)
  exact ⟨id, id, id, id, id, id, fun h => ⟨h.decimation, h.skipped⟩, id⟩

/-- The interval that begins has the period as set, and the number wraps below 2³² (R19, R20). -/
theorem expire_inRange {t : FrameTimer} (h : t.InRange) : t.expire.InRange :=
  ⟨h.period, h.period, Nat.mod_lt _ (by decide)⟩

theorem outputFrame_bounds (order : List Sink) (t : PlayerTurns) (s : State) : KeepsBounds s (outputFrame order t s) :=
  (keepsBounds_timer expire_inRange : KeepsBounds s { s with timer := s.timer.expire }).trans
    ((askPlayers_bounds t _).trans ((blendAndLimit_bounds _).trans ((publish_bounds order _).trans
      ((takeFaults_bounds t.faults _).trans (handOn_bounds (_, _))))))

/-! ### A millisecond -/

theorem stickMillisecond_bounds (s : State) : KeepsBounds s (stickMillisecond s) := by
  have counted : KeepsBounds s { s with stick := { s.stick with elapsed := s.stick.elapsed + 1 } } :=
    keepsBounds_stick fun h => ⟨h.timeout, h.held⟩
  exact .ite (.ite (counted.trans (staleExpire_bounds _)) counted) (.refl s)

theorem frameMillisecond_bounds (s : State) : KeepsBounds s (frameMillisecond s) := by
  have counted : KeepsBounds s { s with timer := { s.timer with elapsed := s.timer.elapsed + 1 } } :=
    keepsBounds_timer fun h => ⟨h.period, h.interval, h.number⟩
  exact .ite (counted.trans (outputFrame_bounds _ _ _)) counted

/-! ### The Console Link -/

theorem framer_bounds (f : Option (List Byte)) (s : State) : KeepsBounds s { s with link := { s.link with framer := f } } :=
  keepsBounds_link fun h => h.shrink (List.Sublist.refl _) (List.Sublist.refl _)

theorem discardFrame_bounds (c : LinkCause) (s : State) : KeepsBounds s (discardFrame c s) :=
  (framer_bounds none s).trans (raise_bounds _ _)

theorem consoleGap_bounds (s : State) : KeepsBounds s (consoleGap s) := by
  unfold consoleGap
  split
  · exact discardFrame_bounds _ s
  · exact .refl s

theorem millisecond_bounds (s : State) : KeepsBounds s (millisecond s) :=
  (panelHunt_bounds s).trans ((consoleGap_bounds _).trans ((stickMillisecond_bounds _).trans (frameMillisecond_bounds _)))

/-- With fewer than four places occupied, the next request gets a number below 4 that no place has (R196). -/
theorem freeSlot_fresh {l : Link} (hl : l.slots.length < 4) : l.freeSlot < 4 ∧ l.freeSlot ∉ l.slots := by
  have unused : ∃ k ∈ ([0, 1, 2, 3] : List Nat), k ∉ l.slots := by
    by_contra all
    push Not at all
    have := (List.nodup_range (n := 4)).subperm all |>.length_le
    simp at this
    omega
  obtain ⟨k, hk, hfree⟩ := unused
  have isFree : ∀ n : Nat, (l.places.all fun p => decide (p.slot ≠ n)) = true ↔ n ∉ l.slots := by
    simp [Link.slots]
  cases hfind : ([0, 1, 2, 3] : List Nat).find? fun n => l.places.all fun p => decide (p.slot ≠ n) with
  | none => exact absurd ((isFree k).mpr hfree) (List.find?_eq_none.mp hfind k hk)
  | some n =>
    have hn : l.freeSlot = n := by rw [Link.freeSlot, hfind, Option.getD_some]
    rw [hn]
    have mem := List.mem_of_find?_eq_some hfind
    refine ⟨?_, (isFree n).mp (List.find?_some (p := fun n => l.places.all fun p => decide (p.slot ≠ n)) hfind)⟩
    simp at mem
    omega

theorem requestArrival_bounds (kind tag : Nat) (payload : List Byte) (s : State) :
    KeepsBounds s (requestArrival kind tag payload s) := by
  unfold requestArrival
  split
  · next room =>
    refine keepsBounds_link fun h => ?_
    have room' : s.link.slots.length < 4 := by simpa [Link.slots, Config.queueDepth] using room
    obtain ⟨small, fresh⟩ := freeSlot_fresh room'
    have appended : ∀ x : Place, (s.link.places ++ [x]).map (·.slot) = s.link.slots ++ [x.slot] := by simp [Link.slots]
    refine ⟨?_, ?_, ?_, h.refused⟩
    · rw [Link.slots, appended, List.length_append]
      exact room'
    · rw [Link.slots, appended]
      exact List.nodup_append.mpr
        ⟨h.distinct, List.nodup_singleton _, fun n hn m hm e =>
          fresh ((e.trans (List.mem_singleton.mp hm) : n = s.link.freeSlot) ▸ hn)⟩
    · rw [Link.slots, appended]
      intro n hn
      rcases List.mem_append.mp hn with old | new
      · exact h.numbered n old
      · exact List.mem_singleton.mp new ▸ small
  · split
    · next room =>
      refine keepsBounds_link fun h => ⟨h.size, h.distinct, h.numbered, ?_⟩
      simpa [Link.refusals, Nat.succ_le_iff] using room
    · exact raise_bounds _ s

theorem completeFrame_bounds (kind tag : Nat) (payload : List Byte) (check : Nat) (s : State) :
    KeepsBounds s (completeFrame kind tag payload check s) :=
  .ite (discardFrame_bounds _ s)
    (.ite (discardFrame_bounds _ s) ((framer_bounds none s).trans (requestArrival_bounds _ _ _ _)))

theorem consoleReceive_bounds (b : Byte) (e : Bool) (s : State) : KeepsBounds s (consoleReceive b e s) := by
  unfold consoleReceive
  split
  · exact .ite (framer_bounds _ s) (.refl s)
  · exact .ite (discardFrame_bounds _ s) (.ite (discardFrame_bounds _ s)
      (.ite (completeFrame_bounds _ _ _ _ s) (framer_bounds _ s)))

/-! ### Power -/

/-- The volatile state is at its values after reset, whatever it was (R101). -/
theorem resetVolatile_bounds (line : StopLine) (s t : State) : KeepsBounds s (resetVolatile line t) where
  link := fun _ => ⟨Nat.zero_le _, List.nodup_nil, fun _ h => absurd h List.not_mem_nil, Nat.zero_le _⟩
  fifo := fun _ => Nat.zero_le _
  timer := fun _ => show FrameTimer.reset.InRange from ⟨by decide, by decide, by decide⟩
  stick := fun _ => show StickPort.reset.InRange from ⟨by decide, by decide⟩
  rateA := fun _ => (by decide : 256 ≤ 512)
  rateB := fun _ => (by decide : 256 ≤ 512)
  recorder := fun _ => show Recorder.reset.InRange from ⟨by decide, by decide⟩
  status := fun _ => show StatusUnit.reset.InRange from ⟨by decide, by decide⟩

theorem trimChain_bounds (m : MoveIx) (s : State) : KeepsBounds s (trimChain m s) := by
  unfold trimChain
  simp only
  refine .trans ?_ (setEntry_bounds _ _ _)
  split
  · exact (releaseBlocks_bounds _ _ s).trans (setBlock_bounds _ _ _)
  · exact releaseBlocks_bounds _ _ s

theorem recoverEntry_bounds (s : State) (m : MoveIx) : KeepsBounds s (recoverEntry s m) :=
  .ite (.ite ((trimChain_bounds m s).trans (setEntry_bounds _ _ _)) ((trimChain_bounds m s).trans (emptyEntry_bounds _ _)))
    (.refl s)

theorem recover_bounds (s : State) : KeepsBounds s (recover s) := .foldl recoverEntry_bounds _ s

theorem powerOn_bounds (loop : LoopCurrent) (s : State) : KeepsBounds s (powerOn loop s) :=
  (resetVolatile_bounds _ s _).trans (recover_bounds _)

theorem transmitDone_bounds (loop : LoopCurrent) (c : KeyCheck) (s : State) : KeepsBounds s (transmitDone loop c s) := by
  unfold transmitDone
  split
  · exact .refl s
  · refine .ite ((resetVolatile_bounds _ s _).trans (recover_bounds _)) (keepsBounds_link fun h => ?_)
    exact h.shrink (List.Sublist.refl _) (List.Sublist.refl _)

end Sys2Proof.Machine
end

section
/-! Every command, and so every step, keeps the bounds. -/

namespace Sys2Proof.Machine

/-- An outcome whose next state, if there is one, keeps the bounds of `s`. -/
def Lands (s : State) (o : Host.Outcome State Fault Refusal) : Prop := ∀ t : State, o = .next t → KeepsBounds s t

theorem Lands.next {s t : State} (h : KeepsBounds s t) : Lands s (.next t) := by
  rintro u ⟨⟩
  exact h

theorem event_lands {f : State → State} (h : ∀ s : State, KeepsBounds s (f s)) (s : State) : Lands s (event f s) := by
  unfold event
  split
  · exact .next ((h s).trans (pump_bounds _))
  · exact .next (.refl s)

theorem request_lands {i : Instr} {act : Via → State → State × Option Reply} {s : State}
    (h : KeepsBounds s (act (s.via i) s).1) : Lands s (request i act s) := by
  unfold request
  split
  · split
    · next acted =>
      rw [acted] at h
      exact .next (h.trans ((readyReply_bounds _ _ _).trans (pump_bounds _)))
    · next acted =>
      rw [acted] at h
      exact .next (h.trans (pump_bounds _))
  · exact .next (.refl s)

theorem answered_lands {i : Instr} {act : State → State × Reply} {s : State} (h : KeepsBounds s (act s).1) :
    Lands s (answered i act s) := request_lands h

theorem query_lands (i : Instr) (fields : State → List Byte) (s : State) : Lands s (query i fields s) :=
  answered_lands (.refl s)

/-! ### The requests that set a bounded field -/

theorem execSetFrame_lands (n : Nat) (s : State) : Lands s (execSetFrame n s) := by
  refine answered_lands ?_
  split
  · exact .refl s
  · next period =>
    split
    · exact .refl s
    · exact keepsBounds_timer fun h => ⟨by simpa [periodOk] using of_not_not period, h.interval, h.number⟩

theorem execSetPanel_lands (n : Nat) (s : State) : Lands s (execSetPanel n s) := by
  refine answered_lands ?_
  split
  · exact .refl s
  · next timeout =>
    have set : KeepsBounds s { s with stick := { s.stick with timeout := n } } :=
      keepsBounds_stick fun h => ⟨by simpa using timeout, h.held⟩
    exact .ite (set.trans (staleExpire_bounds _)) set

theorem execSetRate_lands (c r : Nat) (b : Option (Nat × Nat)) (s : State) : Lands s (execSetRate c r b s) := by
  refine answered_lands ?_
  split
  · split
    · exact .refl s
    · next rate => exact setPlayer_bounds fun _ => Nat.le_of_not_lt rate
  · exact .refl s

theorem execSetStatus_lands (n : Nat) (s : State) : Lands s (execSetStatus n s) := by
  refine answered_lands ?_
  split
  · exact .refl s
  · next interval => exact keepsBounds_status fun h => ⟨Nat.le_of_not_lt interval, h.replaced⟩

/-! ### Requests at the axes -/

theorem execSetAxis_lands (n : Nat) (w : WireAxis) (s : State) : Lands s (execSetAxis n w s) := by
  have centred : ∀ (ch : Option (Fin 8)) (u : State), KeepsBounds u (centreChannel ch u) := fun ch u => by
    cases ch with
    | none => exact .refl u
    | some j => exact keepsBounds_stick fun h => ⟨h.timeout, h.held⟩
  refine answered_lands ?_
  simp only
  split
  · exact .refl s
  · split
    · exact .refl s
    · split
      · exact .refl s
      · exact (setAxis_bounds _ _ s).trans ((centred _ _).trans (withClears_bounds s _))

theorem execReleaseAxis_lands (n : Nat) (s : State) : Lands s (execReleaseAxis n s) := by
  refine answered_lands ?_
  split
  · exact .refl s
  · split
    · exact .refl s
    · split
      · exact .refl s
      · exact (setAxis_bounds _ _ s).trans (withClears_bounds s _)

theorem execEnableAxis_lands (n : Nat) (s : State) : Lands s (execEnableAxis n s) := by
  refine answered_lands ?_
  simp only
  split
  · exact .refl s
  · split
    · exact .refl s
    · split
      · exact .refl s
      · split
        · exact .refl s
        · exact (mapAxes_bounds _ s).trans (withClears_bounds s _)

theorem execDisableAxis_lands (n : Nat) (s : State) : Lands s (execDisableAxis n s) := by
  refine answered_lands ?_
  split
  · exact .refl s
  · split
    · exact .refl s
    · exact (mapAxes_bounds _ s).trans ((withClears_bounds s _).trans (allHeldIf_bounds _ _))

theorem execStopAll_lands (s : State) : Lands s (execStopAll s) :=
  answered_lands ((raise_bounds _ s).trans (cascade_bounds _))

/-! ### Requests at the Move Library -/

theorem beginTxn_bounds (v : Via) (m : MoveIx) (w : TxnWork) (s : State) : KeepsBounds s (beginTxn v m w s) := by
  refine .trans (.trans (holdPlace_bounds v s) ?_) (consoleStep_bounds _)
  exact .untouched

theorem execPutKeys_lands (n : Nat) (keys : List WireKey) (s : State) : Lands s (execPutKeys n keys s) := by
  refine request_lands ?_
  unfold putKeysRequest
  split
  · exact .refl s
  · split
    · exact .refl s
    · split
      · exact .refl s
      · split
        · exact .refl s
        · split
          · exact .refl s
          · exact beginTxn_bounds _ _ _ s

theorem execReadKeys_lands (n first count : Nat) (s : State) : Lands s (execReadKeys n first count s) := by
  refine request_lands ?_
  unfold readKeysRequest
  simp only
  split
  · exact .refl s
  · split
    · exact .refl s
    · split
      · exact .refl s
      · split
        · exact .refl s
        · split
          · exact .refl s
          · have begun := beginTxn_bounds (s.via (.readKeys n first count)) ‹MoveIx› (.read first count []) s
            exact begun

theorem execDeleteMove_lands (n : Nat) (s : State) : Lands s (execDeleteMove n s) := by
  refine answered_lands ?_
  split
  · exact .refl s
  · split
    · exact emptyEntry_bounds _ s
    · exact .refl s

/-! ### Other commands -/

theorem execPowerOn_lands (loop : LoopCurrent) (s : State) : Lands s (execPowerOn loop s) := by
  unfold execPowerOn
  split
  · exact .next (.refl s)
  · exact .next ((powerOn_bounds loop s).trans (pump_bounds _))

theorem execMainPowerLoss_lands (s : State) : Lands s (execMainPowerLoss s) := by
  unfold execMainPowerLoss
  split
  · exact .next (resetVolatile_bounds _ s _)
  · exact .next (.refl s)

theorem execRetentionSupplyLoss_lands (s : State) : Lands s (execRetentionSupplyLoss s) := by
  refine .next (.trans (t := powerLost (initialiseRetained s)) (resetVolatile_bounds _ s _) ?_)
  exact .untouched

theorem execStopLineAssert_lands (s : State) : Lands s (execStopLineAssert s) :=
  event_lands (fun u => by
    refine .ite (.trans (.trans ?_ (raise_bounds _ _)) (cascade_bounds _)) (.refl u)
    exact .untouched) s

theorem execStopLineRelease_lands (s : State) : Lands s (execStopLineRelease s) :=
  event_lands (fun u => by
    refine .ite (.trans ?_ (raise_bounds _ _)) (.refl u)
    exact .untouched) s

theorem execFadeComplete_lands (n : Nat) (s : State) : Lands s (execFadeComplete n s) := by
  refine event_lands (fun u => ?_) s
  split
  · exact (setAxis_bounds _ _ u).trans (withClears_bounds u _)
  · exact .refl u

theorem execDriveSilent_lands (n : Nat) (s : State) : Lands s (execDriveSilent n s) := by
  refine event_lands (fun u => ?_) s
  split
  · exact driveSilent_bounds _ u
  · exact .refl u

theorem execFade_lands (m t l : Nat) (s : State) : Lands s (execFade m t l s) := by
  refine answered_lands ?_
  exact fadeRequest_bounds m t l s

theorem execTakeOver_lands (s : State) : Lands s (execTakeOver s) := by
  refine answered_lands ?_
  exact takeOver_bounds s

theorem execLoad_lands (c id r : Nat) (s : State) : Lands s (execLoad c id r s) := by
  refine answered_lands ?_
  exact loadRequest_bounds c id r s

theorem execRun_lands (c : Nat) (s : State) : Lands s (execRun c s) := by
  refine answered_lands ?_
  exact runRequest_bounds c s

theorem execPause_lands (c : Nat) (s : State) : Lands s (execPause c s) := by
  refine answered_lands ?_
  exact pauseRequest_bounds c s

theorem execStop_lands (c : Nat) (s : State) : Lands s (execStop c s) := by
  refine answered_lands ?_
  exact stopRequest_bounds c s

theorem execGoTo_lands (c k f : Nat) (s : State) : Lands s (execGoTo c k f s) := by
  refine answered_lands ?_
  exact goToRequest_bounds c k f s

theorem execRecordStart_lands (id : Nat) (name : List Nat) (mask d sh tr : Nat) (s : State) :
    Lands s (execRecordStart id name mask d sh tr s) := by
  refine answered_lands ?_
  exact recordStartRequest_bounds id name mask d sh tr s

theorem execRecordStop_lands (s : State) : Lands s (execRecordStop s) := by
  refine answered_lands ?_
  exact recordStopRequest_bounds s

theorem execRestart_lands (s : State) : Lands s (execRestart s) := by
  refine answered_lands ?_
  exact keepsBounds_link fun h => h.shrink (List.Sublist.refl _) (List.Sublist.refl _)

/-! ### Commands and steps -/

/-- The events and requests named reach a bounded field; each outcome of the others, split by their checks, leaves every
bounded field as it is. -/
theorem exec_lands (c : Instr) (s : State) : Lands s (exec c s) := by
  cases c with
  | powerOn => exact execPowerOn_lands _ s
  | mainPowerLoss => exact execMainPowerLoss_lands s
  | retentionSupplyLoss => exact execRetentionSupplyLoss_lands s
  | panelFrame => exact event_lands (fun s => (portFrame_bounds _ _ _ _ s).trans (handOn_bounds _)) s
  | panelByte => exact event_lands (panelReceive_bounds _ _) s
  | panelGapTimeout => exact event_lands panelHunt_bounds s
  | staleTimeout => exact event_lands staleExpire_bounds s
  | outputFrame => exact event_lands (outputFrame_bounds _ _) s
  | recorderTimeLimit => exact event_lands recorderTimeLimit_bounds s
  | waitFramesExpired => exact event_lands waitFramesExpired_bounds s
  | statusReportDue => exact event_lands (fun s => statusDue_bounds s s) s
  | keyAccessComplete => exact event_lands (completeAccess_bounds false _) s
  | driveReply => exact event_lands (driveReply_bounds _ _ _ _ _ _) s
  | consoleByte => exact event_lands (consoleReceive_bounds _ _) s
  | consoleGapTimeout => exact event_lands consoleGap_bounds s
  | requestFrame => exact event_lands (fun s => .ite (discardFrame_bounds _ s) (completeFrame_bounds _ _ _ _ s)) s
  | transmitDone => exact event_lands (transmitDone_bounds _ _) s
  | stopLineAssert => exact execStopLineAssert_lands s
  | stopLineRelease => exact execStopLineRelease_lands s
  | fadeComplete => exact execFadeComplete_lands _ s
  | driveSilent => exact execDriveSilent_lands _ s
  | setPanel => exact execSetPanel_lands _ s
  | setFrame => exact execSetFrame_lands _ s
  | setRate => exact execSetRate_lands _ _ _ s
  | setStatus => exact execSetStatus_lands _ s
  | setAxis => exact execSetAxis_lands _ _ s
  | releaseAxis => exact execReleaseAxis_lands _ s
  | enableAxis => exact execEnableAxis_lands _ s
  | disableAxis => exact execDisableAxis_lands _ s
  | stopAll => exact execStopAll_lands s
  | fade => exact execFade_lands _ _ _ s
  | takeOver => exact execTakeOver_lands s
  | putKeys => exact execPutKeys_lands _ _ s
  | readKeys => exact execReadKeys_lands _ _ _ s
  | deleteMove => exact execDeleteMove_lands _ s
  | load => exact execLoad_lands _ _ _ s
  | run => exact execRun_lands _ s
  | pause => exact execPause_lands _ s
  | stop => exact execStop_lands _ s
  | goTo => exact execGoTo_lands _ _ _ s
  | recordStart => exact execRecordStart_lands _ _ _ _ _ _ s
  | recordStop => exact execRecordStop_lands s
  | restart => exact execRestart_lands s
  | ident | getPanel | getFrame | getGeometry | listMoves | getRecorder | getCue | getTriggers | getNotices | readLog
  | getStatus =>
    rw [exec]
    exact query_lands _ _ s
  | setGeometry | setZone | protectMove =>
    rw [exec]
    refine answered_lands ?_
    dsimp only
    (repeat' split) <;> exact .untouched
  | _ =>
    rw [exec]
    refine answered_lands ?_
    (repeat' split) <;> exact .untouched

theorem idle_lands (s : State) : Lands s (idle s) := by
  unfold idle
  split
  · split
    · exact exec_lands _ s
    · exact .next ((readyReply_bounds _ _ s).trans (pump_bounds _))
    · exact .next ((readyReply_bounds _ _ s).trans (pump_bounds _))
    · exact .next ((millisecond_bounds s).trans (pump_bounds _))
  · exact .next (.refl s)

/-- Every step keeps the law of each component. -/
theorem step_bounds {s t : State} (h : step s = .next t) : KeepsBounds s t := by
  unfold step at h
  split at h
  · exact KeepsBounds.trans .untouched (exec_lands _ _ t h)
  · exact idle_lands s t h

/-- Settles O11: every step keeps the law of each component, and the two laws are made of those. -/
theorem stepKeepsBoundsLawful : Obligations.StepKeepsBoundsLawful := by
  refine ⟨fun s t lawful stepped => ?_, fun s t lawful stepped => ?_⟩
  · have keeps := step_bounds stepped
    obtain ⟨link, fifo⟩ := (buffersLawful_iff s).mp lawful
    exact (buffersLawful_iff t).mpr ⟨keeps.link link, keeps.fifo fifo⟩
  · have keeps := step_bounds stepped
    obtain ⟨timer, stick, rateA, rateB, recorder, status⟩ := (rangesLawful_iff s).mp lawful
    exact (rangesLawful_iff t).mpr ⟨keeps.timer timer, keeps.stick stick, keeps.rateA rateA, keeps.rateB rateB,
      keeps.recorder recorder, keeps.status status⟩

end Sys2Proof.Machine
end

section
/-! The reset tables, and the shaping of the sticks' samples (R13 to R15). -/

namespace Sys2Proof.Machine

/-! ### The state after reset -/

@[simp] theorem reset_axis (i : Fin 8) : State.reset.axis i = Axis.reset := by simp [State.axis, State.reset]

@[simp] theorem reset_zone (i : Fin 8) : State.reset.zone i = Zone.blank := by simp [State.zone, State.reset]

@[simp] theorem reset_entry (m : MoveIx) : State.reset.entry m = Entry.blank := by
  simp [State.entry, State.reset, Library.initial]

@[simp] theorem reset_player (p : PlayerId) : State.reset.player p = Player.reset := by cases p <;> rfl

theorem reset_noticeSlot (c : NoticeClass) : State.reset.noticeSlot c =
    { enabled := decide (c ≠ .button), pending := false, coalesced := false, detail := none } := by
  cases c <;> rfl

/-- Settles O4: every table's values stand in the reset value of its block. -/
theorem resetHasTheTablesValues : Obligations.ResetHasTheTablesValues := by
  refine ⟨⟨rfl, rfl, rfl, rfl, ?stick⟩, ⟨rfl, rfl, rfl⟩, reset_axis, ?zones, ⟨rfl, rfl, ?entries⟩, reset_player,
    ⟨rfl, rfl, rfl, rfl, rfl, rfl, rfl, rfl, rfl, rfl⟩, ⟨rfl, rfl, rfl, rfl, rfl, rfl, ?counters⟩,
    ⟨rfl, rfl, rfl, reset_noticeSlot⟩, ⟨rfl, rfl, rfl, rfl, rfl⟩⟩
  case stick => exact fun ch => by simp [State.reset, StickPort.reset]
  case zones => exact fun i => by simp [Zone.blank]
  case entries => exact fun m => by simp [Entry.blank]
  case counters => exact fun i => by simp [State.reset, Cue.reset]

/-! ### Shaping -/

theorem deadbandStage_within {j : Int} {d : Nat} (h : j.natAbs ≤ d) : deadbandStage j d = 0 := if_pos h

theorem deadbandStage_beyond {j : Int} {d : Nat} (h : d < j.natAbs) :
    deadbandStage j d = (j.natAbs - d) * 32767 / (2047 - d) := if_neg (Nat.not_le_of_lt h)

@[simp] theorem deadbandStage_neg (j : Int) (d : Nat) : deadbandStage (-j) d = deadbandStage j d := by
  simp [deadbandStage]

theorem deadbandStage_le {j : Int} {d : Nat} (hj : j.natAbs ≤ 2047) : deadbandStage j d ≤ 32767 := by
  unfold deadbandStage
  split
  · exact Nat.zero_le _
  · exact Nat.div_le_of_le_mul (Nat.mul_le_mul_right _ (by omega))

/-- A full deflection is rescaled to 32767 (R13). -/
theorem deadbandStage_full {j : Int} {d : Nat} (hj : j.natAbs = 2047) (hd : d ≤ 512) : deadbandStage j d = 32767 := by
  rw [deadbandStage_beyond (by omega), hj]
  exact Nat.mul_div_right _ (by omega)

/-- A square over 32767 is no greater than its root, up to 32767. -/
theorem square_le {m : Nat} (h : m ≤ 32767) : m * m / 32767 ≤ m :=
  Nat.div_le_of_le_mul (Nat.mul_le_mul_right _ h)

/-- No curve exceeds 32767 (R14). -/
theorem Curve.apply_le (c : Curve) {m : Nat} (h : m ≤ 32767) : c.apply m ≤ 32767 := by
  have := square_le h
  cases c with
  | linear => exact h
  | square => exact this.trans h
  | mixed =>
    show (m + m * m / 32767) / 2 ≤ 32767
    omega

@[simp] theorem Curve.apply_zero (c : Curve) : c.apply 0 = 0 := by cases c <;> rfl

@[simp] theorem Curve.apply_full (c : Curve) : c.apply 32767 = 32767 := by cases c <;> rfl

theorem withSign_eq {j : Int} {m : Nat} (h : j = 0 → m = 0) : withSign j m = j.sign * m := by
  unfold withSign
  rcases lt_trichotomy j 0 with neg | zero | pos
  · simp [neg, Int.sign_eq_neg_one_of_neg neg]
  · simp [zero, h zero]
  · simp [not_lt.mpr pos.le, Int.sign_eq_one_of_pos pos]

/-- The shaped sample: the curve of the rescaled magnitude, with the sample's sign and the invert flag's (R13, R14). -/
theorem shape_eq (d : Nat) (c : Curve) (inv : Bool) (j : Int) :
    shape d c inv j = (if inv then -1 else 1) * j.sign * (c.apply (deadbandStage j d) : Nat) := by
  have signed : withSign j (c.apply (deadbandStage j d)) = j.sign * (c.apply (deadbandStage j d) : Nat) :=
    withSign_eq fun zero => by rw [deadbandStage_within (by simp [zero]), Curve.apply_zero]
  unfold shape
  rw [signed]
  cases inv <;> simp

theorem shape_neg (d : Nat) (c : Curve) (inv : Bool) (j : Int) : shape d c inv (-j) = - shape d c inv j := by
  simp [shape_eq, Int.sign_neg]

theorem shape_invert (d : Nat) (c : Curve) (j : Int) : shape d c true j = - shape d c false j := by
  simp [shape_eq]

theorem shape_natAbs (d : Nat) (c : Curve) (inv : Bool) (j : Int) :
    (shape d c inv j).natAbs = c.apply (deadbandStage j d) := by
  have unit : ((if inv then -1 else 1 : Int)).natAbs = 1 := by cases inv <;> rfl
  rw [shape_eq, Int.natAbs_mul, Int.natAbs_mul, unit, Int.natAbs_sign, Int.natAbs_natCast]
  split
  · next zero => rw [deadbandStage_within (by simp [zero]), Curve.apply_zero]
  · ring

theorem shape_natAbs_le (d : Nat) (c : Curve) (inv : Bool) {j : Int} (h : j.natAbs ≤ 2047) :
    (shape d c inv j).natAbs ≤ 32767 := by
  rw [shape_natAbs]
  exact c.apply_le (deadbandStage_le h)

theorem shape_within (c : Curve) (inv : Bool) {d : Nat} {j : Int} (h : j.natAbs ≤ d) : shape d c inv j = 0 := by
  rw [shape_eq, deadbandStage_within h]
  simp

/-! ### Demands -/

theorem gives_iff {p : StickPort} {ch : Fin 8} : p.gives ch = true ↔ p.port = .live ∧ p.channels[ch] = .live := by
  simp [StickPort.gives]

theorem gives_false_of {p : StickPort} {ch : Fin 8} (h : p.port = .stale ∨ p.channels[ch] = .centredWait) :
    p.gives ch = false := by
  rcases h with h | h <;> simp [StickPort.gives, h]

theorem axisDemand_of_channel {p : StickPort} {c : AxisConfig} {ch : Fin 8} (h : c.channel = some ch) :
    p.axisDemand c = if p.gives ch then shape c.deadband c.curve c.invert p.held[ch] else 0 := by
  simp [StickPort.axisDemand, h]

/-- No demand without a channel or from one that gives none (R14). -/
theorem axisDemand_eq_zero {p : StickPort} {c : AxisConfig} (h : ∀ ch : Fin 8, c.channel = some ch → p.gives ch = false) :
    p.axisDemand c = 0 := by
  unfold StickPort.axisDemand
  split
  · rfl
  · next ch bound => simp [h ch bound]

/-- A STALE port gives no demand (R7, R14). -/
theorem axisDemand_stale {p : StickPort} (h : p.port = .stale) (c : AxisConfig) : p.axisDemand c = 0 :=
  axisDemand_eq_zero fun _ _ => gives_false_of (.inl h)

theorem channelDemand_eq_zero {p : StickPort} {ch : Fin 8} (h : p.gives ch = false) : p.channelDemand ch = 0 := by
  simp [StickPort.channelDemand, h]

/-- The channel demand's magnitude (R15): nothing is left of a sample within the deadband. -/
theorem freeDeadbandStage_eq (j : Int) : deadbandStage j Config.freeDeadband = (j.natAbs - 64) * 32767 / 1983 := by
  show deadbandStage j 64 = _
  rcases Nat.lt_or_ge 64 j.natAbs with beyond | inside
  · exact deadbandStage_beyond beyond
  · rw [deadbandStage_within inside, Nat.sub_eq_zero_of_le inside]

theorem channelDemand_live {p : StickPort} {ch : Fin 8} (h : p.gives ch = true) :
    p.channelDemand ch = p.held[ch].sign * ((p.held[ch].natAbs - 64) * 32767 / 1983 : Nat) := by
  simp [StickPort.channelDemand, h, shape_eq, freeDeadbandStage_eq, Curve.apply]

/-- Settles O23, clause by clause from the shape of the sample and from which channels give demand. -/
theorem demandIsShapedWithinRange : Obligations.DemandIsShapedWithinRange := by
  intro c p ch hd hheld
  refine ⟨?unbound, ?silent, ?bounded, ?deadband, ?full, ?beyond, ?shaped, ?channelSilent, ?channelLive, ?channelBounded⟩
  case unbound => exact fun h => axisDemand_eq_zero fun _ bound => absurd bound (by simp [h])
  case silent =>
    intro h still
    rw [axisDemand_of_channel h, gives_false_of still]
    rfl
  case bounded =>
    intro h
    rw [axisDemand_of_channel h]
    split
    · exact shape_natAbs_le _ _ _ hheld
    · decide
  case deadband =>
    intro h inside
    rw [axisDemand_of_channel h, shape_within _ _ inside, ite_self]
  case full =>
    intro h live channel upright
    rw [axisDemand_of_channel h, if_pos (gives_iff.mpr ⟨live, channel⟩), shape_eq, upright]
    constructor
    · intro full
      rw [full, deadbandStage_full rfl hd, Curve.apply_full]
      rfl
    · intro full
      rw [full, deadbandStage_full rfl hd, Curve.apply_full]
      rfl
  case beyond =>
    intro h live channel outside
    rw [axisDemand_of_channel h, if_pos (gives_iff.mpr ⟨live, channel⟩), shape_eq, deadbandStage_beyond outside]
    cases c.curve <;> rfl
  case shaped =>
    intro j
    refine ⟨shape_neg _ _ _ j, shape_invert _ _ j, fun outside => ?_⟩
    simp only [shape_natAbs, deadbandStage_beyond outside]
    exact ⟨rfl, rfl, rfl⟩
  case channelSilent => exact fun still => channelDemand_eq_zero (gives_false_of still)
  case channelLive => exact fun live channel => channelDemand_live (gives_iff.mpr ⟨live, channel⟩)
  case channelBounded =>
    unfold StickPort.channelDemand
    split
    · exact shape_natAbs_le _ _ _ hheld
    · decide

end Sys2Proof.Machine
end

section
/-! The requests of the Stick Port, the Frame Timer and the geometry record, and the expiry of the stale timer (R7 to R9, R20,
R21, R30, R42). -/

namespace Sys2Proof.Machine

/-! ### Deliveries -/

/-- A delivered request leaves what its block makes of the state, and answers what its block answers. -/
theorem answered_eq {i : Instr} {act : State → State × Reply} {s t : State} {r : Reply} (h : s.delivers = true)
    (acted : act s = (t, r)) : answered i act s = delivered i s t r := by
  rw [answered_delivers h, acted]

theorem answered_accept {i : Instr} {act : State → State × Reply} {s t : State} (h : s.delivers = true)
    (acted : act s = accept t) : answered i act s = accepted i s t := answered_eq h acted

theorem answered_refuse {i : Instr} {act : State → State × Reply} {s : State} {c : Result} (h : s.delivers = true)
    (acted : act s = refuse c s) : answered i act s = turnedAway i s c := answered_eq h acted

/-! ### Some axis -/

theorem mem_allAxes : ∀ i : Fin 8, i ∈ allAxes := by decide

theorem anyAxis_iff {s : State} {p : Axis → Bool} : s.anyAxis p = true ↔ ∃ i : Fin 8, p (s.axis i) = true := by
  simp [State.anyAxis, mem_allAxes]

theorem enabled_iff {a : Axis} : a.enabled = true ↔ a.state = .active ∨ a.state = .stopping ∨ a.state = .held := by
  simp [Axis.enabled]

/-! ### The stale timer -/

theorem staleExpire_stale {s : State} (h : s.stick.port = .stale) : staleExpire s = s := by simp [staleExpire, h]

theorem staleExpire_live {s : State} (h : s.stick.port = .live) :
    staleExpire s = raise (.stick .stale none) { s with stick := s.stick.expired } := by simp [staleExpire, h]

theorem expired_channels (p : StickPort) (ch : Fin 8) : p.expired.channels[ch] = .centredWait := by
  simp [StickPort.expired]

/-! ### SET_PANEL -/

/-- A SET_PANEL in range sets the timeout, and the timer of a LIVE port that has already reached it expires (R8). -/
theorem execSetPanel_inRange {s : State} {n : Nat} (h : s.delivers = true) (hn : 10 ≤ n ∧ n ≤ 500) :
    exec (.setPanel n) s = accepted (.setPanel n) s
      (if s.stick.port = .live ∧ n ≤ s.stick.elapsed then staleExpire { s with stick := { s.stick with timeout := n } }
        else { s with stick := { s.stick with timeout := n } }) := by
  rw [exec, execSetPanel]
  exact answered_accept h (by simp [within_iff.mpr hn])

theorem execSetPanel_outOfRange {s : State} {n : Nat} (h : s.delivers = true) (hn : n < 10 ∨ 500 < n) :
    exec (.setPanel n) s = turnedAway (.setPanel n) s .badValue := by
  have outside : within 10 500 n = false := Bool.eq_false_iff.mpr fun inside => by
    have := within_iff.mp inside
    omega
  rw [exec, execSetPanel]
  exact answered_refuse h (if_pos outside)

/-! ### SET_FRAME and SET_GEOMETRY -/

theorem execSetFrame_badValue {s : State} {p : Nat} (h : s.delivers = true) (hp : ¬ (p = 1 ∨ p = 2 ∨ p = 4)) :
    exec (.setFrame p) s = turnedAway (.setFrame p) s .badValue := by
  rw [exec, execSetFrame]
  exact answered_refuse h (if_pos hp)

/-- SET_FRAME with a period in range: refused while an axis is enabled (R20). -/
theorem execSetFrame_period {s : State} {p : Nat} (h : s.delivers = true) (hp : p = 1 ∨ p = 2 ∨ p = 4) :
    exec (.setFrame p) s = if s.anyAxis Axis.enabled then turnedAway (.setFrame p) s .wrongState
      else accepted (.setFrame p) s { s with timer := { s.timer with period := p } } := by
  rw [exec, execSetFrame]
  by_cases enabled : s.anyAxis Axis.enabled = true
  · rw [if_pos enabled]
    exact answered_refuse h (by simp [hp, enabled])
  · rw [if_neg enabled]
    exact answered_accept h (by simp [hp, enabled])

theorem geometryOk_iff {g : Geometry} : g.ok = true ↔ g.rBase ≤ 4000000 ∧ 1 ≤ g.rRef ∧ g.rRef ≤ 4000000 ∧ 1 ≤ g.rMin
    ∧ g.rMin ≤ 4000000 ∧ 1 ≤ g.releaseFrames ∧ g.releaseFrames ≤ 65535 := by
  simp [Geometry.ok, within_iff, and_assoc]

/-! ### The statement -/

/-- Settles O22, request by request. -/
theorem stickAndFrameRequestsComplete : Obligations.StickAndFrameRequestsComplete := by
  refine ⟨⟨fun s on => ⟨fun stale => ?idle, fun live => ?expires⟩, fun s h => ⟨?kept, ?past, ?panelRange, ?getPanel⟩⟩,
    fun s h => ⟨?still, ?period, ?moving, ?getFrame, ?geometry, ?geometryRange, ?getGeometry, ?blendRange, ?blend⟩⟩
  case idle =>
    exact (event_on on).trans (congrArg happened (staleExpire_stale stale))
  case expires =>
    refine ⟨{ s with stick := s.stick.expired }, (event_on on).trans (congrArg happened (staleExpire_live live)), rfl, rfl, rfl,
      rfl, rfl, expired_channels s.stick, fun c => axisDemand_stale rfl c, fun ch => ?_⟩
    exact channelDemand_eq_zero (gives_false_of (.inl rfl))
  case kept =>
    intro n low high before
    rw [execSetPanel_inRange h ⟨low, high⟩, if_neg]
    rintro ⟨live, reached⟩
    rcases before with stale | before
    · cases live.symm.trans stale
    · omega
  case past =>
    intro n low high live reached
    have expires : staleExpire { s with stick := { s.stick with timeout := n } } = _ := staleExpire_live live
    rw [execSetPanel_inRange h ⟨low, high⟩, if_pos ⟨live, reached⟩, expires]
    rfl
  case panelRange => exact fun n => execSetPanel_outOfRange h
  case getPanel =>
    rw [exec, execGetPanel]
    exact query_delivers h
  case still =>
    intro p hp still
    rw [execSetFrame_period h hp, if_neg]
    rw [anyAxis_iff]
    rintro ⟨i, enabled⟩
    have := still i
    rcases enabled_iff.mp enabled with active | stopping | held <;> simp_all
  case period => exact fun p => execSetFrame_badValue h
  case moving =>
    intro p i hp enabled
    rw [execSetFrame_period h hp, if_pos (anyAxis_iff.mpr ⟨i, enabled_iff.mpr enabled⟩)]
  case getFrame =>
    rw [exec, execGetFrame]
    exact query_delivers h
  case geometry =>
    intro a b c d inRange
    rw [exec, execSetGeometry]
    exact answered_accept h (if_pos (geometryOk_iff.mpr inRange))
  case geometryRange =>
    intro a b c d outside
    rw [exec, execSetGeometry]
    exact answered_refuse h (if_neg (mt geometryOk_iff.mp outside))
  case getGeometry =>
    rw [exec, execGetGeometry]
    exact query_delivers h
  case blendRange =>
    intro n hn
    rw [exec, execGetBlend]
    exact answered_refuse h (by rw [indexOf?_none hn])
  case blend =>
    intro i
    rw [exec, execGetBlend]
    exact answered_eq h (by rw [indexOf?_val])

end Sys2Proof.Machine
end

section
/-! Panel frames: their arrival, the thresholds of the channels (R2 to R5, R10, R16, R169), and the bytes that carry them
(R1, Table 1-1). -/

namespace Sys2Proof.Machine

/-! ### What button codes leave alone -/

theorem recorderGo_motion (s : State) : SameButMotion s (recorderGo s) :=
  (recorderGo_library s).sameButPlayers.sameButMotion

theorem cueGo_motion (code : Nat) (s : State) : SameButMotion s (cueGo code s) := by
  unfold cueGo
  split
  · split
    · split
      · exact cueMet_motion s
      · exact SameButMotion.refl s
    · exact SameButMotion.refl s
  · exact SameButMotion.refl s

theorem resumePlayer_players (p : PlayerId) (s : State) : SameButPlayers s (resumePlayer p s) := by
  unfold resumePlayer
  split
  · exact runEffect_players p s
  · exact SameButPlayers.refl s

theorem takeOver_motion (s : State) : SameButMotion s (takeOver s) := handBackWhere_motion _ s

theorem triggerAct_motion (a : TriggerAction) (code : Nat) (e : Fin 8) (s : State) :
    SameButMotion s (triggerAct a code e s) := by
  cases a with
  | none => exact SameButMotion.refl s
  | cueGo => exact (cueGo_motion code s).trans (recorderGo_motion _)
  | pauseAll => exact (pausePlayers_players s).sameButMotion
  | resumePlay =>
    rw [triggerAct]
    split
    · exact SameButMotion.refl s
    · exact ((resumePlayer_players .a s).trans (resumePlayer_players .b _)).sameButMotion
  | takeOver => exact takeOver_motion s
  | report => exact (raise_library _ s).sameButPlayers.sameButMotion

theorem buttonCode_motion (s : State) (code : Nat) : SameButMotion s (buttonCode s code) := by
  unfold buttonCode
  split
  · exact triggerAct_motion _ _ _ s
  · exact SameButMotion.refl s

theorem buttonCodes_motion (codes : List Nat) : ∀ s : State, SameButMotion s (codes.foldl buttonCode s) := by
  induction codes with
  | nil => exact SameButMotion.refl
  | cons c t ih => exact fun s => (buttonCode_motion s c).trans (ih _)

/-! ### The notices of an arrival -/

theorem raise_noticeSlot_same (d : Detail) (s : State) :
    (raise d s).noticeSlot d.cls = (s.noticeSlot d.cls).raised { frame := s.timer.number, detail := d } :=
  setNoticeSlot_same s _ _

theorem NoticeClass.index_injective : Function.Injective NoticeClass.index := by
  intro c d
  cases c <;> cases d <;> decide

theorem raise_noticeSlot_other {d : Detail} {c : NoticeClass} (h : c ≠ d.cls) (s : State) :
    (raise d s).noticeSlot c = s.noticeSlot c := by
  have differ : d.cls.index.val ≠ c.index.val := fun e => h (NoticeClass.index_injective (Fin.ext e.symm))
  simp [raise, State.noticeSlot, State.setNoticeSlot, Vector.getElem_set_ne, differ]

/-! ### The arrival of a valid frame -/

/-- The state that the arrival of a valid frame leaves, before its button codes act (R3). -/
def afterArrival (seq : Nat) (samples : List Int) (s : State) : State := (portArrival seq samples [] s).1

theorem portArrival_eq (seq : Nat) (samples : List Int) (codes : List Nat) (s : State) :
    portArrival seq samples codes s = (afterArrival seq samples s, if s.stick.seq = some seq then [] else codes) := rfl

theorem afterArrival_stick (seq : Nat) (samples : List Int) (s : State) :
    (afterArrival seq samples s).stick = { s.stick.arrive seq samples with
      channels := Vector.ofFn fun ch => State.released { s with stick := s.stick.arrive seq samples } ch } := by
  unfold afterArrival portArrival
  simp only
  split <;> rfl

theorem afterArrival_held {seq : Nat} {samples : List Int} {s : State} {ch : Fin 8} {x : Int} (h : samples[ch.val]? = some x) :
    (afterArrival seq samples s).stick.held[ch] = if x = -2048 then -2047 else x := by
  simp [afterArrival_stick, StickPort.arrive, List.getD, h, storedSample]

/-- The channels after an arrival (R10): one in CENTRED_WAIT stays there while its new sample exceeds the threshold. -/
theorem afterArrival_channel (seq : Nat) (samples : List Int) (s : State) (ch : Fin 8) :
    (afterArrival seq samples s).stick.channels[ch] =
      if s.stick.channels[ch] = .centredWait ∧ s.threshold ch < ((afterArrival seq samples s).stick.held[ch]).natAbs
        then .centredWait else .live := by
  have released : (afterArrival seq samples s).stick.channels[ch] =
      if s.stick.channels[ch] = .centredWait ∧ ((afterArrival seq samples s).stick.held[ch]).natAbs ≤ s.threshold ch then .live
      else s.stick.channels[ch] := by
    rw [afterArrival_stick]
    simp only [Fin.getElem_fin, Vector.getElem_ofFn]
    rfl
  rw [released]
  cases s.stick.channels[ch] with
  | live => simp
  | centredWait =>
    rcases Nat.lt_or_ge (s.threshold ch) ((afterArrival seq samples s).stick.held[ch]).natAbs with above | inside
    · rw [if_neg fun h => Nat.not_le_of_lt above h.2, if_pos ⟨rfl, above⟩]
    · rw [if_pos ⟨rfl, inside⟩, if_neg fun h => Nat.not_lt_of_le inside h.2]

theorem afterArrival_sameButStick (seq : Nat) (samples : List Int) (s : State) : SameButStick s (afterArrival seq samples s) :=
  portArrival_stick seq samples [] s

theorem afterArrival_eq (seq : Nat) (samples : List Int) (s : State) :
    afterArrival seq samples s =
      { s with stick := (afterArrival seq samples s).stick, notices := (afterArrival seq samples s).notices } := by
  unfold afterArrival portArrival
  simp only
  split <;> rfl

theorem afterArrival_multi (seq : Nat) (samples : List Int) (s : State) :
    (afterArrival seq samples s).notices.multi = s.notices.multi := by
  unfold afterArrival portArrival
  simp only
  split <;> rfl

/-- A STICK notice tells of the arrival that brings a STALE port LIVE (R3). -/
theorem afterArrival_noticeSlot_stick (seq : Nat) (samples : List Int) (s : State) :
    (afterArrival seq samples s).noticeSlot .stick = if s.stick.port = .stale then
      (s.noticeSlot .stick).raised { frame := s.timer.number, detail := .stick .live (some seq) }
      else s.noticeSlot .stick := by
  unfold afterArrival portArrival
  simp only
  split
  · exact raise_noticeSlot_same (.stick .live (some seq)) { s with stick := s.stick.arrive seq samples }
  · rfl

theorem afterArrival_noticeSlot_other {c : NoticeClass} (h : c ≠ .stick) (seq : Nat) (samples : List Int) (s : State) :
    (afterArrival seq samples s).noticeSlot c = s.noticeSlot c := by
  unfold afterArrival portArrival
  simp only
  split
  · exact raise_noticeSlot_other (d := .stick .live (some seq)) h { s with stick := s.stick.arrive seq samples }
  · rfl

theorem panelComplete_invalid {seq check : Nat} {samples : List Int} {codes : List Nat}
    (h : panelValid seq samples codes check = false) (s : State) : panelComplete seq samples codes check s = s := by
  simp [panelComplete, portComplete, h, handOn]

theorem panelComplete_valid {seq check : Nat} {samples : List Int} {codes : List Nat}
    (h : panelValid seq samples codes check = true) (s : State) :
    panelComplete seq samples codes check s =
      (if s.stick.seq = some seq then [] else codes).foldl buttonCode (afterArrival seq samples s) := by
  simp [panelComplete, portComplete, h, handOn, portArrival_eq]

/-- A frame of a shape that a line carries, as PANEL_FRAME, is its completion at a HUNTING receiver. -/
theorem execPanelFrame_eq {seq : Nat} {samples : List Int} {codes : List Nat} {s : State} (on : s.power.on = true)
    (hseq : seq ≤ 255) (hs : samples.length = 8) (hc : codes.length ≤ 4) (check : Nat) :
    exec (.panelFrame seq samples codes check) s = happened (panelComplete seq samples codes check (panelHunt s)) := by
  rw [exec, execPanelFrame, event_on on]
  simp [portFrame, panelShape, hseq, hs, hc, panelComplete]

/-! ### The threshold of a channel -/

theorem boundTo_iff {a : Axis} {ch : Fin 8} : a.boundTo ch = true ↔ ∃ c : AxisConfig, a.cfg = some c ∧ c.channel = some ch := by
  unfold Axis.boundTo
  split
  · next c h => simp [h]
  · next h => simp [h]

theorem mem_boundDeadbands {s : State} {ch : Fin 8} {d : Nat} : d ∈ s.boundDeadbands ch ↔
    ∃ (i : Fin 8) (c : AxisConfig), (s.axis i).cfg = some c ∧ c.channel = some ch ∧ c.deadband = d := by
  simp only [State.boundDeadbands, List.mem_filterMap, mem_allAxes, true_and]
  refine exists_congr fun i => ?_
  constructor
  · intro h
    split at h
    · next bound =>
      obtain ⟨c, hc, hch⟩ := boundTo_iff.mp bound
      exact ⟨c, hc, hch, by simpa [hc] using h⟩
    · cases h
  · rintro ⟨c, hc, hch, rfl⟩
    rw [if_pos (boundTo_iff.mpr ⟨c, hc, hch⟩), hc]
    rfl

theorem threshold_nil {s : State} {ch : Fin 8} (h : s.boundDeadbands ch = []) : s.threshold ch = 64 := by
  simp [State.threshold, h, Config.freeDeadband]

theorem min?_boundDeadbands {s : State} {ch : Fin 8} (h : s.boundDeadbands ch ≠ []) :
    (s.boundDeadbands ch).min? = some (s.threshold ch) := by
  unfold State.threshold
  split
  · contradiction
  · next list => rw [list, List.min?_cons']

theorem threshold_mem {s : State} {ch : Fin 8} (h : s.boundDeadbands ch ≠ []) : s.threshold ch ∈ s.boundDeadbands ch :=
  List.min?_mem (min?_boundDeadbands h)

theorem threshold_le {s : State} {ch : Fin 8} {d : Nat} (h : d ∈ s.boundDeadbands ch) : s.threshold ch ≤ d :=
  (List.min?_eq_some_iff.mp (min?_boundDeadbands (List.ne_nil_of_mem h))).2 d h

/-- Settles O20: the arrival as the state before the codes, then the codes, which leave the Stick Port alone; and the
threshold as the least of the bound deadbands. -/
theorem panelFrameArrives : Obligations.PanelFrameArrives := by
  refine ⟨fun seq check samples codes s on hseq hs hc => ⟨fun invalid => ?_, fun valid => ?_⟩,
    fun s ch => ⟨fun unbound => ?_, fun i c hcfg hch => ?_, ?_⟩⟩
  · rw [execPanelFrame_eq on hseq hs hc, panelComplete_invalid invalid]
    rfl
  · have stick : ∀ l : List Nat, (l.foldl buttonCode (afterArrival seq samples (panelHunt s))).stick =
        (afterArrival seq samples (panelHunt s)).stick := fun l => (buttonCodes_motion l _).stick
    have same := afterArrival_sameButStick seq samples (panelHunt s)
    refine ⟨_, (execPanelFrame_eq on hseq hs hc check).trans (congrArg happened (panelComplete_valid valid _)), ?_⟩
    rw [stick]
    have port := afterArrival_stick seq samples (panelHunt s)
    refine ⟨congrArg StickPort.port port, congrArg StickPort.elapsed port, congrArg StickPort.seq port,
      (congrArg StickPort.timeout port :), fun ch x h => afterArrival_held h, afterArrival_channel seq samples _,
      fun quiet => ?_, fun new => ?_⟩
    · have noCodes : (if (panelHunt s).stick.seq = some seq then [] else codes) = [] := by
        rcases quiet with empty | repeated
        · rw [empty, ite_self]
        · exact if_pos repeated
      rw [noCodes]
      exact ⟨same.axes, same.playerA, same.playerB, same.recorder, same.cue, same.port, same.lib, same.timer, same.log,
        afterArrival_noticeSlot_stick seq samples _⟩
    · refine ⟨afterArrival seq samples (panelHunt s), ?_, afterArrival_eq seq samples _, afterArrival_multi seq samples _,
        afterArrival_noticeSlot_stick seq samples _, fun c other => afterArrival_noticeSlot_other other seq samples _⟩
      rw [if_neg (show ¬ (panelHunt s).stick.seq = some seq from new)]
  · refine threshold_nil (List.eq_nil_iff_forall_not_mem.mpr fun d mem => ?_)
    obtain ⟨i, c, hcfg, hch, -⟩ := mem_boundDeadbands.mp mem
    exact absurd (boundTo_iff.mpr ⟨c, hcfg, hch⟩) (by simp [unbound i])
  · exact threshold_le (mem_boundDeadbands.mpr ⟨i, c, hcfg, hch, rfl⟩)
  · rintro ⟨i, bound⟩
    obtain ⟨c, hcfg, hch⟩ := boundTo_iff.mp bound
    have bounded := List.ne_nil_of_mem (mem_boundDeadbands.mpr ⟨i, c, hcfg, hch, rfl⟩)
    obtain ⟨j, c', hcfg', hch', least⟩ := mem_boundDeadbands.mp (threshold_mem bounded)
    exact ⟨j, c', hcfg', hch', least.symm⟩

end Sys2Proof.Machine
end

section
/-! The bytes of a panel frame (R1, Table 1-1): what a receiver makes of one byte, and of a whole frame's. -/

namespace Sys2Proof.Machine

/-! ### Fields of a frame's bytes -/

theorem leNat_leBytes (n : Nat) : ∀ x : Nat, leNat (leBytes n x) = x % 256 ^ n := by
  induction n with
  | zero => simp [leBytes, leNat, Nat.mod_one]
  | succ n ih =>
    intro x
    rw [leBytes, leNat, ih, BitVec.toNat_ofNat, pow_succ' 256 n, Nat.mod_mul]

@[simp] theorem length_u8 (x : Nat) : (u8 x).length = 1 := rfl

@[simp] theorem length_s16 (x : Int) : (s16 x).length = 2 := rfl

theorem flatMap_u8 (l : List Nat) : l.flatMap u8 = l.map (BitVec.ofNat 8) := by
  induction l with
  | nil => rfl
  | cons x t ih => rw [List.flatMap_cons, ih]; rfl

theorem leNat_u8 {x : Nat} (h : x < 256) : leNat (u8 x) = x := by
  rw [u8, leNat_leBytes]
  exact Nat.mod_eq_of_lt h

/-- A sample comes back from its two bytes. -/
theorem signedOf_s16 {x : Int} (h : -32768 ≤ x ∧ x ≤ 32767) : signedOf 16 (leNat (s16 x)) = x := by
  have fits : (BitVec.ofInt 16 x).toNat % 256 ^ 2 = (BitVec.ofInt 16 x).toNat := Nat.mod_eq_of_lt (BitVec.ofInt 16 x).isLt
  rw [s16, leNat_leBytes, fits, signedOf, BitVec.ofNat_toNat, BitVec.setWidth_eq, BitVec.toInt_ofInt]
  exact Int.bmod_eq_of_le (by omega) (by omega)

/-- Sample `i` stands at twice its place among the samples' bytes. -/
theorem take_drop_samples (post : List Byte) : ∀ (l : List Int) (i : Nat) (h : i < l.length),
    ((l.flatMap s16 ++ post).drop (2 * i)).take 2 = s16 l[i]
  | _ :: _, 0, _ => rfl
  | _ :: t, i + 1, h => take_drop_samples post t i (Nat.lt_of_succ_lt_succ h)

/-! ### One byte -/

/-- The receiver holds these bytes. -/
def receiving (buf : List Byte) (s : State) : State := { s with stick := { s.stick with receiver := some buf } }

theorem panelReceive_hunting {s : State} (h : s.stick.receiver = none) (b : Byte) (e : Bool) :
    panelReceive b e s = if e = false ∧ b = 0xA5#8 then receiving [0xA5#8] s else s := by
  unfold panelReceive
  rw [h]
  simp only
  split
  · next start => rw [start.2]; rfl
  · rfl

theorem panelReceive_assembling {s : State} {buf : List Byte} (h : s.stick.receiver = some buf) (b : Byte) (e : Bool) :
    panelReceive b e s =
      if e then panelHunt s
      else if (buf ++ [b]).length = 3 ∧ 4 < fieldN (buf ++ [b]) 2 1 then panelHunt s
      else if 3 ≤ (buf ++ [b]).length ∧ (buf ++ [b]).length = 20 + fieldN (buf ++ [b]) 2 1 then panelBytes (buf ++ [b]) s
      else receiving (buf ++ [b]) s := by
  unfold panelReceive
  rw [h]
  rfl

/-- The count byte, read before or after the byte that completes the frame. -/
theorem countField_getElem? {l : List Byte} {n : Byte} (h : l[2]? = some n) : fieldN l 2 1 = n.toNat := by
  match l, h with
  | _ :: _ :: m :: t, h =>
    cases h
    rfl

/-- A byte that neither abandons nor completes the frame is taken. -/
theorem panelReceive_taken {s : State} {buf : List Byte} {b : Byte} (h : s.stick.receiver = some buf)
    (short : buf.length = 1 ∨ ∃ n : Byte, (buf ++ [b])[2]? = some n ∧ (buf.length = 2 → n.toNat ≤ 4) ∧
      buf.length + 1 < 20 + n.toNat) : panelReceive b false s = receiving (buf ++ [b]) s := by
  rw [panelReceive_assembling h, if_neg Bool.false_ne_true]
  rcases short with one | ⟨n, count, few, short⟩
  · rw [if_neg (by simp [one]), if_neg (by simp [one])]
  · rw [countField_getElem? count, if_neg, if_neg]
    · rintro ⟨-, full⟩
      rw [List.length_append, List.length_singleton] at full
      omega
    · rintro ⟨three, many⟩
      rw [List.length_append, List.length_singleton] at three
      have := few (by omega)
      omega

/-! ### A whole frame -/

/-- The bytes `rest` that are to come complete the frame with those held. -/
theorem panelReceive_foldl {n : Byte} (hn : n.toNat ≤ 4) : ∀ (rest buf : List Byte) (s : State), 1 ≤ buf.length → rest ≠ [] →
    (buf ++ rest)[2]? = some n → (buf ++ rest).length = 20 + n.toNat →
    rest.foldl (fun t b => panelReceive b false t) (receiving buf s) = panelBytes (buf ++ rest) s
  | [], _, _, _, empty, _, _ => absurd rfl empty
  | [b], buf, s, _, _, count, full => by
    have length : (buf ++ [b]).length = 20 + fieldN (buf ++ [b]) 2 1 := by rw [countField_getElem? count, full]
    show panelReceive b false (receiving buf s) = _
    rw [panelReceive_assembling (s := receiving buf s) rfl, if_neg Bool.false_ne_true, if_neg, if_pos]
    · rfl
    · exact ⟨by omega, length⟩
    · omega
  | b :: c :: t, buf, s, _, _, count, full => by
    have joined : buf ++ b :: c :: t = (buf ++ [b]) ++ c :: t := by simp
    rw [joined] at count full ⊢
    have taken : panelReceive b false (receiving buf s) = receiving (buf ++ [b]) s := by
      refine panelReceive_taken (s := receiving buf s) rfl ?_
      rcases Nat.lt_or_ge buf.length 2 with one | more
      · exact .inl (by omega)
      · refine .inr ⟨n, ?_, fun _ => hn, ?_⟩
        · rwa [List.getElem?_append_left (by simp; omega)] at count
        · simp at full
          omega
    rw [List.foldl_cons, taken]
    exact panelReceive_foldl hn (c :: t) (buf ++ [b]) s (by simp) (by simp) count full

/-- The bytes of a panel frame (Table 1-1). -/
def panelFrameBytes (seq check : Nat) (samples : List Int) (codes : List Nat) : List Byte :=
  [0xA5#8] ++ u8 seq ++ u8 codes.length ++ samples.flatMap s16 ++ codes.flatMap u8 ++ u8 check

theorem panelHunt_hunting {s : State} (h : s.stick.receiver = none) : panelHunt s = s := by
  unfold panelHunt
  rw [← h]

/-- The fields of a frame's bytes are those it was made of. -/
theorem panelBytes_panelFrameBytes {seq check : Nat} {samples : List Int} {codes : List Nat} (hseq : seq < 256)
    (hcheck : check < 256) (hlen : samples.length = 8) (hs : ∀ x ∈ samples, -32768 ≤ x ∧ x ≤ 32767)
    (hn : codes.length ≤ 4) (hc : ∀ c ∈ codes, c < 256) (s : State) :
    panelBytes (panelFrameBytes seq check samples codes) s = panelComplete seq samples codes check (panelHunt s) := by
  have head : ([0xA5#8] ++ u8 seq ++ u8 codes.length ++ samples.flatMap s16).length = 19 := by
    simp [hlen]
  have number : fieldN (panelFrameBytes seq check samples codes) 1 1 = seq := leNat_u8 hseq
  have count : fieldN (panelFrameBytes seq check samples codes) 2 1 = codes.length := leNat_u8 (by omega)
  have codeField : ((panelFrameBytes seq check samples codes).drop 19).take codes.length = codes.map (BitVec.ofNat 8) := by
    rw [panelFrameBytes, List.append_assoc, List.drop_left' head, flatMap_u8, List.take_left' (by simp)]
  have checkField : fieldN (panelFrameBytes seq check samples codes) (19 + codes.length) 1 = check := by
    rw [fieldN, panelFrameBytes, List.drop_left' (by rw [List.length_append, head, flatMap_u8, List.length_map])]
    exact leNat_u8 hcheck
  have sampleFields : (List.range 8).map (fun i => fieldS16 (panelFrameBytes seq check samples codes) (3 + 2 * i)) = samples := by
    refine List.ext_getElem (by simp [hlen]) fun i h8 h => ?_
    have field : fieldN (panelFrameBytes seq check samples codes) (3 + 2 * i) 2 = leNat (s16 samples[i]) := by
      rw [fieldN, ← List.drop_drop, panelFrameBytes, List.append_assoc, List.append_assoc]
      exact congrArg leNat (take_drop_samples _ samples i h)
    rw [List.getElem_map, List.getElem_range, fieldS16, field, signedOf_s16 (hs _ (List.getElem_mem h))]
  have codesBack : (codes.map (BitVec.ofNat 8)).map BitVec.toNat = codes := by
    rw [List.map_map]
    exact (List.map_congr_left fun c mem => Nat.mod_eq_of_lt (hc c mem)).trans (List.map_id codes)
  unfold panelBytes
  simp only [count, number, codeField, checkField, sampleFields, codesBack]

/-- A HUNTING receiver that is sent the bytes of a frame completes that frame. -/
theorem panelReceive_panelFrameBytes {seq check : Nat} {samples : List Int} {codes : List Nat} {s : State} (hseq : seq < 256)
    (hcheck : check < 256) (hlen : samples.length = 8) (hs : ∀ x ∈ samples, -32768 ≤ x ∧ x ≤ 32767)
    (hn : codes.length ≤ 4) (hc : ∀ c ∈ codes, c < 256) (hunting : s.stick.receiver = none) :
    (panelFrameBytes seq check samples codes).foldl (fun t b => panelReceive b false t) s =
      panelComplete seq samples codes check s := by
  have small : (BitVec.ofNat 8 codes.length).toNat = codes.length := Nat.mod_eq_of_lt (by omega)
  have split : panelFrameBytes seq check samples codes = [0xA5#8] ++ (panelFrameBytes seq check samples codes).tail := rfl
  have length : (panelFrameBytes seq check samples codes).length = 20 + codes.length := by
    simp [panelFrameBytes, hlen]
    omega
  have start : panelReceive 0xA5#8 false s = receiving [0xA5#8] s := by
    rw [panelReceive_hunting hunting, if_pos ⟨rfl, rfl⟩]
  calc (panelFrameBytes seq check samples codes).foldl (fun t b => panelReceive b false t) s
      = (panelFrameBytes seq check samples codes).tail.foldl (fun t b => panelReceive b false t) (receiving [0xA5#8] s) := by
        rw [← start]; rfl
    _ = panelBytes (panelFrameBytes seq check samples codes) s :=
        panelReceive_foldl (n := BitVec.ofNat 8 codes.length) (by omega) _ [0xA5#8] s (by decide)
          (List.ne_nil_of_length_pos (by rw [List.length_tail]; omega)) rfl (by rw [← split, length, small])
    _ = panelComplete seq samples codes check s := by
        rw [panelBytes_panelFrameBytes hseq hcheck hlen hs hn hc, panelHunt_hunting hunting]

/-- Settles O21: the whole frame by the fold over its bytes, one byte by the cases of the receiver. -/
theorem panelBytesAssembleTheFrame : Obligations.PanelBytesAssembleTheFrame := by
  refine ⟨fun seq check samples codes s hseq hcheck hlen hs hn hc hunting =>
    panelReceive_panelFrameBytes hseq hcheck hlen hs hn hc hunting, fun b err s on => ⟨event_on on, fun hunting => ?_,
      fun buf h => ⟨?_, fun two many => ?_, fun short => ?_⟩⟩⟩
  · exact (event_on on).trans (congrArg happened (panelReceive_hunting hunting b err))
  · exact (event_on on).trans (congrArg happened ((panelReceive_assembling h b true).trans (if_pos rfl)))
  · have count : (buf ++ [b])[2]? = some b := by rw [← two]; simp
    refine (event_on on).trans (congrArg happened ?_)
    rw [panelReceive_assembling h, if_neg Bool.false_ne_true, if_pos ⟨by simp [two], by rwa [countField_getElem? count]⟩]
    rfl
  · refine (event_on on).trans (congrArg happened (panelReceive_taken h ?_))
    rcases short with one | ⟨two, few⟩ | ⟨n, three, count, short⟩
    · exact .inl one
    · exact .inr ⟨b, by rw [← two]; simp, fun _ => few, by omega⟩
    · exact .inr ⟨n, by rwa [List.getElem?_append_left (by omega)], fun two => by omega, short⟩

end Sys2Proof.Machine
end

section
/-! SET_AXIS, RELEASE_AXIS, CLEAR_FAULT and GET_AXIS (R173, R174, R184, R185, Table 9-1). -/

namespace Sys2Proof.Machine

/-! ### The fields of SET_AXIS -/

theorem inPosRange_iff {x : Int} : inPosRange x = true ↔ -8388608 ≤ x ∧ x ≤ 8388607 := by
  simp only [inPosRange, Bool.and_eq_true, decide_eq_true_eq]
  exact Iff.rfl

theorem stickChannelOf?_eq_some {x : Option Nat} {c : Option (Fin 8)} (h : stickChannelOf? x = some c) :
    c.map (·.val) = x := by
  cases x with
  | none =>
    cases h
    rfl
  | some n =>
    simp only [stickChannelOf?] at h
    split at h
    · next j index =>
      cases h
      exact congrArg some (indexOf?_some index)
    · cases h

theorem stickChannelOf?_isNone {x : Option Nat} :
    (stickChannelOf? x).isNone = false ↔ ∀ c : Nat, x = some c → c ≤ 7 := by
  cases x with
  | none => simp [stickChannelOf?]
  | some n =>
    rcases Nat.lt_or_ge n 8 with small | large
    · simp [stickChannelOf?, indexOf?, small]
      omega
    · simp [stickChannelOf?, indexOf?_none large]
      omega

theorem boolOf?_isNone {n : Nat} : (boolOf? n).isNone = false ↔ n = 0 ∨ n = 1 := by
  match n with
  | 0 => simp [boolOf?]
  | 1 => simp [boolOf?]
  | n + 2 => simp [boolOf?]

theorem curveOf?_isNone {n : Nat} : (curveOf? n).isNone = false ↔ n = 0 ∨ n = 1 ∨ n = 2 := by
  match n with
  | 0 => simp [curveOf?]
  | 1 => simp [curveOf?]
  | 2 => simp [curveOf?]
  | n + 3 => simp [curveOf?]

theorem modeOf?_isNone {n : Nat} : (modeOf? n).isNone = false ↔ n = 0 ∨ n = 1 := by
  match n with
  | 0 => simp [modeOf?]
  | 1 => simp [modeOf?]
  | n + 2 => simp [modeOf?]

/-- Field `n` of Table 9-1, counted from 0, fails its check; a soft_min that is not below a soft_max in range fails too
(log 15). -/
def fieldFails (w : WireAxis) : Nat → Bool
  | 0 => !(inPosRange w.softMin) || (inPosRange w.softMax && decide (w.softMax ≤ w.softMin))
  | 1 => !(inPosRange w.softMax)
  | 2 => !(within 0 1000000 w.band)
  | 3 => !(within 1 65535 w.vmax)
  | 4 => !(within 1 4095 w.amax)
  | 5 => !(within 0 65535 w.vstick)
  | 6 => (stickChannelOf? w.channel).isNone
  | 7 => (boolOf? w.invert).isNone
  | 8 => !(within 0 512 w.deadband)
  | 9 => (curveOf? w.curve).isNone
  | 10 => (modeOf? w.mode).isNone
  | 11 => !(within 0 1000000 w.trimMax)
  | 12 => !(within 1 1000000 w.feLimit)
  | 13 => (boolOf? w.tipScaled).isNone
  | _ => !(within 1 15 (w.missLimit.getD 3))

/-- The field SET_AXIS names is the first that fails. -/
theorem badField?_eq_find? (w : WireAxis) : badField? w = (List.range 15).find? (fieldFails w) := by
  have search : ∀ (p : Nat → Bool) (n : Nat) (l : List Nat), (n :: l).find? p = if p n then some n else l.find? p := by
    intro p n l
    rw [List.find?_cons]
    cases p n <;> rfl
  rw [show List.range 15 = [0, 1, 2, 3, 4, 5, 6, 7, 8, 9, 10, 11, 12, 13, 14] from rfl]
  simp only [search, List.find?_nil, fieldFails]
  unfold badField?
  cases inPosRange w.softMin <;> rfl

theorem badField?_eq_none_iff {w : WireAxis} : badField? w = none ↔ ∀ n : Nat, n < 15 → fieldFails w n = false := by
  rw [badField?_eq_find?, List.find?_eq_none]
  simp

theorem badField?_eq_some_iff {w : WireAxis} {n : Nat} :
    badField? w = some n ↔ n < 15 ∧ fieldFails w n = true ∧ ∀ j : Nat, j < n → fieldFails w j = false := by
  rw [badField?_eq_find?, List.find?_range_eq_some]
  simp [and_left_comm]

theorem softMin_passes {w : WireAxis} : fieldFails w 0 = false ↔
    (-8388608 ≤ w.softMin ∧ w.softMin ≤ 8388607) ∧
      (-8388608 ≤ w.softMax ∧ w.softMax ≤ 8388607 → w.softMin < w.softMax) := by
  simp only [fieldFails, Bool.or_eq_false_iff, Bool.not_eq_false', inPosRange_iff, Bool.and_eq_false_imp, decide_eq_false_iff_not,
    not_le]

theorem missLimit_passes {w : WireAxis} :
    fieldFails w 14 = false ↔ ∀ n : Nat, w.missLimit = some n → 1 ≤ n ∧ n ≤ 15 := by
  cases h : w.missLimit <;> simp [fieldFails, h, within]

/-! ### The record stored -/

theorem curve_configOf {w : WireAxis} (h : fieldFails w 9 = false) :
    ((configOf w).curve = .linear ↔ w.curve = 0) ∧ ((configOf w).curve = .square ↔ w.curve = 1)
      ∧ ((configOf w).curve = .mixed ↔ w.curve = 2) := by
  rcases curveOf?_isNone.mp h with e | e | e <;> simp [configOf, e, curveOf?]

theorem mode_configOf {w : WireAxis} (h : fieldFails w 10 = false) :
    ((configOf w).mode = .liveOnly ↔ w.mode = 0) ∧ ((configOf w).mode = .trim ↔ w.mode = 1) := by
  rcases modeOf?_isNone.mp h with e | e <;> simp [configOf, e, modeOf?]

theorem bool_getD {n : Nat} (h : (boolOf? n).isNone = false) : (boolOf? n).getD false = true ↔ n = 1 := by
  rcases boolOf?_isNone.mp h with e | e <;> simp [e, boolOf?]

theorem channel_configOf {w : WireAxis} (h : fieldFails w 6 = false) : (configOf w).channel.map (·.val) = w.channel := by
  obtain ⟨c, named⟩ := Option.isSome_iff_exists.mp (Option.isNone_eq_false_iff.mp h)
  have stored : (configOf w).channel = c := by simp [configOf, named]
  rw [stored, stickChannelOf?_eq_some named]

/-! ### Changes that send no reference-clear arrival -/

theorem clearIfGone_of_refCount {p : PlayerId} {n : Nat} {s : State} (h : s.refCount p = n) : clearIfGone p n s = s :=
  if_neg fun fallen => fallen.1 (h ▸ fallen.2)

/-- With the reference counts as they were, no arrival is sent (R28). -/
theorem withClears_of_refCount {s t : State} (h : ∀ p : PlayerId, t.refCount p = s.refCount p) : withClears s t = t := by
  rw [withClears, clearIfGone_of_refCount (h .a), clearIfGone_of_refCount (h .b)]

theorem refCount_setAxis {s : State} {i : Fin 8} {a : Axis} {p : PlayerId}
    (h : a.blend.names p.source = (s.axis i).blend.names p.source) : (s.setAxis i a).refCount p = s.refCount p := by
  have named : ∀ j : Fin 8, ((s.setAxis i a).axis j).blend.names p.source = (s.axis j).blend.names p.source := fun j => by
    by_cases same : j = i
    · rw [same, setAxis_axis_same, h]
    · rw [setAxis_axis_other s i j a same]
  simp only [State.refCount, named]

theorem names_steadyLive {b : Blend} (h : b.steadyLive = true) (p : PlayerId) : b.names p.source = false := by
  obtain ⟨hfrom, hto⟩ : b.fromSrc = .live ∧ b.toSrc = .live := by simpa [Blend.steadyLive] using h
  cases p <;> simp [Blend.names, hfrom, hto, PlayerId.source]

/-! ### SET_AXIS -/

/-- The state an accepted SET_AXIS leaves (R173, R11). -/
def axisSet (i : Fin 8) (c : AxisConfig) (s : State) : State :=
  withClears s (centreChannel ((s.axis i).newChannel? c) (s.setAxis i ((s.axis i).configure c)))

theorem centreChannel_axes (o : Option (Fin 8)) (s : State) : (centreChannel o s).axes = s.axes := by cases o <;> rfl

theorem centreChannel_channel (o : Option (Fin 8)) (s : State) (ch : Fin 8) :
    (centreChannel o s).stick.channels[ch] = if o = some ch then .centredWait else s.stick.channels[ch] := by
  cases o with
  | none => simp [centreChannel]
  | some j => simp [centreChannel, Vector.getElem_set, Fin.ext_iff]

theorem newChannel?_eq_some_iff {a : Axis} {c : AxisConfig} {ch : Fin 8} :
    a.newChannel? c = some ch ↔ c.channel = some ch ∧ a.boundTo ch = false := by
  unfold Axis.newChannel?
  split
  · next j named =>
    rw [named, Option.some_inj]
    by_cases bound : a.boundTo j = true
    · rw [if_pos bound]
      constructor
      · intro h
        cases h
      · rintro ⟨rfl, free⟩
        exact absurd bound (by simp [free])
    · rw [if_neg bound, Option.some_inj]
      constructor
      · rintro rfl
        exact ⟨rfl, Bool.eq_false_iff.mpr bound⟩
      · exact fun h => h.1
  · next absent => simp [absent]

theorem axisSet_axis_same (i : Fin 8) (c : AxisConfig) (s : State) : (axisSet i c s).axis i = (s.axis i).configure c := by
  have axes : (axisSet i c s).axes = (s.setAxis i ((s.axis i).configure c)).axes := by
    rw [axisSet, withClears_axes, centreChannel_axes]
  rw [State.axis, axes]
  exact setAxis_axis_same s i _

theorem axisSet_axis_other {i j : Fin 8} (h : j ≠ i) (c : AxisConfig) (s : State) : (axisSet i c s).axis j = s.axis j := by
  have axes : (axisSet i c s).axes = (s.setAxis i ((s.axis i).configure c)).axes := by
    rw [axisSet, withClears_axes, centreChannel_axes]
  rw [State.axis, axes]
  exact setAxis_axis_other s i j _ h

theorem axisSet_channel (i : Fin 8) (c : AxisConfig) (s : State) (ch : Fin 8) : (axisSet i c s).stick.channels[ch] =
    if c.channel = some ch ∧ (s.axis i).boundTo ch = false then .centredWait else s.stick.channels[ch] := by
  rw [axisSet, (withClears_players s _).stick, centreChannel_channel]
  simp only [newChannel?_eq_some_iff, setAxis_stick]

theorem configure_unconfigured {a : Axis} (h : a.state = .unconfigured) (c : AxisConfig) : a.configure c =
    { a with
      cfg := some c, blend := { a.blend.steadyOn .live with live := a.out, trim := 0, mode := c.mode },
      state := .disabled, miss := 0, actual := none, drive := none, nextSeq := 0, window := none, prev := none } := if_pos h

theorem configure_disabled {a : Axis} (h : a.state = .disabled) (c : AxisConfig) : a.configure c =
    { a with cfg := some c, blend := { a.blend.steadyOn .live with live := a.out, trim := 0, mode := c.mode } } :=
  if_neg (by simp [h])

theorem execSetAxis_accepted {s : State} {i : Fin 8} {w : WireAxis} (h : s.delivers = true)
    (free : (s.axis i).state = .unconfigured ∨ (s.axis i).state = .disabled) (good : badField? w = none) :
    exec (.setAxis i.val w) s =
      delivered (.setAxis i.val w) s (axisSet i (configOf w) s) { code := .ok, fields := [0#8, 0#8] } := by
  rw [exec, execSetAxis]
  refine answered_eq h ?_
  simp only [indexOf?_val, free, not_true_eq_false, if_false, good]
  rfl

theorem execSetAxis_wrongState {s : State} {i : Fin 8} (w : WireAxis) (h : s.delivers = true)
    (taken : ¬ ((s.axis i).state = .unconfigured ∨ (s.axis i).state = .disabled)) :
    exec (.setAxis i.val w) s = delivered (.setAxis i.val w) s s { code := .wrongState, fields := [0#8, 0#8] } := by
  rw [exec, execSetAxis]
  refine answered_eq h ?_
  simp only [indexOf?_val, taken, not_false_eq_true, if_true]
  rfl

theorem execSetAxis_badField {s : State} {i : Fin 8} {w : WireAxis} {n : Nat} (h : s.delivers = true)
    (free : (s.axis i).state = .unconfigured ∨ (s.axis i).state = .disabled) (bad : badField? w = some n) :
    exec (.setAxis i.val w) s = delivered (.setAxis i.val w) s s { code := .badValue, fields := u8 1 ++ u8 n } := by
  rw [exec, execSetAxis]
  refine answered_eq h ?_
  simp only [indexOf?_val, free, not_true_eq_false, if_false, bad]
  rfl

/-! ### RELEASE_AXIS and CLEAR_FAULT -/

/-- RELEASE_AXIS of an axis by its checks, in order (R174). -/
theorem execReleaseAxis_eq {s : State} {i : Fin 8} (h : s.delivers = true) :
    exec (.releaseAxis i.val) s =
      if (s.axis i).state ≠ .disabled then turnedAway (.releaseAxis i.val) s .wrongState
      else if geometric i && s.inEnabledZone (pointOf fun j => if j = i then 0 else s.geoOut j) then
        turnedAway (.releaseAxis i.val) s .zoneConflict
      else accepted (.releaseAxis i.val) s (withClears s (s.setAxis i (s.axis i).unconfigure)) := by
  rw [exec, execReleaseAxis, answered_delivers h]
  simp only [indexOf?_val]
  (repeat' split) <;> rfl

/-- The release of an axis steady on LIVE clears no reference. -/
theorem withClears_unconfigure {s : State} {i : Fin 8} (h : (s.axis i).blend.steadyLive = true) :
    withClears s (s.setAxis i (s.axis i).unconfigure) = s.setAxis i (s.axis i).unconfigure :=
  withClears_of_refCount fun p => refCount_setAxis (by
    rw [names_steadyLive h]
    exact names_steadyLive rfl p)

theorem holds_iff {l : FaultLog} {i : Fin 8} :
    l.holds i = true ↔ l.locked = true ∧ ∃ r : FaultRecord, l.record = some r ∧ r.axis = some i := by
  unfold FaultLog.holds
  split
  · next r record => simp [record]
  · next empty => simp [empty]

/-- CLEAR_FAULT of an axis by its checks, in order (R184). -/
theorem execClearFault_eq {s : State} {i : Fin 8} (h : s.delivers = true) :
    exec (.clearFault i.val) s =
      if (s.axis i).state ≠ .fault then turnedAway (.clearFault i.val) s .wrongState
      else if s.log.holds i then turnedAway (.clearFault i.val) s .locked
      else accepted (.clearFault i.val) s (s.setAxis i { s.axis i with state := .disabled, cause := none, miss := 0 }) := by
  rw [exec, execClearFault, answered_delivers h]
  simp only [indexOf?_val]
  (repeat' split) <;> rfl

/-! ### The statement -/

/-- Settles O36: the check of the fields as a search, and each request by its checks in order. -/
theorem axisRequestsComplete : Obligations.AxisRequestsComplete := by
  refine ⟨fun w => ?fields, fun s i h => ⟨fun w free good => ?set, fun w configured enabled => ?taken, fun w n free bad => ?bad,
    fun disabled steady clear => ?release, fun other => ?releaseState, fun disabled geo inside => ?zone, fun other => ?noFault,
    fun r fault locked record axis => ?locked, fun fault unlocked => ?clear, ?get, fun n hn => ⟨fun w => ?setIndex, ?releaseIndex,
      ?clearIndex, ?getIndex⟩⟩⟩
  case fields =>
    intro pos good
    have passes : ∀ n : Nat, fieldFails w n = false ↔ good n := fun n =>
      match n with
      | 0 => softMin_passes
      | 1 => by simp [good, pos, fieldFails, inPosRange_iff]
      | 2 => by simp [good, fieldFails, within]
      | 3 => by simp [good, fieldFails, within]
      | 4 => by simp [good, fieldFails, within]
      | 5 => by simp [good, fieldFails, within]
      | 6 => stickChannelOf?_isNone
      | 7 => boolOf?_isNone
      | 8 => by simp [good, fieldFails, within]
      | 9 => curveOf?_isNone
      | 10 => modeOf?_isNone
      | 11 => by simp [good, fieldFails, within]
      | 12 => by simp [good, fieldFails, within]
      | 13 => boolOf?_isNone
      | _ + 14 => missLimit_passes
    have fails : ∀ n : Nat, fieldFails w n = true ↔ ¬ good n := fun n => by
      rw [← passes n, Bool.not_eq_false]
    refine ⟨?_, fun n => ?_, fun noneBad => ?_⟩
    · rw [badField?_eq_none_iff]
      exact forall_congr' fun n => forall_congr' fun _ => passes n
    · rw [badField?_eq_some_iff, fails]
      exact and_congr_right' (and_congr_right' (forall_congr' fun j => forall_congr' fun _ => passes j))
    · have pass := badField?_eq_none_iff.mp noneBad
      obtain ⟨linear, square, mixed⟩ := curve_configOf (pass 9 (by decide))
      obtain ⟨liveOnly, trim⟩ := mode_configOf (pass 10 (by decide))
      refine ⟨rfl, rfl, rfl, rfl, rfl, rfl, channel_configOf (pass 6 (by decide)), bool_getD (pass 7 (by decide)), rfl, linear,
        square, mixed, liveOnly, trim, rfl, rfl, bool_getD (pass 13 (by decide)), fun absent => ?_, fun n present => ?_⟩
      · simp [configOf, absent]
      · simp [configOf, present]
  case set =>
    refine ⟨_, execSetAxis_accepted h free good, ?_⟩
    rw [axisSet_axis_same]
    have others : ∀ j : Fin 8, j ≠ i → (axisSet i (configOf w) s).axis j = s.axis j := fun j hj => axisSet_axis_other hj _ s
    rcases free with unconfigured | disabled
    · rw [configure_unconfigured unconfigured]
      exact ⟨rfl, rfl, rfl, rfl, rfl, rfl, others, fun _ => ⟨rfl, rfl, rfl, rfl, rfl, rfl⟩,
        fun disabled => absurd (unconfigured.symm.trans disabled) (by decide), axisSet_channel i _ s⟩
    · rw [configure_disabled disabled]
      exact ⟨disabled, rfl, rfl, rfl, rfl, rfl, others,
        fun unconfigured => absurd (disabled.symm.trans unconfigured) (by decide), fun _ => ⟨rfl, rfl, rfl, rfl, rfl, rfl⟩,
        axisSet_channel i _ s⟩
  case taken => exact execSetAxis_wrongState w h (not_or.mpr ⟨configured, enabled⟩)
  case bad => exact execSetAxis_badField h free bad
  case release =>
    rw [execReleaseAxis_eq h, if_neg (not_not.mpr disabled), if_neg, withClears_unconfigure steady]
    · rfl
    · rcases clear with away | outside
      · simp [away]
      · simp [outside]
  case releaseState => rw [execReleaseAxis_eq h, if_pos other]
  case zone => rw [execReleaseAxis_eq h, if_neg (not_not.mpr disabled), if_pos (by simp [geo, inside])]
  case noFault => rw [execClearFault_eq h, if_pos other]
  case locked =>
    rw [execClearFault_eq h, if_neg (not_not.mpr fault), if_pos (holds_iff.mpr ⟨locked, r, record, axis⟩)]
  case clear =>
    rw [execClearFault_eq h, if_neg (not_not.mpr fault), if_neg]
    rw [holds_iff]
    rintro ⟨locked, r, record, axis⟩
    rcases unlocked with free | other
    · exact absurd locked (by simp [free])
    · exact other r record axis
  case get =>
    rw [exec, execGetAxis]
    exact answered_eq h (by rw [indexOf?_val])
  case setIndex =>
    rw [exec, execSetAxis]
    exact answered_eq h (by rw [indexOf?_none hn]; rfl)
  case releaseIndex =>
    rw [exec, execReleaseAxis]
    exact answered_refuse h (by rw [indexOf?_none hn])
  case clearIndex =>
    rw [exec, execClearFault]
    exact answered_refuse h (by rw [indexOf?_none hn])
  case getIndex =>
    rw [exec, execGetAxis]
    exact answered_refuse h (by rw [indexOf?_none hn])

end Sys2Proof.Machine
end

section
/-! What a step can do to the axes, the players and the fetches at the key store port: the single changes, and one lemma per
operation that says it is made of them. -/

namespace Sys2Proof.Machine

/-! ### The single changes -/

/-- What one change can make of axis `i`. -/
inductive AxisChange (s : State) (i : Fin 8) : Axis → Prop
  | same : AxisChange s i (s.axis i)
  | faded (x : Source) (f : Nat) : fadeCheck s x i = .ok → f ≤ 65535 →
      AxisChange s i { s.axis i with blend := (s.axis i).blend.fadeTo x f (s.axis i).out }
  | handedBack : (s.axis i).state = .active →
      AxisChange s i { s.axis i with blend := (s.axis i).blend.handBack s.geometry.releaseFrames (s.axis i).out }
  | dropped : AxisChange s i { s.axis i with blend := (s.axis i).blend.cut .live (s.axis i).out }
  | completed : AxisChange s i { s.axis i with blend := (s.axis i).blend.completeIfDue }
  | blended (b : Blend) : (s.axis i).state = .active →
      (b = (s.axis i).blend ∨ ∃ (c : AxisConfig) (v : Int), (s.axis i).cfg = some c ∧ b = (s.axis i).blend.route c v) →
      AxisChange s i { s.axis i with blend := b.progress }
  | limited (hold : Bool) (cand : Int) (f : ClampFlags) :
      AxisChange s i ((s.axis i).limited hold ((s.axis i).propose cand f))
  | tracked : AxisChange s i { s.axis i with blend := (s.axis i).blend.track (s.axis i).out }
  | cascaded : AxisChange s i (s.axis i).cascaded
  | disabled : (s.axis i).enabled = true → AxisChange s i ((s.axis i).left .disabled)
  | faulted (n : Nat) (c : FaultCause) : (s.axis i).enabled = true →
      AxisChange s i { ({ s.axis i with miss := n } : Axis).left .fault with cause := some c }
  | seated : enableCheck s i = .ok → AxisChange s i (s.axis i).seated
  | configured (c : AxisConfig) : ((s.axis i).state = .unconfigured ∨ (s.axis i).state = .disabled) → c.ok = true →
      AxisChange s i ((s.axis i).configure c)
  | unconfigured : (s.axis i).state = .disabled → AxisChange s i (s.axis i).unconfigure
  | answered (x : Int) (st : DriveStatus) : AxisChange s i ((s.axis i).answeredBy x st)
  | missed : (s.axis i).missed.silent = false → AxisChange s i (s.axis i).missed
  | sent (out : Int) : AxisChange s i ((s.axis i).sent out)
  | cleared : (s.axis i).state = .fault → AxisChange s i { s.axis i with state := .disabled, cause := none, miss := 0 }
  | resumed : AxisChange s i (s.axis i).resumed

/-- What one change can make of a player's record, the port left as it is. -/
inductive PlayerChange (r : Player) : Player → Prop
  | rated (n : Nat) (b : Option Binding) : PlayerChange r { r with rate := n, binding := b }
  | ran : (r.state = .loaded ∨ r.state = .paused) → PlayerChange r { r with state := r.runState }
  | paused : (r.state = .running ∨ r.state = .starved) → PlayerChange r { r with state := .paused }
  | loaded (m : MoveIx) (e : Entry) (n : Nat) : r.state = .idle → PlayerChange r (r.loaded m e n)
  | gone (k : Fin 64) (x : MarkData) (n : Nat) (outs : List Int) : r.state = .idle → PlayerChange r (r.gone k x n outs)
  | advanced (time : Nat) (k0 k1 : PlayerKey) : r.state = .running → r.filled = true → r.startKey = some k0 →
      r.endKey = some k1 → PlayerChange r (r.advance time k0 k1)
  | faulted (n : Nat) : r.arrived = some n →
      PlayerChange r { r with state := .faulted, outstanding := false, fifo := [], faultKey := some n, arrived := none }
  | discarded (n : Nat) : r.arrived = some n → PlayerChange r { r with outstanding := false, arrived := none }

/-- What the outcome of its fetch can make of a player's record, outside an output frame and within one. -/
inductive FetchOutcome (inFrame : Bool) (r : Player) (index : Nat) : Player → Prop
  | discarded : FetchOutcome inFrame r index { r with outstanding := false }
  | deferred : inFrame = true → FetchOutcome inFrame r index { r with arrived := some index }
  | faulted : FetchOutcome inFrame r index
      { r with state := .faulted, outstanding := false, fifo := [], faultKey := some index }
  | placed (k : Key) (next : Option (Nat × Nat)) : r.fetches = true → FetchOutcome inFrame r index (r.place index k next)

/-- What waits at the port stands in its requester's place. -/
structure KeyPort.Typed (q : KeyPort) : Prop where
  waitA : ∀ a : Access, q.waitA = some a → a.isFetchOf .a = true
  waitB : ∀ a : Access, q.waitB = some a → a.isFetchOf .b = true
  waitRecorder : ∀ (a : Access) (p : PlayerId), q.waitRecorder = some a → a.isFetchOf p = false
  waitConsole : ∀ (a : Access) (p : PlayerId), q.waitConsole = some a → a.isFetchOf p = false

/-- The ports hold the same fetches that their players want. -/
def SameFetches (q q' : KeyPort) : Prop := q.Typed → q'.Typed ∧ ∀ p : PlayerId, q'.fetchesOf p = q.fetchesOf p

/-- Everything but the axes, the geometry record, the players, the port and the waiting commands may differ. -/
structure Aside (s t : State) : Prop where
  axes : t.axes = s.axes := by rfl
  geometry : t.geometry = s.geometry := by rfl
  playerA : t.playerA = s.playerA := by rfl
  playerB : t.playerB = s.playerB := by rfl
  port : t.port = s.port := by rfl
  pending : t.pending = s.pending := by rfl

/-- The port with nothing served. -/
def State.unserved (s : State) : State := { s with port := { s.port with serving := none } }

/-- One change of the axes, the players and the fetches at the port, outside an output frame and within one. -/
inductive Change (inFrame : Bool) (s : State) : State → Prop
  | aside {t : State} : Aside s t → Change inFrame s t
  | geometry {g : Geometry} : g.ok = true → Change inFrame s { s with geometry := g }
  | axes {v : Vector Axis 8} : (∀ i : Fin 8, AxisChange s i v[i]) → Change inFrame s { s with axes := v }
  | port {q : KeyPort} : SameFetches s.port q → Change inFrame s { s with port := q }
  | player (p : PlayerId) {r : Player} : PlayerChange (s.player p) r → Change inFrame s (s.setPlayer p r)
  /-- A fetch is requested (R107). -/
  | fetch (p : PlayerId) {m : MoveIx} {c : Cursor} : (s.player p).fetches = true → (s.player p).move = some m →
      (s.player p).cursor = some c → (s.player p).outstanding = false → (s.player p).keysRemain = true → (s.player p).hasRoom = true →
      Change inFrame s ({ s with port := s.port.await (.fetch p m c.index c.block c.slot) }.setPlayer p
        { s.player p with outstanding := true })
  /-- The outcome of the fetch being served reaches its player (R82). -/
  | outcome {p : PlayerId} {m : MoveIx} {index b slot : Nat} {released : Bool} {r : Player} :
      s.port.serving = some { access := .fetch p m index b slot, wanted := true, released := released } →
      FetchOutcome inFrame (s.player p) index r → Change inFrame s (s.unserved.setPlayer p r)
  | releasing (p : PlayerId) : Change inFrame s (enterReleasing p s)
  | idle (p : PlayerId) : s.refCount p = 0 →
      Change inFrame s ({ s with port := (s.port.withdraw p).disown p }.setPlayer p (s.player p).toIdle)
  | reset {t : State} (axes : t.axes = State.reset.axes) (geometry : t.geometry = Geometry.reset)
      (playerA : t.playerA = Player.reset) (playerB : t.playerB = Player.reset) (port : t.port = KeyPort.idle)
      (pending : t.pending = s.pending) : Change inFrame s t

/-- Changes one after the other. -/
def Changes (inFrame : Bool) : State → State → Prop := Relation.ReflTransGen (Change inFrame)

variable {f : Bool}

theorem Changes.refl (s : State) : Changes f s s := Relation.ReflTransGen.refl

theorem Changes.trans {s t u : State} (h : Changes f s t) (k : Changes f t u) : Changes f s u := Relation.ReflTransGen.trans h k

theorem Change.changes {s t : State} (h : Change f s t) : Changes f s t := Relation.ReflTransGen.single h

theorem Aside.changes {s t : State} (h : Aside s t) : Changes f s t := (Change.aside h).changes

theorem Changes.ite {s t u : State} {c : Prop} [Decidable c] (h : Changes f s t) (k : Changes f s u) :
    Changes f s (if c then t else u) := by
  split
  · exact h
  · exact k

theorem Changes.foldl {α : Type} {g : State → α → State} (h : ∀ (s : State) (x : α), Changes f s (g s x)) (l : List α) :
    ∀ s : State, Changes f s (l.foldl g s) := by
  induction l with
  | nil => exact Changes.refl
  | cons x t ih => exact fun s => (h s x).trans (ih _)

/-- A law of states that every single change keeps, every sequence of changes keeps. -/
theorem Changes.keep {P : State → Prop} (h : ∀ {s t : State}, Change f s t → P s → P t) {s t : State} (k : Changes f s t)
    (hs : P s) : P t := by
  induction k with
  | refl => exact hs
  | tail _ step ih => exact h step ih

/-! ### Changes aside -/

theorem Aside.refl (s : State) : Aside s s := {}

theorem Aside.trans {s t u : State} (h : Aside s t) (k : Aside t u) : Aside s u :=
  ⟨k.axes.trans h.axes, k.geometry.trans h.geometry, k.playerA.trans h.playerA, k.playerB.trans h.playerB,
    k.port.trans h.port, k.pending.trans h.pending⟩

theorem SameButTraffic.aside {s t : State} (h : SameButTraffic s t) : Aside s t :=
  ⟨h.axes, h.geometry, h.playerA, h.playerB, h.port, h.pending⟩

theorem SameButStick.aside {s t : State} (h : SameButStick s t) : Aside s t :=
  ⟨h.axes, h.geometry, h.playerA, h.playerB, h.port, h.pending⟩

theorem SameButLibrary.aside {s t : State} (h : SameButLibrary s t) (port : t.port = s.port) : Aside s t :=
  ⟨h.axes, h.geometry, h.playerA, h.playerB, port, h.pending⟩

theorem raise_changes (d : Detail) (s : State) : Changes f s (raise d s) := (raise_traffic d s).aside.changes

theorem releaseBlocks_aside (m : MoveIx) (bs : List Nat) (s : State) : Aside s (releaseBlocks m bs s) := by
  refine (releaseBlocks_library m bs s).aside ?_
  have one : ∀ (u : State) (b : Nat), (releaseBlock u b).port = u.port := fun u b => by
    unfold releaseBlock
    split <;> rfl
  have all : ∀ (l : List Nat) (u : State), (l.foldl releaseBlock u).port = u.port := fun l => by
    induction l with
    | nil => exact fun _ => rfl
    | cons b t ih => exact fun u => (ih _).trans (one u b)
  unfold releaseBlocks
  split
  · exact all bs s
  · exact all bs s

theorem endTxn_aside (c : Result) (s : State) : Aside s (endTxn c s) := by
  unfold endTxn
  split
  · exact .refl s
  · next t _ => exact Aside.trans (t := { s with txn := none }) {} (readyReply_traffic _ _ _).aside

theorem allocate_aside {m : MoveIx} {s t : State} (h : allocate? m s = some t) : Aside s t := by
  refine (allocate_library m s t h).aside ?_
  unfold allocate? appendBlock at h
  split at h
  · split at h
    · cases h
    · cases h
      simp only
      split <;> rfl
  · cases h
    rfl

theorem storeKey_aside (m : MoveIx) (k : Key) (s : State) : Aside s (storeKey m k s) := by
  refine (storeKey_library m k s).aside ?_
  unfold storeKey
  simp only
  split <;> rfl

theorem finishRead_aside (m : MoveIx) (i b n : Nat) (p : Option PlayerId) (c : KeyCheck) (s : State) :
    Aside s (finishRead m i b n p c s) := by
  refine Aside.trans (t := s.setSlot b n { s.slot b n with health := s.readOutcome b n c }) {} ?_
  unfold finishRead reportRead
  split
  · exact .refl _
  · exact ((faultReport_traffic _ _).trans (raise_traffic _ _)).aside
  · refine Aside.trans ?_ ((faultReport_traffic _ _).trans (raise_traffic _ _)).aside
    exact {}

theorem finishAccess_aside (v : Serving) (c : KeyCheck) (s : State) : Aside s (finishAccess v c s) := by
  unfold finishAccess
  split
  · exact storeKey_aside _ _ s
  · exact storeKey_aside _ _ s
  · split
    · exact .refl s
    · exact finishRead_aside _ _ _ _ _ _ s
  · split
    · exact .refl s
    · exact finishRead_aside _ _ _ _ _ _ s

theorem deliverConsoleWrite_aside (s : State) : Aside s (deliverConsoleWrite s) := by
  unfold deliverConsoleWrite
  split
  · split
    · exact {}
    · exact .refl s
  · exact .refl s

theorem deliverConsoleRead_aside (r : Bool) (c : KeyCheck) (k : Key) (s : State) : Aside s (deliverConsoleRead r c k s) := by
  unfold deliverConsoleRead
  split
  · split
    · split
      · exact endTxn_aside _ s
      · split
        · exact endTxn_aside _ s
        · exact {}
    · exact .refl s
  · exact .refl s

theorem dueKey_aside (n : Nat) (s : State) : Aside s (dueKey n s) := by
  unfold dueKey
  simp only
  split
  · split <;> exact {}
  · exact .refl s

theorem recorderGo_aside (s : State) : Aside s (recorderGo s) := by
  unfold recorderGo
  simp only
  split
  · split <;> exact {}
  · exact .refl s

theorem recordStartRequest_aside (id : Nat) (name : List Nat) (mask d sh tr : Nat) (s : State) :
    Aside s (recordStartRequest id name mask d sh tr s).1 := by
  unfold recordStartRequest
  split
  · split
    · exact .refl s
    · split
      · exact .refl s
      · split
        · exact .refl s
        · exact {}
  · exact .refl s

theorem trimChain_aside (m : MoveIx) (s : State) : Aside s (trimChain m s) := by
  unfold trimChain
  simp only
  refine (releaseBlocks_aside m ((s.chain (s.entry m)).drop (blocksFor (s.entry m).keys)) s).trans ?_
  split <;> exact {}

theorem setCue_aside (c : Cue) (s : State) : Aside s (s.setCue c) := {}

/-! ### The key store port -/

theorem fetchesOf_unserved (q : KeyPort) (p : PlayerId) (h : ∀ v : Serving, q.serving = some v → v.wanted = true →
    v.access.isFetchOf p = false) : ({ q with serving := none } : KeyPort).fetchesOf p = q.fetchesOf p := by
  cases hv : q.serving with
  | none => simp [KeyPort.fetchesOf, hv]
  | some v =>
    have quiet : (v.wanted && v.access.isFetchOf p) = false := by
      cases hw : v.wanted with
      | false => rfl
      | true => exact h v hv hw
    cases p <;> simp only [KeyPort.fetchesOf, hv, quiet] <;> rfl

/-- Serving an access that is no fetch adds no fetch. -/
theorem fetchesOf_serve (q : KeyPort) (h : q.serving = none) (v : Serving) (p : PlayerId)
    (k : v.access.isFetchOf p = false) : ({ q with serving := some v } : KeyPort).fetchesOf p = q.fetchesOf p := by
  cases p <;> simp [KeyPort.fetchesOf, h, k]

theorem releaseServing_changes (m : MoveIx) (s : State) : Changes f s (releaseServing m s) := by
  unfold releaseServing
  split
  · next v serving =>
    have marked : SameFetches s.port { s.port with serving := some { v with released := true } } := fun typed =>
      ⟨⟨typed.waitA, typed.waitB, typed.waitRecorder, typed.waitConsole⟩, fun p => by
        cases p <;> simp [KeyPort.fetchesOf, serving]⟩
    exact .ite (Change.port marked).changes (.refl s)
  · exact .refl s

theorem abandonTxn_changes (m : MoveIx) (s : State) : Changes f s (abandonTxn m s) := by
  have withdrawn : SameFetches s.port { s.port with waitConsole := none } := fun typed =>
    ⟨⟨typed.waitA, typed.waitB, typed.waitRecorder, fun _ _ h => nomatch h⟩, fun p => by cases p <;> rfl⟩
  unfold abandonTxn
  split
  · exact .ite ((Change.port withdrawn).changes.trans (endTxn_aside _ _).changes) (.refl s)
  · exact .refl s

theorem emptyEntry_changes (m : MoveIx) (s : State) : Changes f s (emptyEntry m s) := by
  have emptied : Aside s ((releaseBlocks m (s.chain (s.entry m)) s).setEntry m Entry.blank) :=
    (releaseBlocks_aside m _ s).trans {}
  exact emptied.changes.trans ((releaseServing_changes m _).trans (abandonTxn_changes m _))

theorem closeEntry_changes (m : MoveIx) (b : Bool) (s : State) : Changes f s (closeEntry m b s) :=
  .ite (Aside.changes {}) (emptyEntry_changes m s)

theorem closeTake_changes (c : CloseCause) (s : State) : Changes f s (closeTake c s) := by
  unfold closeTake
  split
  · exact .refl s
  · exact (closeEntry_changes _ _ s).trans (.trans (Aside.changes {}) (raise_changes _ _))

/-- An access is a fetch of one player at most. -/
theorem isFetchOf_other {a : Access} {p q : PlayerId} (h : a.isFetchOf p = true) (hq : q ≠ p) : a.isFetchOf q = false := by
  cases a with
  | fetch r =>
    have own : r = p := by simpa [Access.isFetchOf] using h
    simpa [Access.isFetchOf, own] using fun e => hq e.symm
  | recorderWrite | consoleWrite | consoleRead => rfl

/-- What the arbiter takes out of the waiting set goes on to be served (R83). -/
theorem next_sameFetches {q q' : KeyPort} {a : Access} (free : q.serving = none) (taken : q.next? = some (a, q')) :
    SameFetches q { q' with serving := some { access := a, wanted := true, released := false } } := by
  rintro ⟨hA, hB, hR, hC⟩
  unfold KeyPort.next? at taken
  split at taken <;> cases taken
  · next waiting =>
    refine ⟨⟨(nomatch ·, ·), hB, hR, hC⟩, fun p => ?_⟩
    cases p with
    | a => simp [KeyPort.fetchesOf, free, waiting, hA a waiting]
    | b => simp [KeyPort.fetchesOf, free, isFetchOf_other (q := .b) (hA a waiting)]
  · next waiting =>
    refine ⟨⟨hA, (nomatch ·, ·), hR, hC⟩, fun p => ?_⟩
    cases p with
    | a => simp [KeyPort.fetchesOf, free, isFetchOf_other (q := .a) (hB a waiting)]
    | b => simp [KeyPort.fetchesOf, free, waiting, hB a waiting]
  · next waiting =>
    refine ⟨⟨hA, hB, fun _ _ h => (nomatch h), hC⟩, fun p => ?_⟩
    cases p <;> simp [KeyPort.fetchesOf, free, hR a _ waiting]
  · next waiting =>
    refine ⟨⟨hA, hB, hR, fun _ _ h => (nomatch h)⟩, fun p => ?_⟩
    cases p <;> simp [KeyPort.fetchesOf, free, hC a _ waiting]

theorem next_serving {q q' : KeyPort} {a : Access} (taken : q.next? = some (a, q')) : q'.serving = q.serving := by
  unfold KeyPort.next? at taken
  split at taken <;> cases taken <;> rfl

/-- A grant of what the arbiter has taken (R83). -/
theorem grant_changes {s : State} {q : KeyPort} {a : Access} (free : s.port.serving = none)
    (taken : s.port.next? = some (a, q)) : Changes f s (grant a { s with port := q }) := by
  have served := next_sameFetches free taken
  have free' : q.serving = none := (next_serving taken).trans free
  have left : (∀ p : PlayerId, a.isFetchOf p = false) → SameFetches s.port q := fun noFetch typed => by
    obtain ⟨typed', same⟩ := served typed
    exact ⟨⟨typed'.waitA, typed'.waitB, typed'.waitRecorder, typed'.waitConsole⟩, fun p =>
      (fetchesOf_serve q free' _ p (noFetch p)).symm.trans (same p)⟩
  have write : (∀ p : PlayerId, a.isFetchOf p = false) → ∀ t : State, Aside { s with port := q } t → Changes f s (serve a t) :=
    fun noFetch t aside => by
      refine .trans (Change.port (left noFetch)).changes (aside.changes.trans (Change.port fun typed => ?_).changes)
      refine ⟨⟨typed.waitA, typed.waitB, typed.waitRecorder, typed.waitConsole⟩, fun p => ?_⟩
      exact fetchesOf_serve t.port (aside.port ▸ free') _ p (noFetch p)
  cases a with
  | fetch | consoleRead => exact (Change.port served).changes
  | recorderWrite m k =>
    rw [grant]
    split
    · next granted => exact write (fun _ => rfl) _ (allocate_aside granted)
    · exact .trans (Change.port (left fun _ => rfl)).changes (closeTake_changes _ _)
  | consoleWrite m k =>
    rw [grant]
    split
    · next granted => exact write (fun _ => rfl) _ (allocate_aside granted)
    · exact .trans (Change.port (left fun _ => rfl)).changes (endTxn_aside _ _).changes

theorem arbitrate_changes (n : Nat) : ∀ s : State, Changes f s (arbitrate n s) := by
  induction n with
  | zero => exact Changes.refl
  | succ n ih =>
    intro s
    unfold arbitrate
    split
    · exact .refl s
    · next free =>
      split
      · exact .refl s
      · next taken => exact (grant_changes free taken).trans (ih _)

/-- A request that is no fetch joins the waiting set (R82). -/
theorem await_sameFetches (q : KeyPort) {a : Access} (h : ∀ p : PlayerId, a.isFetchOf p = false) : SameFetches q (q.await a) := by
  rintro ⟨hA, hB, hR, hC⟩
  cases a with
  | fetch p => exact absurd (h p) (by simp [Access.isFetchOf])
  | recorderWrite =>
    exact ⟨⟨hA, hB, fun _ p e => Option.some.inj e ▸ h p, hC⟩, fun p => by cases p <;> rfl⟩
  | consoleWrite | consoleRead =>
    exact ⟨⟨hA, hB, hR, fun _ p e => Option.some.inj e ▸ h p⟩, fun p => by cases p <;> rfl⟩

theorem requestPort_changes {a : Access} (h : ∀ p : PlayerId, a.isFetchOf p = false) (s : State) :
    Changes f s (requestPort a s) := by
  have waits : Changes f s { s with port := s.port.await a } := (Change.port (await_sameFetches _ h)).changes
  unfold requestPort
  split
  · exact waits.trans (arbitrate_changes 5 _)
  · exact waits

theorem consoleStep_changes (s : State) : Changes f s (consoleStep s) := by
  have ends : ∀ c : Result, Changes f s (endTxn c s) := fun c => (endTxn_aside c s).changes
  unfold consoleStep
  split
  · exact .refl s
  · split
    · exact ends _
    · exact .ite (requestPort_changes (fun _ => rfl) s) (ends _)
    · exact .ite (ends _) (.ite (ends _) (requestPort_changes (fun _ => rfl) s))

/-! ### The Recorder -/

theorem recorderWrite_changes (s : State) : Changes f s (recorderWrite s) := by
  unfold recorderWrite
  split
  · refine .ite (.trans (t := { s with recorder := { s.recorder with outstanding := true } }) (Aside.changes {}) ?_) (.refl s)
    exact requestPort_changes (fun _ => rfl) _
  · exact .refl s

theorem recorderNext_changes (s : State) : Changes f s (recorderNext s) :=
  .ite (closeTake_changes _ s) (recorderWrite_changes s)

theorem endTake_changes (c : CloseCause) (s : State) : Changes f s (endTake c s) := by
  have finalKey : Changes f s (if s.recorder.lastQueued = some (s.recorder.frames.getD 0) then s
      else dueKey (s.recorder.frames.getD 0) s) := .ite (.refl s) (dueKey_aside _ s).changes
  exact finalKey.trans (.trans (Aside.changes {}) (recorderNext_changes _))

theorem recorderTimeLimit_changes (s : State) : Changes f s (recorderTimeLimit s) := .ite (endTake_changes _ s) (.refl s)

theorem recorderCapture_changes (s : State) : Changes f s (recorderCapture s) :=
  have counted : Aside s { s with recorder := { s.recorder with frames := some s.recorder.nextFrames } } := {}
  .ite (.ite ((counted.trans (dueKey_aside _ _)).changes.trans (recorderWrite_changes _)) counted.changes) (.refl s)

theorem recorderPublication_changes (s : State) : Changes f s (recorderPublication s) :=
  have taken : Aside s (recorderTakes s) := {}
  taken.changes.trans ((recorderCapture_changes _).trans (recorderTimeLimit_changes _))

theorem abortTake_changes (s : State) : Changes f s (abortTake s) := by
  unfold abortTake
  split
  · exact (emptyEntry_changes _ s).trans (Aside.changes {})
  · exact Aside.changes {}

theorem recordStopRequest_changes (s : State) : Changes f s (recordStopRequest s).1 := by
  unfold recordStopRequest
  split
  · exact .refl s
  · exact abortTake_changes s
  · split
    · exact abortTake_changes s
    · exact endTake_changes _ s
  · exact .refl s

theorem endRecRequest_changes (s : State) : Changes f s (endRecRequest s).1 := by
  have hears : Aside s (recorderHears s) := by
    unfold recorderHears
    split <;> exact {}
  exact hears.changes.trans (recordStopRequest_changes _)

/-! ### The players -/

theorem setPlayer_setPlayer (s : State) (p : PlayerId) (r r' : Player) :
    (s.setPlayer p r).setPlayer p r' = s.setPlayer p r' := by cases p <;> rfl

theorem fetchIfRoom_changes (p : PlayerId) (s : State) : Changes f s (fetchIfRoom p s) := by
  unfold fetchIfRoom
  simp only
  split
  · next m c move cursor =>
    split
    · next ready =>
      simp only [Bool.and_eq_true, Bool.not_eq_true'] at ready
      obtain ⟨⟨⟨fetching, free⟩, remain⟩, room⟩ := ready
      have asked := (Change.fetch (inFrame := f) p fetching move cursor free remain room).changes
      have placed : { s.setPlayer p { s.player p with outstanding := true } with
          port := (s.setPlayer p { s.player p with outstanding := true }).port.await (.fetch p m c.index c.block c.slot) } =
          { s with port := s.port.await (.fetch p m c.index c.block c.slot) }.setPlayer p
            { s.player p with outstanding := true } := by cases p <;> rfl
      unfold requestPort
      rw [placed]
      split
      · exact asked.trans (arbitrate_changes 5 _)
      · exact asked
    · exact .refl s
  · exact .refl s

/-- The axes' records name the player as often after a change that leaves them alone. -/
theorem refCount_of_axes {s t : State} (h : t.axes = s.axes) (p : PlayerId) : t.refCount p = s.refCount p := by
  simp only [State.refCount, State.axis, h]

theorem becomeIdle_changes {p : PlayerId} {s : State} (gone : s.refCount p = 0) : Changes f s (becomeIdle p s) := by
  unfold becomeIdle
  simp only
  split
  · next m _ =>
    have returned : Aside s (s.setEntry m { s.entry m with users := (s.entry m).users - 1 }) := {}
    refine returned.changes.trans ?_
    have idle := (Change.idle (inFrame := f) p ((refCount_of_axes returned.axes p).trans gone)).changes
    cases p <;> exact idle
  · exact (Change.idle p gone).changes

theorem clearIfGone_changes (p : PlayerId) (n : Nat) (s : State) : Changes f s (clearIfGone p n s) := by
  unfold clearIfGone refClear
  split
  · next fallen => exact .ite (becomeIdle_changes fallen.2) (.refl s)
  · exact .refl s

theorem withClears_changes (s t : State) : Changes f t (withClears s t) :=
  (clearIfGone_changes .a _ t).trans (clearIfGone_changes .b _ _)

theorem setPlayer_changes {p : PlayerId} {s : State} {r : Player} (h : PlayerChange (s.player p) r) :
    Changes f s (s.setPlayer p r) := (Change.player p h).changes

theorem positionRequest_changes (p : PlayerId) (s : State) : Changes f s (positionRequest p s) := by
  unfold positionRequest
  split
  · next running =>
    have rated : Changes f s (s.setPlayer p { s.player p with rate := s.boundRate (s.player p) }) :=
      setPlayer_changes (.rated _ _)
    unfold runningRequest
    simp only
    split
    · next k0 k1 filled start stop =>
      refine .trans ?_ (fetchIfRoom_changes p _)
      have advanced : Changes f s (s.setPlayer p (({ s.player p with rate := s.boundRate (s.player p) } : Player).advance
          ((s.player p).time + s.boundRate (s.player p)) k0 k1)) := by
        rw [← setPlayer_setPlayer s p { s.player p with rate := s.boundRate (s.player p) }]
        refine rated.trans (setPlayer_changes ?_)
        rw [setPlayer_player_same]
        exact .advanced _ _ _ running filled start stop
      exact .ite advanced (advanced.trans (raise_changes _ _))
    · exact rated
  · exact .refl s

theorem runEffect_changes (p : PlayerId) (s : State) : Changes f s (runEffect p s) := by
  unfold runEffect
  simp only
  split
  · next held => exact (setPlayer_changes (.ran held)).trans (fetchIfRoom_changes p _)
  · exact fetchIfRoom_changes p s

theorem pauseEffect_changes (p : PlayerId) (s : State) : Changes f s (pauseEffect p s) := by
  unfold pauseEffect
  simp only
  split
  · next moving => exact setPlayer_changes (.paused moving)
  · exact .refl s

theorem pausePlayers_changes (s : State) : Changes f s (pausePlayers s) :=
  (pauseEffect_changes .a s).trans (pauseEffect_changes .b _)

theorem loadRequest_changes (c id r : Nat) (s : State) : Changes f s (loadRequest c id r s).1 := by
  unfold loadRequest
  split
  · next p m _ _ =>
    split
    · exact .refl s
    · split
      · exact .refl s
      · next idle =>
        split
        · exact .refl s
        · have claimed : Aside s (s.setEntry m { s.entry m with users := (s.entry m).users + 1 }) := {}
          refine claimed.changes.trans (.trans (setPlayer_changes ?_) (fetchIfRoom_changes p _))
          cases p <;> exact .loaded _ _ _ (not_not.mp idle)
  · exact .refl s

theorem goToRequest_changes (c k n : Nat) (s : State) : Changes f s (goToRequest c k n s).1 := by
  unfold goToRequest
  split
  · split
    · exact .refl s
    · split
      · exact .refl s
      · next idle =>
        split
        · exact .refl s
        · exact setPlayer_changes (.gone _ _ _ _ (not_not.mp idle))
  · exact .refl s

theorem runRequest_changes (c : Nat) (s : State) : Changes f s (runRequest c s).1 := by
  unfold runRequest
  split
  · exact .refl s
  · split
    case h_5 | h_6 | h_7 | h_8 => exact .refl s
    all_goals exact runEffect_changes _ s

theorem pauseRequest_changes (c : Nat) (s : State) : Changes f s (pauseRequest c s).1 := by
  unfold pauseRequest
  split
  · exact .refl s
  · split
    case h_1 | h_2 | h_3 => exact pauseEffect_changes _ s
    all_goals exact .refl s

/-! ### The Blend Engine -/

theorem mapAxes_changes {g : Fin 8 → Axis → Axis} {s : State} (h : ∀ i : Fin 8, AxisChange s i (g i (s.axis i))) :
    Changes f s (s.mapAxes g) := by
  refine (Change.axes fun i => ?_).changes
  simpa using h i

theorem setAxis_changes {i : Fin 8} {a : Axis} {s : State} (h : AxisChange s i a) : Changes f s (s.setAxis i a) := by
  refine (Change.axes fun j => ?_).changes
  change AxisChange s j ((s.setAxis i a).axis j)
  by_cases same : j = i
  · rw [same, setAxis_axis_same]
    exact h
  · rw [setAxis_axis_other s i j a same]
    exact .same

theorem handBackWhere_changes (p : Blend → Bool) (s : State) : Changes f s (handBackWhere p s) := by
  refine .trans (mapAxes_changes fun i => ?_) (withClears_changes s _)
  split
  · next back => exact .handedBack back.1
  · exact .same

theorem dropRequest_changes (p : PlayerId) (s : State) : Changes f s (dropRequest p s) := by
  refine .trans (mapAxes_changes fun i => ?_) (withClears_changes s _)
  split
  · exact .dropped
  · exact .same

theorem refCount_eq_zero {s : State} {p : PlayerId} : s.refCount p = 0 ↔ ∀ i : Fin 8, (s.axis i).blend.names p.source = false := by
  simp only [State.refCount, List.length_eq_zero_iff, List.filter_eq_nil_iff, Bool.not_eq_true]
  exact ⟨fun h i => h i (mem_allAxes i), fun h i _ => h i⟩

/-- After a drop no record names the player (R45). -/
theorem dropRequest_refCount (p : PlayerId) (s : State) : (dropRequest p s).refCount p = 0 := by
  unfold dropRequest
  rw [refCount_of_axes (withClears_axes s _), refCount_eq_zero]
  intro i
  rw [mapAxes_axis]
  split
  · cases p <;> rfl
  · next unnamed => exact Bool.eq_false_iff.mpr unnamed

/-- Every axis of a list passes a check when none is found to fail it. -/
theorem firstFailing_none {check : Fin 8 → Result} {l : List (Fin 8)} (h : firstFailing check l = none) :
    ∀ i ∈ l, check i = .ok := by
  induction l with
  | nil => exact fun _ h => absurd h List.not_mem_nil
  | cons j t ih =>
    unfold firstFailing at h
    split at h
    · next ok =>
      intro i hi
      rcases List.mem_cons.mp hi with rfl | tail
      · exact ok
      · exact ih h i tail
    · cases h

theorem mem_maskAxes {m : Mask} {i : Fin 8} : i ∈ Mask.axes m ↔ Mask.has m i = true := by
  simp [Mask.axes, mem_allAxes]

theorem fadeRequest_changes (m t l : Nat) (s : State) : Changes f s (fadeRequest m t l s).1 := by
  unfold fadeRequest
  split
  · split
    · exact .refl s
    · next short =>
      split
      · exact .refl s
      · next pass =>
        refine .trans (mapAxes_changes fun i => ?_) (withClears_changes s _)
        split
        · next named => exact .faded _ _ (firstFailing_none pass i (mem_maskAxes.mpr named)) (Nat.le_of_not_lt short)
        · exact .same
  · exact .refl s

theorem releaseRequest_changes (p : PlayerId) (s : State) : Changes f s (releaseRequest p s) := handBackWhere_changes _ s

theorem stopRequest_changes (c : Nat) (s : State) : Changes f s (stopRequest c s).1 := by
  unfold stopRequest
  split
  · exact .refl s
  · next p _ =>
    have idle : ∀ u : State, Changes f u (idleIfUnreferenced p u) := fun u => by
      unfold idleIfUnreferenced
      split
      · next free => exact becomeIdle_changes free.2
      · exact .refl u
    split
    case h_1 | h_2 => exact .refl s
    case h_3 => exact (dropRequest_changes _ s).trans (becomeIdle_changes (dropRequest_refCount p s))
    all_goals exact (Change.releasing p).changes.trans ((releaseRequest_changes _ _).trans (idle _))

/-! ### Key accesses -/

@[simp] theorem unserved_player (s : State) (p : PlayerId) : s.unserved.player p = s.player p := by cases p <;> rfl

theorem unserved_setPlayer (s : State) (p : PlayerId) (r : Player) : (s.setPlayer p r).unserved = s.unserved.setPlayer p r := by
  cases p <;> rfl

/-- A free port has no outcome that could become unwanted. -/
theorem disown_free {q : KeyPort} (h : q.serving = none) (p : PlayerId) : q.disown p = q := by simp [KeyPort.disown, h]

theorem disown_unserved (q : KeyPort) (p : PlayerId) :
    ({ q.disown p with serving := none } : KeyPort) = { q with serving := none } := by
  unfold KeyPort.disown
  split
  · split <;> rfl
  · rfl

theorem unserved_becomeIdle (p : PlayerId) (s : State) : (becomeIdle p s).unserved = becomeIdle p s.unserved := by
  have cleared : ∀ u : State,
      ({ u with port := (u.port.withdraw p).disown p }.setPlayer p (s.player p).toIdle).unserved =
        { u.unserved with port := (u.unserved.port.withdraw p).disown p }.setPlayer p (s.player p).toIdle := fun u => by
    have free : (u.unserved.port.withdraw p).serving = none := by cases p <;> rfl
    rw [unserved_setPlayer, disown_free free]
    have port := disown_unserved (u.port.withdraw p) p
    cases p <;> simp only [State.unserved, port] <;> rfl
  unfold becomeIdle
  simp only [unserved_player]
  split
  · exact cleared _
  · exact cleared s

theorem unserved_clearIfGone (p : PlayerId) (n : Nat) (s : State) :
    (clearIfGone p n s).unserved = clearIfGone p n s.unserved := by
  unfold clearIfGone refClear
  rw [unserved_player, show s.unserved.refCount p = s.refCount p from rfl]
  split
  · split
    · exact unserved_becomeIdle p s
    · rfl
  · rfl

/-- A hand-back does not depend on the access being served. -/
theorem unserved_handBackWhere (p : Blend → Bool) (s : State) : (handBackWhere p s).unserved = handBackWhere p s.unserved := by
  unfold handBackWhere withClears
  rw [unserved_clearIfGone, unserved_clearIfGone]
  rfl

/-- The outcome of a fetch at its player, once the port is free of the access (R109, R123). -/
theorem deliverFetch_changes {inFrame released : Bool} {p : PlayerId} {m : MoveIx} {i b n : Nat} {s : State}
    (serving : s.port.serving = some { access := .fetch p m i b n, wanted := true, released := released })
    (c : KeyCheck) (k : Key) (next : Option (Nat × Nat)) :
    Changes inFrame s (deliverFetch inFrame p i released c k next s).unserved := by
  have taken : ∀ {r : Player}, FetchOutcome inFrame (s.player p) i r → Changes inFrame s (s.setPlayer p r).unserved :=
    fun {r} h => by
      rw [unserved_setPlayer]
      exact (Change.outcome serving h).changes
  unfold deliverFetch
  split
  · exact taken .discarded
  · next fetching =>
    split
    · split
      · next frame => exact taken (.deferred frame)
      · have fault := taken .faulted
        have noticed : ∀ u : State, (playerNotice p u).unserved = playerNotice p u.unserved := fun u => by cases p <;> rfl
        unfold playerFault releaseRequest
        rw [noticed, unserved_handBackWhere]
        exact fault.trans ((handBackWhere_changes _ _).trans (raise_changes _ _))
    · exact taken (.placed _ _ (by simpa using (not_or.mp fetching).1))

theorem deliverOutcome_changes {inFrame : Bool} {s : State} {v : Serving} (serving : s.port.serving = some v) (c : KeyCheck) :
    Changes inFrame s (deliverOutcome inFrame v c s).unserved := by
  have free : (∀ p : PlayerId, v.wanted = true → v.access.isFetchOf p = false) → Changes inFrame s s.unserved := fun quiet => by
    have unwanted : SameFetches s.port { s.port with serving := none } := fun typed =>
      ⟨⟨typed.waitA, typed.waitB, typed.waitRecorder, typed.waitConsole⟩, fun p =>
        fetchesOf_unserved s.port p fun w served wanted => by
          cases serving.symm.trans served
          exact quiet p wanted⟩
    exact (Change.port unwanted).changes
  have asideFree : ∀ {t : State}, Aside s t → (∀ p : PlayerId, v.access.isFetchOf p = false) → Changes inFrame s t.unserved :=
    fun {t} aside quiet => by
      refine (free fun p _ => quiet p).trans (Aside.changes ?_)
      exact ⟨aside.axes, aside.geometry, aside.playerA, aside.playerB, by simp [State.unserved, aside.port], aside.pending⟩
  obtain ⟨access, wanted, released⟩ := v
  unfold deliverOutcome
  cases access with
  | fetch p m i b n =>
    simp only
    cases wanted with
    | true => exact deliverFetch_changes serving _ _ _
    | false => exact free fun p h => nomatch h
  | recorderWrite => exact asideFree {} fun _ => rfl
  | consoleWrite => exact asideFree (deliverConsoleWrite_aside s) fun _ => rfl
  | consoleRead => exact asideFree (deliverConsoleRead_aside _ _ _ s) fun _ => rfl

theorem nextRequest_changes (a : Access) (s : State) : Changes f s (nextRequest a s) := by
  cases a with
  | fetch => exact fetchIfRoom_changes _ s
  | recorderWrite => exact recorderNext_changes s
  | consoleWrite | consoleRead => exact consoleStep_changes s

theorem completeAccess_changes (inFrame : Bool) (c : KeyCheck) (s : State) : Changes inFrame s (completeAccess inFrame c s) := by
  unfold completeAccess
  split
  · exact .refl s
  · next v serving =>
    have finished := finishAccess_aside v c s
    refine finished.changes.trans (.trans ?_ (nextRequest_changes _ _))
    exact (deliverOutcome_changes (finished.port ▸ serving) c).trans (arbitrate_changes 5 _)

theorem frameAccesses_changes (l : List KeyCheck) (s : State) : Changes true s (frameAccesses l s) :=
  .foldl (fun s c => completeAccess_changes true c s) l s

theorem takeArrived_changes (p : PlayerId) (s : State) : Changes f s (takeArrived p s) := by
  unfold takeArrived
  split
  · exact .refl s
  · next n arrived =>
    simp only
    split
    · unfold playerFault
      simp only [setPlayer_player_same, setPlayer_setPlayer]
      exact (setPlayer_changes (.faulted n arrived)).trans ((releaseRequest_changes p _).trans (raise_changes _ _))
    · unfold discardOutcome
      rw [setPlayer_player_same, setPlayer_setPlayer]
      exact setPlayer_changes (.discarded n arrived)

theorem takeFaults_changes (o : PlayerOrder) (s : State) : Changes f s (takeFaults o s) :=
  (takeArrived_changes _ s).trans (takeArrived_changes _ _)

/-! ### The cue and the trigger table -/

theorem cueRefused_aside (c : Result) (ax : Option (Fin 8)) (s : State) : Aside s (cueRefused c ax s) := {}

theorem cueDone_aside (s : State) : Aside s (cueDone s) := {}

theorem cueAdvance_aside (s : State) : Aside s (cueAdvance s) := by
  unfold cueAdvance
  split <;> exact {}

theorem cueResult_changes {s : State} {r : State × Result × Option (Fin 8)} (h : Changes f s r.1) :
    Changes f s (cueResult r) :=
  .ite (h.trans (cueAdvance_aside _).changes) (h.trans (cueRefused_aside _ _ _).changes)

theorem cueResult1_changes {s : State} {r : State × Result} (h : Changes f s r.1) : Changes f s (cueResult1 r) :=
  cueResult_changes h

theorem testEnd_aside (p : PlayerId) (s : State) : Aside s (testEnd p s) := by
  unfold testEnd
  split
  · exact cueAdvance_aside s
  · exact {}

theorem testAt_aside (k : Fin 64) (w : Nat) (s : State) : Aside s (testAt k w s) := by
  unfold testAt
  split
  · exact {}
  · split
    · exact cueAdvance_aside s
    · exact {}

theorem cueLoop_aside (t : Fin 48) (n : Nat) (s : State) : Aside s (cueLoop t n s) := by
  unfold cueLoop
  simp only
  split
  · exact {}
  · exact (setCue_aside _ s).trans (cueAdvance_aside _)

theorem cueExecute_changes (s : State) : Changes f s (cueExecute s) := by
  unfold cueExecute
  split
  · exact cueResult1_changes (loadRequest_changes _ _ _ s)
  · exact cueResult1_changes (goToRequest_changes _ _ _ s)
  · exact cueResult1_changes (runRequest_changes _ s)
  · exact cueResult_changes (fadeRequest_changes _ _ _ s)
  · exact cueResult1_changes (stopRequest_changes _ s)
  · exact cueResult1_changes (recordStartRequest_aside _ _ _ _ _ _ s).changes
  · exact cueResult1_changes (endRecRequest_changes s)
  · exact (setCue_aside _ s).changes
  · exact (setCue_aside _ s).changes
  · exact (testEnd_aside _ s).changes
  · exact (testAt_aside _ _ s).changes
  · exact (cueLoop_aside _ _ s).changes
  · exact (raise_changes _ s).trans (cueAdvance_aside _).changes
  · exact (cueDone_aside s).changes

theorem cueRun_changes (n : Nat) : ∀ s : State, Changes f s (cueRun n s) := by
  induction n with
  | zero => exact Changes.refl
  | succ n ih => exact fun s => .ite ((cueExecute_changes s).trans (ih _)) (.refl s)

theorem waitFramesExpired_changes (s : State) : Changes f s (waitFramesExpired s) := by
  unfold waitFramesExpired
  split
  · exact .ite ((cueAdvance_aside s).changes.trans (cueRun_changes _ _)) (.refl s)
  · exact .refl s

theorem cueWaiting_changes (s : State) : Changes f s (cueWaiting s) := by
  unfold cueWaiting
  split
  · exact (setCue_aside _ s).changes.trans (waitFramesExpired_changes _)
  · exact (testEnd_aside _ s).changes.trans (cueRun_changes _ _)
  · exact (testAt_aside _ _ s).changes.trans (cueRun_changes _ _)
  · exact .refl s

theorem cuePublication_changes (s : State) : Changes f s (cuePublication s) := by
  unfold cuePublication
  split
  · exact cueWaiting_changes s
  · exact (setCue_aside _ s).changes.trans (.ite (cueDone_aside _).changes (cueRun_changes _ _))
  all_goals exact .refl s

theorem cueGo_aside (code : Nat) (s : State) : Aside s (cueGo code s) := by
  have met : Aside s (cueMet s) := by
    unfold cueMet
    split <;> exact {}
  unfold cueGo
  split
  · split
    · split
      · exact met
      · exact .refl s
    · exact .refl s
  · exact .refl s

theorem resumePlayer_changes (p : PlayerId) (s : State) : Changes f s (resumePlayer p s) :=
  .ite (runEffect_changes p s) (.refl s)

theorem takeOver_changes (s : State) : Changes f s (takeOver s) := handBackWhere_changes _ s

theorem triggerAct_changes (a : TriggerAction) (code : Nat) (e : Fin 8) (s : State) : Changes f s (triggerAct a code e s) := by
  cases a <;> unfold triggerAct
  case none => exact .refl s
  case cueGo => exact ((cueGo_aside code s).trans (recorderGo_aside _)).changes
  case pauseAll => exact pausePlayers_changes s
  case resumePlay =>
    exact .ite (.refl s) ((resumePlayer_changes .a s).trans (resumePlayer_changes .b _))
  case takeOver => exact takeOver_changes s
  case report => exact raise_changes _ s

theorem buttonCode_changes (s : State) (code : Nat) : Changes f s (buttonCode s code) := by
  unfold buttonCode
  split
  · exact triggerAct_changes _ _ _ s
  · exact .refl s

theorem handOn_changes (r : State × List Nat) : Changes f r.1 (handOn r) := .foldl buttonCode_changes _ _

/-! ### Axis Control and the Drive Line -/

theorem cueStopped_aside (s : State) : Aside s (cueStopped s) := by
  unfold cueStopped
  split
  · exact {}
  · exact .refl s

theorem cascade_changes (s : State) : Changes f s (cascade s) :=
  (mapAxes_changes fun _ => .cascaded).trans ((withClears_changes s _).trans
    ((pausePlayers_changes _).trans (cueStopped_aside _).changes))

theorem allHeldIf_changes (b : Bool) (s : State) : Changes f s (allHeldIf b s) := .ite (raise_changes _ s) (.refl s)

/-- An axis enters FAULT, whatever its miss count has become (R181, R183). -/
theorem enterFault_changes {i : Fin 8} {s t : State} (enabled : (s.axis i).enabled = true) (n : Nat)
    (missed : t = s.setAxis i { s.axis i with miss := n }) (c : FaultCause) (x : Int) (code : Option Nat) :
    Changes f s (enterFault i c x code t) := by
  have fault : Changes f s (t.setAxis i { (t.axis i).left .fault with cause := some c }) := by
    have twice : t.setAxis i { (t.axis i).left .fault with cause := some c } =
        s.setAxis i { ({ s.axis i with miss := n } : Axis).left .fault with cause := some c } := by
      rw [missed, setAxis_axis_same]
      simp [State.setAxis]
    rw [twice]
    exact setAxis_changes (.faulted n c enabled)
  unfold enterFault
  exact fault.trans (.trans (.trans (.trans (.trans (withClears_changes t _) (allHeldIf_changes _ _))
    (faultReport_traffic _ _).aside.changes) (raise_changes _ _)) (cascade_changes _))

theorem setAxis_same (s : State) (i : Fin 8) : s.setAxis i (s.axis i) = s := by
  simp [State.setAxis, State.axis]

theorem enabled_of_silent {a : Axis} (h : a.silent = true) : a.enabled = true := by
  unfold Axis.silent at h
  exact (Bool.and_eq_true _ _ ▸ h).1

theorem driveSilent_changes (i : Fin 8) (s : State) : Changes f s (driveSilent i s) := by
  unfold driveSilent
  split
  · next silent => exact enterFault_changes (enabled_of_silent silent) (s.axis i).miss (setAxis_same s i).symm _ _ _
  · exact .refl s

theorem closeWindow_changes (i : Fin 8) (s : State) : Changes f s (closeWindow i s) := by
  unfold closeWindow driveSilent
  split
  · refine .ite (.refl s) ?_
    have missed : (s.modAxis i Axis.missed).axis i = (s.axis i).missed := setAxis_axis_same s i _
    rw [missed]
    split
    · next silent =>
      have enabled : (s.axis i).enabled = true := enabled_of_silent (a := (s.axis i).missed) silent
      exact enterFault_changes enabled _ rfl _ _ _
    · next heard => exact setAxis_changes (.missed (Bool.eq_false_iff.mpr heard))
  · exact .refl s

theorem driveAxis_changes (g s : State) (i : Fin 8) : Changes f s (driveAxis g s i) := by
  refine .ite ((closeWindow_changes i s).trans ?_) (.refl s)
  exact (setAxis_changes (.sent (g.axis i).out)).trans (Aside.changes {})

theorem drivePublication_changes (g s : State) : Changes f s (drivePublication g s) :=
  .trans (t := { s with exchanges := [] }) (Aside.changes {}) (.foldl (driveAxis_changes g) _ _)

theorem enabled_of_state {a b : Axis} (h : a.state = b.state) : a.enabled = b.enabled := by simp only [Axis.enabled, h]

theorem answeredBy_state (a : Axis) (x : Int) (st : DriveStatus) : (a.answeredBy x st).state = a.state := by
  unfold Axis.answeredBy
  simp only
  split <;> rfl

theorem replyAct_changes (i : Fin 8) (x : Int) (st : DriveStatus) (s : State) : Changes f s (replyAct i x st s) := by
  have recorded : Changes f s (s.setAxis i ((s.axis i).answeredBy x st)) := setAxis_changes (.answered x st)
  unfold replyAct
  simp only
  split
  · next enabled =>
    have fault : ∀ (c : FaultCause) (y : Int) (code : Option Nat),
        Changes f s (enterFault i c y code (s.setAxis i ((s.axis i).answeredBy x st))) := fun c y code => by
      refine recorded.trans (enterFault_changes ?_ _ (setAxis_same _ i).symm _ _ _)
      rw [setAxis_axis_same, enabled_of_state (answeredBy_state _ x st)]
      exact enabled
    split
    · exact fault _ _ _
    all_goals
      split
      · exact fault _ _ _
      · exact recorded
  · exact recorded

theorem driveReply_changes (ad sq : Nat) (x : Int) (st co ch : Nat) (s : State) :
    Changes f s (driveReply ad sq x st co ch s) := by
  unfold driveReply
  split
  · exact .ite (replyAct_changes _ _ _ s) (.refl s)
  · exact .refl s

/-! ### The output frame -/

theorem limitStage_changes (cand : Fin 8 → Int) (g : Fin 8 → ClampFlags) (s : State) : Changes f s (limitStage cand g s) := by
  have limited : ∀ hold : Fin 8 → Bool,
      Changes f s (s.mapAxes fun i a => a.limited (hold i) ((s.axis i).propose (cand i) (g i))) := fun hold =>
    mapAxes_changes fun i => .limited (hold i) (cand i) (g i)
  refine .trans (.trans ?_ (.foldl (fun t i => raise_changes _ t) _ _)) (allHeldIf_changes _ _)
  exact (limited fun i => s.geometricMoving && s.inEnabledZone (s.checkPoint fun j => (s.axis j).propose (cand j) (g j))
    && geometric i).trans (Aside.changes {})

theorem blendStage_changes (s : State) : Changes f s (blendStage s) := by
  refine .trans (mapAxes_changes fun i => ?_) (withClears_changes s _)
  split
  · next active =>
    refine .blended (s.routed i) active ?_
    unfold State.routed
    split
    · next c cfg => exact .inr ⟨c, _, cfg, rfl⟩
    · exact .inl rfl
  · exact .same

theorem blendAndLimit_changes (s : State) : Changes f s (blendAndLimit s) := by
  have tracked : ∀ u : State, Changes f u (trackStage u) := fun u => mapAxes_changes fun i => by
    split
    · exact .tracked
    · exact .same
  exact (blendStage_changes s).trans ((limitStage_changes _ _ _).trans (tracked _))

theorem askPlayers_changes (t : PlayerTurns) (s : State) : Changes true s (askPlayers t s).1 :=
  (frameAccesses_changes _ s).trans ((positionRequest_changes _ _).trans ((frameAccesses_changes _ _).trans
    ((stickEvents_stick _ _).aside.changes.trans ((positionRequest_changes _ _).trans ((frameAccesses_changes _ _).trans
      (stickEvents_stick _ _).aside.changes)))))

theorem publishTo_changes (g s : State) (x : Sink) : Changes f s (publishTo g s x) := by
  cases x with
  | driveLine => exact drivePublication_changes g s
  | recorder => exact recorderPublication_changes s
  | cue => exact cuePublication_changes s
  | noticeUnit => exact (dividerCount_traffic g s).aside.changes

theorem publish_changes (order : List Sink) (s : State) : Changes f s (publish order s) :=
  .trans (Aside.changes {}) (.foldl (publishTo_changes _) _ _)

/-- An output frame up to its publication. -/
theorem published_changes (order : List Sink) (t : PlayerTurns) (s : State) :
    Changes true s (publish order (computeFrame t s).1) :=
  .trans (t := { s with timer := s.timer.expire }) (Aside.changes {}) ((askPlayers_changes t _).trans
    ((blendAndLimit_changes _).trans (publish_changes order _)))

end Sys2Proof.Machine
end

section
/-! Every command ends in a next state, which is made of single changes; outside an output frame no outcome of a fetch is left
for later (R123). -/

namespace Sys2Proof.Machine

/-- No player holds an outcome that it has not yet taken (R123). -/
def State.NoneArrived (s : State) : Prop := ∀ p : PlayerId, (s.player p).arrived = none

/-- What a whole command makes of the state. -/
structure Steps (s t : State) : Prop where
  changes : Changes true s t
  taken : s.NoneArrived → t.NoneArrived

theorem Steps.refl (s : State) : Steps s s := ⟨.refl s, id⟩

theorem Steps.trans {s t u : State} (h : Steps s t) (k : Steps t u) : Steps s u :=
  ⟨h.changes.trans k.changes, k.taken ∘ h.taken⟩

theorem Steps.ite {s t u : State} {c : Prop} [Decidable c] (h : Steps s t) (k : Steps s u) :
    Steps s (if c then t else u) := by
  split
  · exact h
  · exact k

/-! ### Outside an output frame -/

theorem FetchOutcome.inFrame {r r' : Player} {i : Nat} (h : FetchOutcome false r i r') : FetchOutcome true r i r' := by
  cases h with
  | discarded => exact .discarded
  | deferred frame => cases frame
  | faulted => exact .faulted
  | placed k next fetching => exact .placed k next fetching

theorem Change.inFrame {s t : State} (h : Change false s t) : Change true s t := by
  cases h with
  | aside h => exact .aside h
  | geometry h => exact .geometry h
  | axes h => exact .axes h
  | port h => exact .port h
  | player p h => exact .player p h
  | fetch p h1 h2 h3 h4 h5 h6 => exact .fetch p h1 h2 h3 h4 h5 h6
  | outcome h k => exact .outcome h k.inFrame
  | releasing p => exact .releasing p
  | idle p h => exact .idle p h
  | reset h1 h2 h3 h4 h5 h6 => exact .reset h1 h2 h3 h4 h5 h6

/-- A player's record after a change of one player. -/
theorem setPlayer_player_cases {s : State} {p q : PlayerId} {r : Player} {P : Player → Prop} (own : q = p → P r)
    (other : P (s.player q)) : P ((s.setPlayer p r).player q) := by
  by_cases same : q = p
  · rw [same, setPlayer_player_same]
    exact own same
  · rw [setPlayer_player_other s p q r same]
    exact other

theorem player_of {s t : State} (a : t.playerA = s.playerA) (b : t.playerB = s.playerB) (p : PlayerId) : t.player p = s.player p := by
  cases p
  · exact a
  · exact b

theorem advance_arrived (r : Player) (time : Nat) (k0 k1 : PlayerKey) : (r.advance time k0 k1).arrived = r.arrived := by
  unfold Player.advance
  split <;> rfl

theorem place_arrived (r : Player) (i : Nat) (k : Key) (n : Option (Nat × Nat)) : (r.place i k n).arrived = r.arrived := by
  unfold Player.place
  simp only
  split <;> rfl

theorem PlayerChange.arrived {r r' : Player} (h : PlayerChange r r') (k : r.arrived = none) : r'.arrived = none := by
  cases h with
  | rated | ran | paused => exact k
  | loaded | gone | faulted | discarded => rfl
  | advanced => rwa [advance_arrived]

theorem FetchOutcome.arrived {r r' : Player} {i : Nat} (h : FetchOutcome false r i r') (k : r.arrived = none) :
    r'.arrived = none := by
  cases h with
  | discarded | faulted => exact k
  | deferred frame => cases frame
  | placed => rwa [place_arrived]

/-- Outside an output frame a player takes each outcome as it comes. -/
theorem Change.arrived {s t : State} {q : PlayerId} (h : Change false s t) (k : (s.player q).arrived = none) :
    (t.player q).arrived = none := by
  have one : ∀ {u : State} {p : PlayerId} {r : Player}, (∀ q : PlayerId, u.player q = s.player q) →
      (q = p → r.arrived = none) → ((u.setPlayer p r).player q).arrived = none := fun {u p r} same own =>
    setPlayer_player_cases (P := fun r => r.arrived = none) own (by rw [same q, k])
  cases h with
  | aside h => rwa [player_of h.playerA h.playerB q]
  | geometry | axes | port => cases q <;> exact k
  | player p h => exact one (fun _ => rfl) fun e => h.arrived (e ▸ k)
  | fetch p => exact one (fun q => by cases q <;> rfl) fun e => e ▸ k
  | outcome _ h => exact one (unserved_player s) fun e => h.arrived (e ▸ k)
  | releasing p => exact one (u := { s with port := s.port.withdraw p }) (fun q => by cases q <;> rfl) fun e => e ▸ k
  | idle p => exact one (fun q => by cases q <;> rfl) fun _ => rfl
  | reset _ _ playerA playerB =>
    cases q
    · exact congrArg Player.arrived playerA
    · exact congrArg Player.arrived playerB

/-- Changes outside an output frame. -/
theorem Changes.steps {s t : State} (h : Changes false s t) : Steps s t where
  changes := h.keep (P := Changes true s) (fun change before => before.trans change.inFrame.changes) (.refl s)
  taken := fun taken p => h.keep (P := fun u => (u.player p).arrived = none) Change.arrived (taken p)

theorem Aside.steps {s t : State} (h : Aside s t) : Steps s t := h.changes.steps

theorem pump_steps (s : State) : Steps s (pump s) := (pump_traffic s).aside.steps

/-! ### The output frame and the millisecond -/

theorem playerFault_arrived {p : PlayerId} {s : State} (n : Nat) (h : (s.player p).arrived = none) :
    ((playerFault p n s).player p).arrived = none := by
  have kept : ∀ (u : State) (d : Detail), (u.player p).arrived = none →
      ((raise d (releaseRequest p u)).player p).arrived = none := fun u d =>
    ((releaseRequest_changes p u).trans (raise_changes d _)).keep (P := fun u => (u.player p).arrived = none) Change.arrived
  refine kept _ _ ?_
  rw [setPlayer_player_same]
  exact h

theorem takeArrived_arrived (p : PlayerId) (s : State) : ((takeArrived p s).player p).arrived = none := by
  unfold takeArrived
  split
  · next taken => exact taken
  · simp only
    split
    · exact playerFault_arrived _ (by rw [setPlayer_player_same])
    · rw [discardOutcome, setPlayer_player_same, setPlayer_player_same]

theorem outputFrame_steps (order : List Sink) (t : PlayerTurns) (s : State) : Steps s (outputFrame order t s) := by
  have faults : ∀ u : State, (takeFaults t.faults u).NoneArrived := fun u p => by
    have first := takeArrived_arrived (firstAsked t.faults) u
    have kept := (takeArrived_changes (f := false) (secondAsked t.faults) (takeArrived (firstAsked t.faults) u)).keep
      (P := fun w => (w.player (firstAsked t.faults)).arrived = none) Change.arrived first
    have second := takeArrived_arrived (secondAsked t.faults) (takeArrived (firstAsked t.faults) u)
    cases h : t.faults <;> rw [h] at kept second <;> cases p
    · exact kept
    · exact second
    · exact second
    · exact kept
  have frame : Steps s (takeFaults t.faults (publish order (computeFrame t s).1)) :=
    ⟨(published_changes order t s).trans (takeFaults_changes _ _), fun _ => faults _⟩
  exact frame.trans (handOn_changes (_, _)).steps

theorem stickMillisecond_aside (s : State) : Aside s (stickMillisecond s) := by
  unfold stickMillisecond
  simp only
  split
  · split
    · refine Aside.trans ?_ (staleExpire_stick _).aside
      exact {}
    · exact {}
  · exact .refl s

theorem discardFrame_aside (c : LinkCause) (s : State) : Aside s (discardFrame c s) := {}

theorem consoleGap_aside (s : State) : Aside s (consoleGap s) := by
  unfold consoleGap
  split
  · exact discardFrame_aside _ s
  · exact .refl s

theorem millisecond_steps (s : State) : Steps s (millisecond s) := by
  have hunted : Aside s (panelHunt s) := {}
  have before : Aside s (stickMillisecond (consoleGap (panelHunt s))) :=
    hunted.trans ((consoleGap_aside _).trans (stickMillisecond_aside _))
  have counted : ∀ u : State, Aside u { u with timer := { u.timer with elapsed := u.timer.elapsed + 1 } } := fun _ => {}
  exact before.steps.trans (.ite ((counted _).steps.trans (outputFrame_steps _ _ _)) (counted _).steps)

/-! ### The Console Link and power -/

theorem requestArrival_aside (kind tag : Nat) (payload : List Byte) (s : State) : Aside s (requestArrival kind tag payload s) := by
  unfold requestArrival
  split
  · exact {}
  · split <;> exact {}

theorem completeFrame_aside (kind tag : Nat) (payload : List Byte) (check : Nat) (s : State) :
    Aside s (completeFrame kind tag payload check s) := by
  unfold completeFrame
  split
  · exact discardFrame_aside _ s
  · split
    · exact discardFrame_aside _ s
    · refine Aside.trans ?_ (requestArrival_aside _ _ _ _)
      exact {}

theorem consoleReceive_aside (b : Byte) (e : Bool) (s : State) : Aside s (consoleReceive b e s) := by
  unfold consoleReceive
  split
  · split <;> exact {}
  · simp only
    split
    · exact discardFrame_aside _ s
    · split
      · exact discardFrame_aside _ s
      · split
        · exact completeFrame_aside _ _ _ _ s
        · exact {}

theorem panelReceive_changes (b : Byte) (e : Bool) (s : State) : Changes false s (panelReceive b e s) := by
  have hunted : Aside s (panelHunt s) := {}
  have taken : ∀ r, Aside s { s with stick := { s.stick with receiver := r } } := fun _ => {}
  unfold panelReceive
  split
  · exact .ite (taken _).changes (.refl s)
  · refine .ite hunted.changes (.ite hunted.changes (.ite ?_ (taken _).changes))
    exact hunted.changes.trans ((portComplete_stick _ _ _ _ _).aside.changes.trans (handOn_changes _))

theorem recoverEntry_changes (s : State) (m : MoveIx) : Changes false s (recoverEntry s m) := by
  have trimmed := (trimChain_aside m s).changes (f := false)
  exact .ite (.ite (trimmed.trans (Aside.changes {})) (trimmed.trans (emptyEntry_changes _ _))) (.refl s)

theorem recover_changes (s : State) : Changes false s (recover s) := .foldl recoverEntry_changes _ s

/-- The volatile state takes its values after reset (R101). -/
theorem resetVolatile_changes {line : StopLine} {s t : State} (h : t.pending = s.pending) :
    Changes false s (resetVolatile line t) :=
  (Change.reset (t := resetVolatile line t) rfl rfl rfl rfl rfl h).changes

theorem powerOn_changes (loop : LoopCurrent) (s : State) : Changes false s (powerOn loop s) := by
  refine .trans (resetVolatile_changes ?_) (recover_changes _)
  simp only
  split <;> rfl

theorem transmitDone_changes (loop : LoopCurrent) (c : KeyCheck) (s : State) : Changes false s (transmitDone loop c s) := by
  unfold transmitDone
  split
  · exact .refl s
  · refine .ite (.trans (resetVolatile_changes ?_) (recover_changes _)) (Aside.changes {})
    unfold finishForReset
    split
    · exact (finishAccess_aside _ c s).pending
    · rfl

/-! ### Commands -/

/-- The outcome is a next state, which the command's changes make. -/
def Completes (s : State) (o : Host.Outcome State Fault Refusal) : Prop := ∃ t : State, o = .next t ∧ Steps s t

theorem Completes.next {s t : State} (h : Steps s t) : Completes s (.next t) := ⟨t, rfl, h⟩

theorem event_completes {g : State → State} {s : State} (h : Steps s (g s)) : Completes s (event g s) := by
  unfold event
  split
  · exact .next (h.trans (pump_steps _))
  · exact .next (.refl s)

theorem event_changes {g : State → State} {s : State} (h : Changes false s (g s)) : Completes s (event g s) :=
  event_completes h.steps

theorem request_completes {i : Instr} {act : Via → State → State × Option Reply} {s : State}
    (h : Changes false s (act (s.via i) s).1) : Completes s (request i act s) := by
  unfold request
  split
  · split
    · next acted =>
      rw [acted] at h
      exact .next (h.steps.trans ((readyReply_traffic _ _ _).aside.steps.trans (pump_steps _)))
    · next acted =>
      rw [acted] at h
      exact .next (h.steps.trans (pump_steps _))
  · exact .next (.refl s)

theorem answered_completes {i : Instr} {act : State → State × Reply} {s : State} (h : Changes false s (act s).1) :
    Completes s (answered i act s) := request_completes h

theorem query_completes (i : Instr) (fields : State → List Byte) (s : State) : Completes s (query i fields s) :=
  answered_completes (.refl s)

/-! ### Requests at the axes and the geometry record -/

/-- The record of a SET_AXIS whose fields pass is in range (R173). -/
theorem configOf_ok {w : WireAxis} (h : badField? w = none) : (configOf w).ok = true := by
  have pass := badField?_eq_none_iff.mp h
  obtain ⟨low, order⟩ := softMin_passes.mp (pass 0 (by decide))
  have high : inPosRange w.softMax = true := by simpa [fieldFails] using pass 1 (by decide)
  have below : w.softMin < w.softMax := order (inPosRange_iff.mp high)
  have band := pass 2 (by decide)
  have vmax := pass 3 (by decide)
  have amax := pass 4 (by decide)
  have vstick := pass 5 (by decide)
  have deadband := pass 8 (by decide)
  have trimMax := pass 11 (by decide)
  have feLimit := pass 12 (by decide)
  have missLimit := pass 14 (by decide)
  simp only [fieldFails, Bool.not_eq_false'] at band vmax amax vstick deadband trimMax feLimit missLimit
  simp [AxisConfig.ok, configOf, inPosRange_iff.mpr low, high, below, band, vmax, amax, vstick, deadband, trimMax, feLimit,
    missLimit]

theorem execSetAxis_completes (n : Nat) (w : WireAxis) (s : State) : Completes s (execSetAxis n w s) := by
  have centred : ∀ (ch : Option (Fin 8)) (u : State), Aside u (centreChannel ch u) := fun ch u => by
    cases ch <;> exact {}
  refine answered_completes ?_
  simp only
  split
  · exact .refl s
  · split
    · exact .refl s
    · next free =>
      split
      · exact .refl s
      · next good =>
        exact (setAxis_changes (.configured _ (not_not.mp free) (configOf_ok good))).trans
          ((centred _ _).changes.trans (withClears_changes s _))

theorem execReleaseAxis_completes (n : Nat) (s : State) : Completes s (execReleaseAxis n s) := by
  refine answered_completes ?_
  split
  · exact .refl s
  · split
    · exact .refl s
    · next disabled =>
      split
      · exact .refl s
      · exact (setAxis_changes (.unconfigured (not_not.mp disabled))).trans (withClears_changes s _)

theorem execEnableAxis_completes (n : Nat) (s : State) : Completes s (execEnableAxis n s) := by
  refine answered_completes ?_
  simp only
  split
  · exact .refl s
  · split
    · exact .refl s
    · split
      · exact .refl s
      · next pass =>
        split
        · exact .refl s
        · refine .trans (mapAxes_changes fun i => ?_) (withClears_changes s _)
          split
          · next named => exact .seated (firstFailing_none pass i (mem_maskAxes.mpr named))
          · exact .same

theorem execDisableAxis_completes (n : Nat) (s : State) : Completes s (execDisableAxis n s) := by
  refine answered_completes ?_
  split
  · exact .refl s
  · split
    · exact .refl s
    · next pass =>
      refine .trans (.trans (mapAxes_changes fun i => ?_) (withClears_changes s _)) (allHeldIf_changes _ _)
      split
      · next named =>
        have enabled := firstFailing_none pass i (mem_maskAxes.mpr named)
        exact .disabled (by simpa [disableCheck] using enabled)
      · exact .same

theorem execClearFault_completes (n : Nat) (s : State) : Completes s (execClearFault n s) := by
  refine answered_completes ?_
  split
  · exact .refl s
  · split
    · exact .refl s
    · next fault =>
      split
      · exact .refl s
      · exact setAxis_changes (.cleared (not_not.mp fault))

theorem execResumeAll_completes (s : State) : Completes s (execResumeAll s) := by
  refine answered_completes ?_
  split
  · exact .refl s
  · exact mapAxes_changes fun _ => .resumed

theorem execSetGeometry_completes (a b c d : Nat) (s : State) : Completes s (execSetGeometry a b c d s) := by
  refine answered_completes ?_
  simp only
  split
  · next good => exact (Change.geometry good).changes
  · exact .refl s

/-! ### Requests at the Move Library and the players -/

theorem beginTxn_changes (v : Via) (m : MoveIx) (w : TxnWork) (s : State) : Changes false s (beginTxn v m w s) := by
  have begun : Aside (holdPlace v s) { holdPlace v s with txn := some { via := v, move := m, work := w } } := {}
  exact ((holdPlace_traffic v s).aside.trans begun).changes.trans (consoleStep_changes _)

theorem execPutKeys_completes (n : Nat) (keys : List WireKey) (s : State) : Completes s (execPutKeys n keys s) := by
  refine request_completes ?_
  unfold putKeysRequest
  split
  · exact .refl s
  · split
    · exact .refl s
    · split
      · exact .refl s
      · split
        · exact .refl s
        · split
          · exact .refl s
          · exact beginTxn_changes _ _ _ s

theorem execReadKeys_completes (n first count : Nat) (s : State) : Completes s (execReadKeys n first count s) := by
  refine request_completes ?_
  unfold readKeysRequest
  simp only
  split
  · exact .refl s
  · next m _ =>
    have begun := beginTxn_changes (s.via (.readKeys n first count)) m (.read first count []) s
    split
    · exact .refl s
    · split
      · exact .refl s
      · split
        · exact .refl s
        · split
          · exact .refl s
          · exact begun

theorem execDeleteMove_completes (n : Nat) (s : State) : Completes s (execDeleteMove n s) := by
  refine answered_completes ?_
  split
  · exact .refl s
  · split
    · exact emptyEntry_changes _ s
    · exact .refl s

theorem execSetRate_completes (c r : Nat) (b : Option (Nat × Nat)) (s : State) : Completes s (execSetRate c r b s) := by
  refine answered_completes ?_
  split
  · split
    · exact .refl s
    · exact setPlayer_changes (.rated _ _)
  · exact .refl s

theorem execStopAll_completes (s : State) : Completes s (execStopAll s) :=
  answered_completes ((raise_changes _ s).trans (cascade_changes _))

theorem execSetPanel_completes (n : Nat) (s : State) : Completes s (execSetPanel n s) := by
  refine answered_completes ?_
  split
  · exact .refl s
  · have set : Aside s { s with stick := { s.stick with timeout := n } } := {}
    exact .ite (set.trans (staleExpire_stick _).aside).changes set.changes

/-! ### Events -/

theorem execPowerOn_completes (loop : LoopCurrent) (s : State) : Completes s (execPowerOn loop s) := by
  unfold execPowerOn
  split
  · exact .next (.refl s)
  · exact .next ((powerOn_changes loop s).steps.trans (pump_steps _))

theorem execMainPowerLoss_completes (s : State) : Completes s (execMainPowerLoss s) := by
  unfold execMainPowerLoss
  split
  · exact .next (resetVolatile_changes (s := s) (t := { s with power := { s.power with on := false } }) rfl).steps
  · exact .next (.refl s)

theorem execRetentionSupplyLoss_completes (s : State) : Completes s (execRetentionSupplyLoss s) := by
  have lost : Changes false s (powerLost (initialiseRetained s)) := resetVolatile_changes rfl
  exact .next (lost.steps.trans (Aside.steps {}))

theorem execStopLineAssert_completes (s : State) : Completes s (execStopLineAssert s) := by
  refine event_changes (.ite (.trans (.trans ?_ (raise_changes _ _)) (cascade_changes _)) (.refl s))
  exact Aside.changes {}

theorem execStopLineRelease_completes (s : State) : Completes s (execStopLineRelease s) := by
  refine event_changes (.ite (.trans ?_ (raise_changes _ _)) (.refl s))
  exact Aside.changes {}

theorem execFadeComplete_completes (n : Nat) (s : State) : Completes s (execFadeComplete n s) := by
  refine event_changes ?_
  split
  · exact (setAxis_changes .completed).trans (withClears_changes s _)
  · exact .refl s

theorem execDriveSilent_completes (n : Nat) (s : State) : Completes s (execDriveSilent n s) := by
  refine event_changes ?_
  split
  · exact driveSilent_changes _ s
  · exact .refl s

/-- Every command has a next state, made by changes; what the requests not named here change is aside. -/
theorem exec_completes (c : Instr) (s : State) : Completes s (exec c s) := by
  cases c <;> rw [exec]
  case powerOn => exact execPowerOn_completes _ s
  case mainPowerLoss => exact execMainPowerLoss_completes s
  case retentionSupplyLoss => exact execRetentionSupplyLoss_completes s
  case panelFrame => exact event_changes ((portFrame_stick _ _ _ _ s).aside.changes.trans (handOn_changes _))
  case panelByte => exact event_changes (panelReceive_changes _ _ s)
  case panelGapTimeout => exact event_changes (Aside.changes {})
  case staleTimeout => exact event_changes (staleExpire_stick s).aside.changes
  case outputFrame => exact event_completes (outputFrame_steps _ _ s)
  case recorderTimeLimit => exact event_changes (recorderTimeLimit_changes s)
  case waitFramesExpired => exact event_changes (waitFramesExpired_changes s)
  case statusReportDue => exact event_changes (statusDue_traffic s s).aside.changes
  case keyAccessComplete => exact event_changes (completeAccess_changes false _ s)
  case driveReply => exact event_changes (driveReply_changes _ _ _ _ _ _ s)
  case consoleByte => exact event_changes (consoleReceive_aside _ _ s).changes
  case consoleGapTimeout => exact event_changes (consoleGap_aside s).changes
  case requestFrame =>
    exact event_changes (.ite (discardFrame_aside _ s).changes (completeFrame_aside _ _ _ _ s).changes)
  case transmitDone => exact event_changes (transmitDone_changes _ _ s)
  case stopLineAssert => exact execStopLineAssert_completes s
  case stopLineRelease => exact execStopLineRelease_completes s
  case fadeComplete => exact execFadeComplete_completes _ s
  case driveSilent => exact execDriveSilent_completes _ s
  case setPanel => exact execSetPanel_completes _ s
  case setGeometry => exact execSetGeometry_completes _ _ _ _ s
  case setRate => exact execSetRate_completes _ _ _ s
  case setAxis => exact execSetAxis_completes _ _ s
  case releaseAxis => exact execReleaseAxis_completes _ s
  case enableAxis => exact execEnableAxis_completes _ s
  case disableAxis => exact execDisableAxis_completes _ s
  case clearFault => exact execClearFault_completes _ s
  case stopAll => exact execStopAll_completes s
  case resumeAll => exact execResumeAll_completes s
  case fade => exact answered_completes (fadeRequest_changes _ _ _ s)
  case takeOver => exact answered_completes (takeOver_changes s)
  case putKeys => exact execPutKeys_completes _ _ s
  case readKeys => exact execReadKeys_completes _ _ _ s
  case deleteMove => exact execDeleteMove_completes _ s
  case load => exact answered_completes (loadRequest_changes _ _ _ s)
  case run => exact answered_completes (runRequest_changes _ s)
  case pause => exact answered_completes (pauseRequest_changes _ s)
  case stop => exact answered_completes (stopRequest_changes _ s)
  case goTo => exact answered_completes (goToRequest_changes _ _ _ s)
  case recordStart => exact answered_completes (recordStartRequest_aside _ _ _ _ _ _ s).changes
  case recordStop => exact answered_completes (recordStopRequest_changes s)
  case ident | getPanel | getFrame | getGeometry | listMoves | getRecorder | getCue | getTriggers | getNotices | readLog
      | getStatus => exact query_completes _ _ s
  case setZone | protectMove =>
    refine answered_completes ?_
    dsimp only
    (repeat' split) <;> exact Aside.changes {}
  all_goals
    refine answered_completes ?_
    (repeat' split) <;> exact Aside.changes {}

theorem idle_completes (s : State) : Completes s (idle s) := by
  unfold idle
  split
  · have undelivered : ∀ (p : Place) (c : Result), Steps s (answerUndelivered p c s) := fun p c =>
      (readyReply_traffic _ _ s).aside.steps.trans (pump_steps _)
    split
    · exact exec_completes _ s
    · exact .next (undelivered _ _)
    · exact .next (undelivered _ _)
    · exact .next ((millisecond_steps s).trans (pump_steps _))
  · exact .next (.refl s)

theorem Changes.pending {f : Bool} {s t : State} (h : Changes f s t) : t.pending = s.pending := by
  refine h.keep (P := fun u => u.pending = s.pending) (fun {u v} change kept => ?_) rfl
  refine Eq.trans ?_ kept
  cases change with
  | aside h => exact h.pending
  | geometry | axes | port => rfl
  | reset _ _ _ _ _ h => exact h
  | player p | fetch p | outcome | releasing p | idle p => exact setPlayer_pending _ _ _

/-- Settles O3: every command's outcome is a next state, and no change touches the waiting commands. -/
theorem everyCommandCompletes : Obligations.EveryCommandCompletes := fun c s => by
  obtain ⟨t, next, steps⟩ := exec_completes c s
  exact ⟨t, next, steps.changes.pending⟩

end Sys2Proof.Machine
end

section
/-! The laws of the axes (R26, R28, R32, R52, R54, R172, R181): what each change of a blend record and of an axis keeps. -/

namespace Sys2Proof.Machine

/-! ### The law of a blend record (R26) -/

theorem fading_iff {b : Blend} : b.fading = true ↔ b.fromSrc ≠ b.toSrc := decide_eq_true_iff

theorem fading_false_iff {b : Blend} : b.fading = false ↔ b.fromSrc = b.toSrc := by simp [Blend.fading]

/-- A record fades with a count below its length, or is steady with neither. -/
theorem blendLawful_iff {b : Blend} : b.lawful = true ↔
    (b.fromSrc = b.toSrc ∧ b.k = 0 ∧ b.len = none) ∨
      (b.fromSrc ≠ b.toSrc ∧ ∃ f : Nat, b.len = some f ∧ b.k < f ∧ f ≤ 65535) := by
  unfold Blend.lawful
  by_cases fades : b.fromSrc = b.toSrc
  · rw [if_neg (by simp [Blend.fading, fades])]
    simp [fades]
  · rw [if_pos (fading_iff.mpr fades)]
    cases h : b.len with
    | none => simp [fades]
    | some f =>
      simp only [fades, Bool.and_eq_true, decide_eq_true_eq, within_iff, false_and, false_or, ne_eq, not_false_eq_true, true_and,
        Option.some.injEq, exists_eq_left']
      omega

theorem steadyOn_lawful (b : Blend) (x : Source) : (b.steadyOn x).lawful = true := blendLawful_iff.mpr (.inl ⟨rfl, rfl, rfl⟩)

/-- The law speaks of the sources, the count and the length alone. -/
theorem lawful_of_fields {b b' : Blend} (h : b.lawful = true) (hfrom : b'.fromSrc = b.fromSrc) (hto : b'.toSrc = b.toSrc)
    (hk : b'.k = b.k) (hlen : b'.len = b.len) : b'.lawful = true := by
  rw [blendLawful_iff] at h ⊢
  rwa [hfrom, hto, hk, hlen]

theorem cut_lawful (b : Blend) (x : Source) (out : Int) : (b.cut x out).lawful = true := by
  cases x <;> exact steadyOn_lawful b _

theorem start_lawful {b : Blend} {x : Source} {f : Nat} (hx : b.fromSrc ≠ x) (hf : 0 < f) (hf' : f ≤ 65535) :
    (b.start x f).lawful = true := blendLawful_iff.mpr (.inr ⟨hx, f, rfl, hf, hf'⟩)

theorem reversedCount_le (b : Blend) (f : Nat) : b.reversedCount f ≤ f := by
  have : (1024 - b.weight) * f ≤ 1024 * f := Nat.mul_le_mul_right f (Nat.sub_le _ _)
  unfold Blend.reversedCount
  omega

theorem reverse_lawful {b : Blend} {f : Nat} (out : Int) (fades : b.fromSrc ≠ b.toSrc) (hf : f ≤ 65535) :
    (b.reverse f out).lawful = true := by
  unfold Blend.reverse
  split
  · exact cut_lawful _ _ _
  · next short => exact blendLawful_iff.mpr (.inr ⟨fades.symm, f, rfl, lt_of_le_of_ne (reversedCount_le b f) short, hf⟩)

theorem fadeTo_lawful {b : Blend} {x : Source} {f : Nat} (out : Int) (h : b.lawful = true) (hf : f ≤ 65535) :
    (b.fadeTo x f out).lawful = true := by
  unfold Blend.fadeTo
  split
  · exact h
  · next other =>
    split
    · exact cut_lawful _ _ _
    · next positive =>
      split
      · next steady => exact start_lawful (fun same => other ⟨steady, same⟩) (Nat.pos_of_ne_zero positive) hf
      · next fades => exact reverse_lawful out (fading_iff.mp (Bool.not_eq_false _ ▸ fades)) hf

theorem handBack_lawful {b : Blend} {r : Nat} (out : Int) (h : b.lawful = true) (hr : 0 < r) (hr' : r ≤ 65535) :
    (b.handBack r out).lawful = true := by
  unfold Blend.handBack
  split
  · split
    · exact h
    · next player => exact start_lawful player hr hr'
  · next fades =>
    split
    · exact h
    · split
      · exact reverse_lawful out (fading_iff.mp (Bool.not_eq_false _ ▸ fades)) hr'
      · exact cut_lawful _ _ _

theorem complete_lawful (b : Blend) : b.complete.lawful = true := steadyOn_lawful b _

theorem completeIfDue_lawful {b : Blend} (h : b.lawful = true) : b.completeIfDue.lawful = true := by
  unfold Blend.completeIfDue
  split
  · exact complete_lawful b
  · exact h

/-- A fading record counts one frame, and completes before its count reaches its length (R36). -/
theorem progress_lawful {b : Blend} (h : b.lawful = true) : b.progress.lawful = true := by
  unfold Blend.progress
  split
  · next fades =>
    unfold Blend.completeIfDue
    split
    · exact complete_lawful _
    · next due =>
      rcases blendLawful_iff.mp h with ⟨steady, _⟩ | ⟨_, f, len, below, short⟩
      · exact absurd steady (fading_iff.mp fades)
      · refine blendLawful_iff.mpr (.inr ⟨fading_iff.mp fades, f, len, ?_, short⟩)
        have : b.k + 1 ≠ f := fun full => due ⟨fades, full ▸ len⟩
        show b.k + 1 < f
        omega
  · exact h

theorem route_fields (b : Blend) (c : AxisConfig) (v : Int) : (b.route c v).fromSrc = b.fromSrc ∧
    (b.route c v).toSrc = b.toSrc ∧ (b.route c v).k = b.k ∧ (b.route c v).len = b.len ∧ (b.route c v).mode = b.mode := by
  unfold Blend.route
  split
  · exact ⟨rfl, rfl, rfl, rfl, rfl⟩
  · split <;> exact ⟨rfl, rfl, rfl, rfl, rfl⟩

theorem track_fields (b : Blend) (out : Int) : (b.track out).fromSrc = b.fromSrc ∧ (b.track out).toSrc = b.toSrc ∧
    (b.track out).k = b.k ∧ (b.track out).len = b.len := by
  unfold Blend.track
  split <;> exact ⟨rfl, rfl, rfl, rfl⟩

/-! ### What a change of a record makes of L and the trim -/

/-- The record has the mode of `b`; its trim is that of `b` or 0, and its L that of `b` or `out`. -/
structure Blend.Near (b : Blend) (out : Int) (b' : Blend) : Prop where
  mode : b'.mode = b.mode
  trim : b'.trim = b.trim ∨ b'.trim = 0
  live : b'.live = b.live ∨ b'.live = out

theorem Blend.Near.refl (b : Blend) (out : Int) : b.Near out b := ⟨rfl, .inl rfl, .inl rfl⟩

theorem cut_near (b : Blend) (x : Source) (out : Int) : b.Near out (b.cut x out) := by
  cases x with
  | live => exact ⟨rfl, .inr rfl, .inr rfl⟩
  | playA | playB => exact ⟨rfl, .inl rfl, .inl rfl⟩

theorem start_near (b : Blend) (x : Source) (f : Nat) (out : Int) : b.Near out (b.start x f) := ⟨rfl, .inl rfl, .inl rfl⟩

theorem reverse_near (b : Blend) (f : Nat) (out : Int) : b.Near out (b.reverse f out) := by
  unfold Blend.reverse
  split
  · exact cut_near _ _ _
  · exact ⟨rfl, .inl rfl, .inl rfl⟩

theorem fadeTo_near (b : Blend) (x : Source) (f : Nat) (out : Int) : b.Near out (b.fadeTo x f out) := by
  unfold Blend.fadeTo
  split
  · exact .refl b out
  · split
    · exact cut_near _ _ _
    · split
      · exact start_near _ _ _ _
      · exact reverse_near _ _ _

theorem handBack_near (b : Blend) (r : Nat) (out : Int) : b.Near out (b.handBack r out) := by
  unfold Blend.handBack
  split
  · split
    · exact .refl b out
    · exact start_near _ _ _ _
  · split
    · exact .refl b out
    · split
      · exact reverse_near _ _ _
      · exact cut_near _ _ _

theorem completeIfDue_near (b : Blend) (out : Int) : b.Near out b.completeIfDue := by
  unfold Blend.completeIfDue Blend.complete
  split
  · refine ⟨rfl, ?_, .inl rfl⟩
    by_cases live : b.toSrc = .live
    · exact .inr (by simp [live])
    · exact .inl (by simp [live])
  · exact .refl b out

theorem progress_near (b : Blend) (out : Int) : b.Near out b.progress := by
  unfold Blend.progress
  split
  · obtain ⟨mode, trim, live⟩ := completeIfDue_near { b with k := b.k + 1 } out
    exact ⟨mode, trim, live⟩
  · exact .refl b out

theorem track_near (b : Blend) (out : Int) : b.Near out (b.track out) := by
  unfold Blend.track
  split
  · exact .refl b out
  · exact ⟨rfl, .inl rfl, .inr rfl⟩

theorem steadyLive_iff {b : Blend} : b.steadyLive = true ↔ b.fromSrc = .live ∧ b.toSrc = .live := by simp [Blend.steadyLive]

theorem completeIfDue_steadyLive {b : Blend} (h : b.steadyLive = true) : b.completeIfDue = b := by
  obtain ⟨hfrom, hto⟩ := steadyLive_iff.mp h
  simp [Blend.completeIfDue, Blend.fading, hfrom, hto]

/-! ### The laws of an axis, one by one -/

/-- The laws of an axis under its configuration record (R32, R52, R54, R181). -/
structure Axis.Under (a : Axis) (c : AxisConfig) : Prop where
  ok : c.ok = true
  mode : a.blend.mode = c.mode
  trim : a.blend.trim.natAbs ≤ c.trimMax
  out : a.enabled = true → c.inLimits a.out = true
  live : a.enabled = true → c.inLimits a.blend.live = true
  speed : a.enabled = true → a.vPrev.natAbs ≤ c.vmax
  miss : a.enabled = true → a.miss < c.missLimit

/-- The laws of an axis. -/
structure Axis.Laws (a : Axis) : Prop where
  record : a.cfg.isSome = a.configured
  cause : a.cause.isSome = decide (a.state = .fault)
  blend : a.blend.lawful = true
  steady : a.state = .active ∨ a.blend.steadyLive = true
  still : a.moving = true ∨ a.vPrev = 0
  under : ∀ c : AxisConfig, a.cfg = some c → a.Under c

theorem lawfulWith_iff {a : Axis} {c : AxisConfig} : a.lawfulWith c = true ↔ a.Under c := by
  simp only [Axis.lawfulWith, Bool.and_eq_true, Bool.or_eq_true, Bool.not_eq_true', decide_eq_true_eq]
  constructor
  · rintro ⟨⟨⟨ok, mode⟩, trim⟩, moving⟩
    have bounds := fun enabled : a.enabled = true => moving.resolve_left (by simp [enabled])
    exact ⟨ok, mode, trim, fun e => (bounds e).1.1.1, fun e => (bounds e).1.1.2, fun e => (bounds e).1.2, fun e => (bounds e).2⟩
  · rintro ⟨ok, mode, trim, out, live, speed, miss⟩
    refine ⟨⟨⟨ok, mode⟩, trim⟩, ?_⟩
    cases enabled : a.enabled with
    | false => exact .inl rfl
    | true => exact .inr ⟨⟨⟨out enabled, live enabled⟩, speed enabled⟩, miss enabled⟩

theorem axisLawful_iff {a : Axis} : a.lawful = true ↔ a.Laws := by
  simp only [Axis.lawful, Bool.and_eq_true, Bool.or_eq_true, decide_eq_true_eq]
  constructor
  · rintro ⟨⟨⟨⟨⟨record, cause⟩, blend⟩, steady⟩, still⟩, under⟩
    refine ⟨record, cause, blend, steady, still, fun c cfg => ?_⟩
    rw [cfg] at under
    exact lawfulWith_iff.mp under
  · rintro ⟨record, cause, blend, steady, still, under⟩
    refine ⟨⟨⟨⟨⟨record, cause⟩, blend⟩, steady⟩, still⟩, ?_⟩
    cases cfg : a.cfg with
    | none => rfl
    | some c => exact lawfulWith_iff.mpr (under c cfg)

theorem axesLawful_iff {s : State} : s.axesLawful = true ↔ s.geometry.ok = true ∧ ∀ i : Fin 8, (s.axis i).Laws := by
  simp [State.axesLawful, mem_allAxes, axisLawful_iff]

theorem inLimits_iff {c : AxisConfig} {x : Int} : c.inLimits x = true ↔ c.softMin ≤ x ∧ x ≤ c.softMax := by
  simp [AxisConfig.inLimits]

theorem softMin_lt {c : AxisConfig} (h : c.ok = true) : c.softMin < c.softMax := by
  simp only [AxisConfig.ok, Bool.and_eq_true, decide_eq_true_eq] at h
  tauto

theorem missLimit_pos {c : AxisConfig} (h : c.ok = true) : 0 < c.missLimit := by
  simp only [AxisConfig.ok, Bool.and_eq_true, within_iff] at h
  omega

/-- An axis has a record where it is not UNCONFIGURED. -/
theorem Axis.Laws.cfg_of_enabled {a : Axis} (h : a.Laws) (k : a.enabled = true) : ∃ c : AxisConfig, a.cfg = some c := by
  refine Option.isSome_iff_exists.mp (h.record.trans ?_)
  rcases enabled_iff.mp k with e | e | e <;> simp [Axis.configured, e]

/-- An axis that the states ACTIVE, STOPPING and HELD do not bind keeps the laws of its record. -/
theorem Axis.Under.of_disabled {a b : Axis} {c : AxisConfig} (h : a.Under c) (k : b.enabled = false)
    (mode : b.blend.mode = a.blend.mode) (trim : b.blend.trim = a.blend.trim) : b.Under c :=
  have no : ∀ {p : Prop}, b.enabled = true → p := fun e => absurd e (by simp [k])
  ⟨h.ok, mode.trans h.mode, trim ▸ h.trim, no, no, no, no⟩

/-- A change of the blend record alone. -/
theorem Axis.Laws.withBlend {a : Axis} {b : Blend} (h : a.Laws) (lawful : b.lawful = true)
    (steady : a.state = .active ∨ b.steadyLive = true) (near : a.blend.Near a.out b) : ({ a with blend := b } : Axis).Laws where
  record := h.record
  cause := h.cause
  blend := lawful
  steady := steady
  still := h.still
  under := fun c cfg => by
    have u := h.under c cfg
    refine ⟨u.ok, near.mode.trans u.mode, ?_, u.out, fun e => ?_, u.speed, u.miss⟩
    · rcases near.trim with same | zero
      · exact same ▸ u.trim
      · simp [zero]
    · rcases near.live with same | seated
      · exact same ▸ u.live e
      · exact seated ▸ u.out e

/-! ### Routing -/

theorem sat_bounds {lo hi : Int} (h : lo ≤ hi) (x : Int) : lo ≤ sat lo hi x ∧ sat lo hi x ≤ hi := by
  unfold sat
  split
  · exact ⟨le_refl _, h⟩
  · split <;> omega

/-- Routing keeps L within the soft limits and the trim within trim_max (R32). -/
theorem Axis.Laws.routed {a : Axis} {c : AxisConfig} (h : a.Laws) (cfg : a.cfg = some c) (v : Int)
    (active : a.state = .active) : ({ a with blend := a.blend.route c v } : Axis).Laws := by
  obtain ⟨hfrom, hto, hk, hlen, hmode⟩ := route_fields a.blend c v
  refine ⟨h.record, h.cause, lawful_of_fields h.blend hfrom hto hk hlen, .inl active, h.still, fun c' cfg' => ?_⟩
  cases cfg.symm.trans cfg'
  have u := h.under c cfg
  have live := sat_bounds (softMin_lt u.ok).le (a.blend.live + v)
  have trim := sat_bounds (by omega : -(c.trimMax : Int) ≤ c.trimMax) (a.blend.trim + v)
  refine ⟨u.ok, hmode.trans u.mode, ?_, u.out, fun e => ?_, u.speed, u.miss⟩
  · unfold Blend.route
    split
    · exact u.trim
    · split
      · show (sat _ _ _).natAbs ≤ c.trimMax
        omega
      · exact u.trim
  · unfold Blend.route
    split
    · exact inLimits_iff.mpr live
    · split <;> exact u.live e

/-! ### The limit chain and the stop ramp (R52 to R54, R65) -/

/-- The soft-limit clamp keeps the position within the limits, and lengthens no move that starts within them (R54). -/
theorem softStep_bounds {c : AxisConfig} {out : Int} (h : c.softMin < c.softMax) (inside : c.inLimits out = true) (vc : Int)
    (g : ClampFlags) : c.inLimits (softStep c out vc g).p = true ∧ ((softStep c out vc g).p - out).natAbs ≤ vc.natAbs := by
  have within := sat_bounds h.le (out + vc)
  rw [inLimits_iff] at inside ⊢
  refine ⟨within, ?_⟩
  show (sat _ _ _ - out).natAbs ≤ _
  unfold sat at within ⊢
  split
  · omega
  · split <;> omega

/-- The slowing band never speeds a move up nor turns it (R53). -/
theorem bandStep_natAbs {c : AxisConfig} {out : Int} (inside : c.inLimits out = true) (vc : Int) :
    (bandStep c out vc).natAbs ≤ vc.natAbs := by
  obtain ⟨low, high⟩ := inLimits_iff.mp inside
  have above : 0 ≤ floorDiv (c.vmax * (c.softMax - out)) c.band :=
    Int.fdiv_nonneg (Int.mul_nonneg (by omega) (by omega)) (by omega)
  have below : 0 ≤ floorDiv (c.vmax * (out - c.softMin)) c.band :=
    Int.fdiv_nonneg (Int.mul_nonneg (by omega) (by omega)) (by omega)
  unfold bandStep
  split
  · exact le_refl _
  · split
    · omega
    · split <;> omega

theorem speedStep_natAbs (c : AxisConfig) (vc : Int) : (speedStep c vc).natAbs ≤ c.vmax := by
  have := sat_bounds (by omega : -(c.vmax : Int) ≤ c.vmax) vc
  unfold speedStep
  omega

theorem rampStep_natAbs (c : AxisConfig) (v : Int) : (rampStep c v).natAbs ≤ v.natAbs := by
  unfold rampStep
  split
  · omega
  · split <;> omega

/-- What an enabled axis proposes lies within its limits and moves it by vmax at most (R52, R54, R65). -/
theorem propose_bounds {a : Axis} {c : AxisConfig} {cand : Int} {g : ClampFlags} {q : Proposal} (u : a.Under c)
    (cfg : a.cfg = some c) (h : a.propose cand g = some q) :
    a.moving = true ∧ c.inLimits q.p = true ∧ (q.p - a.out).natAbs ≤ c.vmax := by
  unfold Axis.propose at h
  simp only [cfg] at h
  have order := softMin_lt u.ok
  split at h
  · next state =>
    have enabled := enabled_iff.mpr (.inl state)
    cases h
    obtain ⟨inside, move⟩ := softStep_bounds order (u.out enabled)
      (bandStep c a.out (speedStep c (accelStep c a.vPrev (cand - a.out)))) _
    exact ⟨by simp [Axis.moving, state], inside,
      move.trans ((bandStep_natAbs (u.out enabled) _).trans (speedStep_natAbs c _))⟩
  · next state =>
    have enabled := enabled_iff.mpr (.inr (.inl state))
    cases h
    obtain ⟨inside, move⟩ := softStep_bounds order (u.out enabled) (rampStep c a.vPrev) { ClampFlags.none with stop := true }
    exact ⟨by simp [Axis.moving, state], inside, move.trans ((rampStep_natAbs c _).trans (u.speed enabled))⟩
  all_goals cases h

/-- A settled position within the limits and a settled move within vmax (R51, R66). -/
theorem Axis.Laws.settled {a : Axis} {c : AxisConfig} {p : Int} (h : a.Laws) (cfg : a.cfg = some c) (moving : a.moving = true)
    (inside : c.inLimits p = true) (move : (p - a.out).natAbs ≤ c.vmax) (g : ClampFlags) : (a.settle p g).Laws := by
  have u := h.under c cfg
  have state : a.state = .active ∨ a.state = .stopping := by simpa [Axis.moving] using moving
  have enabled : a.enabled = true := enabled_iff.mpr (by tauto)
  unfold Axis.settle
  by_cases rest : a.state = .stopping ∧ p = a.out
  · rw [if_pos rest]
    refine ⟨?_, ?_, h.blend, .inr (h.steady.resolve_left (by simp [rest.1])), .inr (by simp [rest.2]), fun c' cfg' => ?_⟩
    · simpa [Axis.configured, rest.1] using h.record
    · simpa [rest.1] using h.cause
    · cases cfg.symm.trans cfg'
      exact ⟨u.ok, u.mode, u.trim, fun _ => inside, fun _ => u.live enabled, fun _ => move, fun _ => u.miss enabled⟩
  · rw [if_neg rest]
    refine ⟨h.record, h.cause, h.blend, h.steady, .inl moving, fun c' cfg' => ?_⟩
    cases cfg.symm.trans cfg'
    exact ⟨u.ok, u.mode, u.trim, fun _ => inside, fun _ => u.live enabled, fun _ => move, fun _ => u.miss enabled⟩

theorem Axis.Laws.limited {a : Axis} (h : a.Laws) (hold : Bool) (cand : Int) (g : ClampFlags) :
    (a.limited hold (a.propose cand g)).Laws := by
  unfold Axis.limited
  split
  · next q proposed =>
    cases cfg : a.cfg with
    | none => simp [Axis.propose, cfg] at proposed
    | some c =>
      have u := h.under c cfg
      obtain ⟨moving, inside, move⟩ := propose_bounds u cfg proposed
      split
      · refine h.settled cfg moving (u.out (enabled_iff.mpr ?_)) (by simp) _
        have state : a.state = .active ∨ a.state = .stopping := by simpa [Axis.moving] using moving
        tauto
      · exact h.settled cfg moving inside move _
  · split
    · next held =>
      refine ⟨h.record, h.cause, h.blend, h.steady, .inr rfl, fun c cfg => ?_⟩
      have u := h.under c cfg
      exact ⟨u.ok, u.mode, u.trim, u.out, u.live, fun _ => Nat.zero_le _, u.miss⟩
    · exact h

/-! ### Changes of state -/

/-- An axis that leaves ACTIVE, STOPPING or HELD is bound no more, and its record is steady on LIVE (R175). -/
theorem Axis.Laws.gone {a : Axis} {st : AxisState} {n : Nat} {cause : Option FaultCause} (h : a.Laws) (enabled : a.enabled = true)
    (off : st = .disabled ∨ st = .fault) (told : cause.isSome = decide (st = .fault)) :
    ({ ({ a with miss := n } : Axis).left st with cause := cause } : Axis).Laws := by
  have steady : (({ a with miss := n } : Axis).left st).blend.steadyLive = true ∧
      (({ a with miss := n } : Axis).left st).blend.lawful = true ∧
      (({ a with miss := n } : Axis).left st).blend.mode = a.blend.mode ∧
      (({ a with miss := n } : Axis).left st).blend.trim = a.blend.trim := by
    by_cases active : a.state = .active
    · rw [Axis.left, if_pos active]
      exact ⟨rfl, steadyOn_lawful a.blend .live, rfl, rfl⟩
    · rw [Axis.left, if_neg active]
      exact ⟨h.steady.resolve_left active, h.blend, rfl, rfl⟩
  obtain ⟨live, lawful, mode, trim⟩ := steady
  obtain ⟨c, cfg⟩ := h.cfg_of_enabled enabled
  refine ⟨?_, told, lawful, .inr live, .inr rfl, fun c' cfg' => ?_⟩
  · rcases off with rfl | rfl <;> simp [Axis.left, Axis.configured, cfg]
  · cases cfg.symm.trans cfg'
    refine (h.under c cfg).of_disabled ?_ mode trim
    rcases off with rfl | rfl <;> rfl

theorem Axis.Laws.cascaded {a : Axis} (h : a.Laws) : a.cascaded.Laws := by
  unfold Axis.cascaded
  split
  · next configured =>
    have enabled : ∀ b : Blend,
        ({ a with state := if a.state = .active then .stopping else a.state, blend := b } : Axis).enabled = a.enabled := fun b => by
      by_cases active : a.state = .active <;> simp [Axis.enabled, active]
    refine ⟨?_, ?_, steadyOn_lawful a.blend .live, .inr rfl, ?_, fun c cfg => ?_⟩
    · have stays : (if a.state = .active then AxisState.stopping else a.state) ≠ .unconfigured := by
        split
        · decide
        · simpa [Axis.configured] using configured
      rw [show a.cfg.isSome = true from h.record.trans configured]
      simp [Axis.configured, stays]
    · rw [h.cause]
      by_cases active : a.state = .active <;> simp [active]
    · rcases h.still with moving | still
      · left
        have state : a.state = .active ∨ a.state = .stopping := by simpa [Axis.moving] using moving
        rcases state with active | stopping <;> simp [Axis.moving, *]
      · exact .inr still
    · have u := h.under c cfg
      refine ⟨u.ok, u.mode, u.trim, ?_, ?_, ?_, ?_⟩ <;> rw [enabled]
      · exact u.out
      · exact u.out
      · exact u.speed
      · exact u.miss
  · exact h

theorem Axis.Laws.configured {a : Axis} {c : AxisConfig} (h : a.Laws)
    (free : a.state = .unconfigured ∨ a.state = .disabled) (good : c.ok = true) : (a.configure c).Laws := by
  have still : a.vPrev = 0 := h.still.resolve_left (by rcases free with e | e <;> simp [Axis.moving, e])
  have cause : a.cause.isSome = false := by
    rw [h.cause]
    rcases free with e | e <;> simp [e]
  rcases free with unconfigured | disabled
  · rw [configure_unconfigured unconfigured]
    refine ⟨rfl, by simp [cause], steadyOn_lawful a.blend .live, .inr rfl, .inr still, fun c' cfg' => ?_⟩
    cases cfg'
    exact ⟨good, rfl, Nat.zero_le _, (nomatch ·), (nomatch ·), (nomatch ·), (nomatch ·)⟩
  · rw [configure_disabled disabled]
    have off : ∀ b : Axis, b.state = .disabled → ∀ {p : Prop}, b.enabled = true → p := fun b e p k => by
      simp [Axis.enabled, e] at k
    refine ⟨by simp [Axis.configured, disabled], by simp [cause, disabled], steadyOn_lawful a.blend .live, .inr rfl, .inr still,
      fun c' cfg' => ?_⟩
    cases cfg'
    exact ⟨good, rfl, Nat.zero_le _, off _ disabled, off _ disabled, off _ disabled, off _ disabled⟩

/-- The seated axis stands at its actual position, within its limits (R176, R177). -/
theorem Axis.Laws.seated {s : State} {i : Fin 8} (h : (s.axis i).Laws) (pass : enableCheck s i = .ok) :
    (s.axis i).seated.Laws := by
  unfold enableCheck at pass
  simp only at pass
  split at pass
  · cases pass
  · next disabled =>
    split at pass
    · next x c actual cfg =>
      split at pass
      · cases pass
      · next noMiss =>
        split at pass
        · cases pass
        · split at pass
          · cases pass
          · next inside =>
            have u := h.under c cfg
            have limits : c.inLimits x = true := inLimits_iff.mpr (by omega)
            have cause : (s.axis i).cause.isSome = false := by
              rw [h.cause]
              simp [not_not.mp disabled]
            refine ⟨by simp [Axis.seated, Axis.configured, cfg], by simp [Axis.seated, cause],
              steadyOn_lawful (s.axis i).blend .live, .inl rfl, .inr rfl, fun c' cfg' => ?_⟩
            cases cfg.symm.trans cfg'
            refine ⟨u.ok, u.mode, Nat.zero_le _, fun _ => ?_, fun _ => ?_, fun _ => Nat.zero_le _, fun _ => ?_⟩
            · simpa [Axis.seated, actual] using limits
            · simpa [Axis.seated, Blend.seat, actual] using limits
            · exact not_not.mp noMiss ▸ missLimit_pos u.ok
    · cases pass

theorem Axis.Laws.answered {a : Axis} (h : a.Laws) (x : Int) (st : DriveStatus) : (a.answeredBy x st).Laws := by
  unfold Axis.answeredBy
  simp only
  split
  · refine ⟨h.record, h.cause, h.blend, h.steady, h.still, fun c cfg => ?_⟩
    have u := h.under c cfg
    exact ⟨u.ok, u.mode, u.trim, u.out, u.live, u.speed, fun _ => missLimit_pos u.ok⟩
  · next off =>
    refine ⟨h.record, h.cause, h.blend, h.steady, .inr rfl, fun c cfg => ?_⟩
    exact (h.under c cfg).of_disabled (Bool.eq_false_iff.mpr off) rfl rfl

/-- A missed reply that leaves the drive short of silent (R181). -/
theorem Axis.Laws.missed {a : Axis} (h : a.Laws) (heard : a.missed.silent = false) : a.missed.Laws := by
  refine ⟨h.record, h.cause, h.blend, h.steady, h.still, fun c cfg => ?_⟩
  have u := h.under c cfg
  refine ⟨u.ok, u.mode, u.trim, u.out, u.live, u.speed, fun enabled => ?_⟩
  have cfg' : a.missed.cfg = some c := cfg
  simpa [Axis.silent, enabled, cfg'] using heard

theorem Axis.Laws.resumed {a : Axis} (h : a.Laws) : a.resumed.Laws := by
  unfold Axis.resumed
  split
  · next held =>
    have enabled : a.enabled = true := enabled_iff.mpr (.inr (.inr held))
    refine ⟨?_, ?_, h.blend, .inl rfl, .inr rfl, fun c cfg => ?_⟩
    · simpa [Axis.configured, held] using h.record
    · simpa [held] using h.cause
    · have u := h.under c cfg
      exact ⟨u.ok, u.mode, u.trim, fun _ => u.out enabled, fun _ => u.live enabled, fun _ => Nat.zero_le _, fun _ => u.miss enabled⟩
  · exact h

/-- No change of an axis breaks its laws. -/
theorem AxisChange.laws {s : State} {i : Fin 8} {a : Axis} (geometry : s.geometry.ok = true) (h : (s.axis i).Laws)
    (change : AxisChange s i a) : a.Laws := by
  cases change with
  | same => exact h
  | faded x f pass short =>
    have active : (s.axis i).state = .active := by
      by_contra other
      simp [fadeCheck, other] at pass
    exact h.withBlend (fadeTo_lawful _ h.blend short) (.inl active) (fadeTo_near _ _ _ _)
  | handedBack active =>
    obtain ⟨_, _, _, _, _, frames⟩ := geometryOk_iff.mp geometry
    exact h.withBlend (handBack_lawful _ h.blend (by omega) (by omega)) (.inl active) (handBack_near _ _ _)
  | dropped => exact h.withBlend (cut_lawful _ _ _) (.inr rfl) (cut_near _ _ _)
  | completed =>
    refine h.withBlend (completeIfDue_lawful h.blend) (h.steady.imp_right fun live => ?_) (completeIfDue_near _ _)
    rwa [completeIfDue_steadyLive live]
  | blended b active routed =>
    rcases routed with rfl | ⟨c, v, cfg, rfl⟩
    · exact h.withBlend (progress_lawful h.blend) (.inl active) (progress_near _ _)
    · have r := h.routed cfg v active
      exact r.withBlend (progress_lawful r.blend) (.inl active) (progress_near _ _)
  | limited hold cand f => exact h.limited hold cand f
  | tracked =>
    obtain ⟨hfrom, hto, hk, hlen⟩ := track_fields (s.axis i).blend (s.axis i).out
    refine h.withBlend (lawful_of_fields h.blend hfrom hto hk hlen) (h.steady.imp_right fun live => ?_) (track_near _ _)
    rw [steadyLive_iff] at live ⊢
    exact ⟨hfrom.trans live.1, hto.trans live.2⟩
  | cascaded => exact h.cascaded
  | disabled enabled =>
    refine h.gone (n := (s.axis i).miss) (cause := (s.axis i).cause) enabled (.inl rfl) ?_
    rw [h.cause]
    rcases enabled_iff.mp enabled with e | e | e <;> simp [e]
  | faulted n c enabled => exact h.gone enabled (.inr rfl) rfl
  | seated pass => exact h.seated pass
  | configured c free good => exact h.configured free good
  | unconfigured disabled =>
    refine ⟨rfl, rfl, rfl, .inr rfl, .inr (h.still.resolve_left (by simp [Axis.moving, disabled])), fun c cfg => nomatch cfg⟩
  | answered x st => exact h.answered x st
  | missed heard => exact h.missed heard
  | sent out => exact ⟨h.record, h.cause, h.blend, h.steady, h.still, fun c cfg => by
      have u := h.under c cfg
      exact ⟨u.ok, u.mode, u.trim, u.out, u.live, u.speed, u.miss⟩⟩
  | cleared fault =>
    refine ⟨?_, rfl, h.blend, .inr (h.steady.resolve_left (by simp [fault])), ?_, fun c cfg =>
      (h.under c cfg).of_disabled rfl rfl rfl⟩
    · simpa [Axis.configured, fault] using h.record
    · exact .inr (h.still.resolve_left (by simp [Axis.moving, fault]))
  | resumed => exact h.resumed

theorem reset_laws : Axis.reset.Laws := axisLawful_iff.mp (by decide)

/-- No change breaks the laws of the axes. -/
theorem Change.axesLawful {f : Bool} {s t : State} (change : Change f s t) (h : s.axesLawful = true) : t.axesLawful = true := by
  have same : ∀ {u : State}, u.axes = s.axes → u.geometry = s.geometry → u.axesLawful = true := fun axes geometry => by
    simp only [State.axesLawful, State.axis, axes, geometry]
    exact h
  obtain ⟨geometry, laws⟩ := axesLawful_iff.mp h
  cases change with
  | aside h => exact same h.axes h.geometry
  | geometry good => exact axesLawful_iff.mpr ⟨good, laws⟩
  | axes each => exact axesLawful_iff.mpr ⟨geometry, fun i => (each i).laws geometry (laws i)⟩
  | port => exact same rfl rfl
  | player p | fetch p | outcome | releasing p | idle p => exact same (setPlayer_axes _ _ _) (setPlayer_geometry _ _ _)
  | reset axes geometry =>
    refine axesLawful_iff.mpr ⟨geometry ▸ by decide, fun i => ?_⟩
    have reset : t.axis i = Axis.reset := by rw [State.axis, axes, ← reset_axis i, State.axis]
    rw [reset]
    exact reset_laws

theorem step_steps {s t : State} (h : step s = .next t) : Steps { s with pending := s.pending.tail } t := by
  have ends : ∀ {u : State} {o : Host.Outcome State Fault Refusal}, Completes u o → o = .next t → Steps u t :=
    fun {u o} done eq => by
      obtain ⟨v, rfl, steps⟩ := done
      cases eq
      exact steps
  unfold step at h
  split at h
  · next c rest queue =>
    rw [queue]
    exact ends (exec_completes _ _) h
  · next queue =>
    have drained : { s with pending := s.pending.tail } = s := by
      cases s
      simp_all
    rw [drained]
    exact ends (idle_completes s) h

/-- Settles O8: a step is made of changes, and none of them breaks the laws of the axes. -/
theorem stepKeepsAxesLawful : Obligations.StepKeepsAxesLawful := fun _ _ lawful stepped =>
  (step_steps stepped).changes.keep (P := fun u => u.axesLawful = true) Change.axesLawful lawful

end Sys2Proof.Machine
end

section
/-! The law of the players and of the records that name them (R24, R28, R105): no record comes to name a player that gives no
position for its axis. -/

namespace Sys2Proof.Machine

/-! ### Whom a record names -/

theorem names_iff {b : Blend} {x : Source} : b.names x = true ↔ b.fromSrc = x ∨ b.toSrc = x := by simp [Blend.names]

theorem source_ne_live (p : PlayerId) : p.source ≠ .live := by cases p <;> decide

theorem player?_source (p : PlayerId) : p.source.player? = some p := by cases p <;> rfl

/-- Beside LIVE and `x`, the record names no source that `b` does not. -/
structure Blend.NamesWithin (b : Blend) (x : Source) (b' : Blend) : Prop where
  fromSrc : b'.fromSrc = .live ∨ b'.fromSrc = x ∨ b.names b'.fromSrc = true
  toSrc : b'.toSrc = .live ∨ b'.toSrc = x ∨ b.names b'.toSrc = true

theorem Blend.NamesWithin.of_same {b b' : Blend} (x : Source) (hfrom : b'.fromSrc = b.fromSrc) (hto : b'.toSrc = b.toSrc) :
    b.NamesWithin x b' :=
  ⟨.inr (.inr (names_iff.mpr (.inl hfrom.symm))), .inr (.inr (names_iff.mpr (.inr hto.symm)))⟩

theorem Blend.NamesWithin.names {b b' : Blend} {x : Source} {p : PlayerId} (h : b.NamesWithin x b')
    (named : b'.names p.source = true) : p.source = x ∨ b.names p.source = true := by
  have one : ∀ y : Source, y = p.source → (y = .live ∨ y = x ∨ b.names y = true) → p.source = x ∨ b.names p.source = true :=
    fun y e k => by
      rw [e] at k
      exact k.resolve_left (source_ne_live p)
  rcases names_iff.mp named with e | e
  · exact one _ e h.fromSrc
  · exact one _ e h.toSrc

theorem cut_namesWithin (b : Blend) (x : Source) (out : Int) : b.NamesWithin x (b.cut x out) := by
  cases x <;> exact ⟨.inr (.inl rfl), .inr (.inl rfl)⟩

theorem start_namesWithin (b : Blend) (x : Source) (f : Nat) : b.NamesWithin x (b.start x f) :=
  ⟨.inr (.inr (names_iff.mpr (.inl rfl))), .inr (.inl rfl)⟩

theorem reverse_namesWithin (b : Blend) (x : Source) (f : Nat) (out : Int) : b.NamesWithin x (b.reverse f out) := by
  unfold Blend.reverse
  split
  · have onto : (b.cut b.fromSrc out).fromSrc = b.fromSrc ∧ (b.cut b.fromSrc out).toSrc = b.fromSrc := by
      cases b.fromSrc <;> exact ⟨rfl, rfl⟩
    exact ⟨.inr (.inr (names_iff.mpr (.inl onto.1.symm))), .inr (.inr (names_iff.mpr (.inl onto.2.symm)))⟩
  · exact ⟨.inr (.inr (names_iff.mpr (.inr rfl))), .inr (.inr (names_iff.mpr (.inl rfl)))⟩

theorem fadeTo_namesWithin (b : Blend) (x : Source) (f : Nat) (out : Int) : b.NamesWithin x (b.fadeTo x f out) := by
  unfold Blend.fadeTo
  split
  · exact .of_same x rfl rfl
  · split
    · exact cut_namesWithin b x out
    · split
      · exact start_namesWithin b x f
      · exact reverse_namesWithin b x f out

theorem handBack_namesWithin (b : Blend) (r : Nat) (out : Int) : b.NamesWithin .live (b.handBack r out) := by
  unfold Blend.handBack
  split
  · split
    · exact .of_same _ rfl rfl
    · exact start_namesWithin b _ r
  · split
    · exact .of_same _ rfl rfl
    · split
      · exact reverse_namesWithin b _ r out
      · exact cut_namesWithin b _ out

theorem completeIfDue_namesWithin (b : Blend) : b.NamesWithin .live b.completeIfDue := by
  unfold Blend.completeIfDue
  split
  · exact ⟨.inr (.inr (names_iff.mpr (.inr rfl))), .inr (.inr (names_iff.mpr (.inr rfl)))⟩
  · exact .of_same _ rfl rfl

theorem progress_namesWithin (b : Blend) : b.NamesWithin .live b.progress := by
  unfold Blend.progress
  split
  · obtain ⟨hfrom, hto⟩ := completeIfDue_namesWithin { b with k := b.k + 1 }
    exact ⟨hfrom, hto⟩
  · exact .of_same _ rfl rfl

/-- A change of an axis has it name a player anew only by a FADE, whose checks the player has passed (R38). -/
theorem AxisChange.names {s : State} {i : Fin 8} {a : Axis} {p : PlayerId} (change : AxisChange s i a)
    (named : a.blend.names p.source = true) : (s.axis i).blend.names p.source = true ∨
      ((s.player p).fadable = true ∧ (s.player p).covers i = true) := by
  have kept : ∀ {b : Blend}, (s.axis i).blend.NamesWithin .live b → b.names p.source = true →
      (s.axis i).blend.names p.source = true := fun h k => (h.names k).resolve_left (source_ne_live p)
  have cleared : ∀ {b : Blend}, b.fromSrc = .live → b.toSrc = .live → b.names p.source = true →
      (s.axis i).blend.names p.source = true := fun hfrom hto k => kept ⟨.inl hfrom, .inl hto⟩ k
  cases change with
  | same => exact .inl named
  | faded x f pass =>
    refine ((fadeTo_namesWithin _ x f _).names named).symm.imp_right fun target => ?_
    subst target
    unfold fadeCheck at pass
    simp only [player?_source] at pass
    split at pass
    · cases pass
    · split at pass
      · cases pass
      · next fadable =>
        split at pass
        · cases pass
        · next covers => exact ⟨by simpa using fadable, by simpa using covers⟩
  | handedBack => exact .inl (kept (handBack_namesWithin _ _ _) named)
  | dropped => exact .inl (cleared rfl rfl named)
  | completed => exact .inl (kept (completeIfDue_namesWithin _) named)
  | blended b _ routed =>
    have within := (progress_namesWithin b).names named |>.resolve_left (source_ne_live p)
    rcases routed with rfl | ⟨c, v, _, rfl⟩
    · exact .inl within
    · obtain ⟨hfrom, hto, _⟩ := route_fields (s.axis i).blend c v
      exact .inl (kept (.of_same _ hfrom hto) within)
  | limited hold cand g =>
    refine .inl ?_
    have same : ((s.axis i).limited hold ((s.axis i).propose cand g)).blend = (s.axis i).blend := by
      unfold Axis.limited
      split
      · split <;> rfl
      · split <;> rfl
    rwa [same] at named
  | tracked =>
    obtain ⟨hfrom, hto, _⟩ := track_fields (s.axis i).blend (s.axis i).out
    exact .inl (kept (.of_same _ hfrom hto) named)
  | cascaded =>
    unfold Axis.cascaded at named
    split at named
    · exact .inl (cleared rfl rfl named)
    · exact .inl named
  | disabled | faulted =>
    unfold Axis.left at named
    simp only at named
    split at named
    · exact .inl (cleared rfl rfl named)
    · exact .inl named
  | seated => exact .inl (cleared rfl rfl named)
  | configured c free =>
    rcases free with e | e
    · rw [configure_unconfigured e] at named
      exact .inl (cleared rfl rfl named)
    · rw [configure_disabled e] at named
      exact .inl (cleared rfl rfl named)
  | unconfigured => exact .inl (cleared rfl rfl named)
  | answered =>
    unfold Axis.answeredBy at named
    simp only at named
    split at named <;> exact .inl named
  | missed | sent | cleared => exact .inl named
  | resumed =>
    unfold Axis.resumed at named
    split at named <;> exact .inl named

/-! ### The law of a player -/

/-- The law of a player's record (R105, R125). -/
structure Player.Laws (r : Player) : Prop where
  published : r.startKey.isSome = true → r.published.isSome = true
  filled : r.filled = true → r.startKey.isSome = true
  idle : r.state = .idle → r.filled = false ∧ r.startKey = none ∧ r.move = none ∧ r.fifo = []

theorem playerLawful_iff {r : Player} : r.lawful = true ↔ r.Laws := by
  simp only [Player.lawful, Bool.and_eq_true, Bool.or_eq_true, Option.isNone_iff_eq_none, Bool.not_eq_true', decide_eq_true_eq]
  constructor
  · rintro ⟨⟨published, filled⟩, idle⟩
    refine ⟨fun start => published.resolve_left fun e => ?_, fun full => filled.resolve_left (by simp [full]), fun e => ?_⟩
    · simp [e] at start
    · obtain ⟨⟨⟨a, b⟩, c⟩, d⟩ := idle.resolve_left (not_not.mpr e)
      exact ⟨a, b, c, d⟩
  · rintro ⟨published, filled, idle⟩
    refine ⟨⟨?_, ?_⟩, ?_⟩
    · cases start : r.startKey with
      | none => exact .inl rfl
      | some k => exact .inr (published (by simp [start]))
    · cases full : r.filled with
      | false => exact .inl rfl
      | true => exact .inr (filled full)
    · by_cases e : r.state = .idle
      · obtain ⟨a, b, c, d⟩ := idle e
        exact .inr ⟨⟨⟨a, b⟩, c⟩, d⟩
      · exact .inl e

theorem playerGives_iff {r : Player} {i : Fin 8} : r.gives i = true ↔
    r.state ≠ .idle ∧ r.filled = true ∧ r.published.isSome = true ∧ r.covers i = true := by
  simp [Player.gives, and_assoc]

/-- A player lawful before is lawful after, and gives a position for every axis that it gave one for. -/
structure Player.Outlasts (r r' : Player) : Prop where
  laws : r'.Laws
  gives : ∀ i : Fin 8, r.gives i = true → r'.gives i = true

/-- A lawful player that keeps its keys, its positions and its mask goes on giving them while it is not IDLE. -/
theorem Player.Laws.outlasts {r r' : Player} (h : r.Laws) (state : r'.state ≠ .idle) (start : r'.startKey = r.startKey)
    (filled : r'.filled = r.filled) (published : r'.published = r.published) (mask : r'.mask = r.mask) : r.Outlasts r' where
  laws := ⟨by rw [start, published]; exact h.published, by rw [filled, start]; exact h.filled, fun e => absurd e state⟩
  gives := fun i gave => by
    obtain ⟨_, full, pos, covers⟩ := playerGives_iff.mp gave
    have covers' : r'.covers i = true := by rw [← covers, Player.covers, Player.covers, mask]
    exact playerGives_iff.mpr ⟨state, filled.trans full, published ▸ pos, covers'⟩

/-- An IDLE player gives nothing, so any lawful record may follow it. -/
theorem Player.Laws.outlasts_idle {r r' : Player} (h : r'.Laws) (idle : r.state = .idle) : r.Outlasts r' :=
  ⟨h, fun _ gave => absurd idle (playerGives_iff.mp gave).1⟩

theorem advance_state (r : Player) (time : Nat) (k0 k1 : PlayerKey) (h : r.state ≠ .idle) :
    (r.advance time k0 k1).state ≠ .idle := by
  unfold Player.advance
  split
  · exact h
  · show (if r.keysRemain then PlayerState.starved else .ended) ≠ .idle
    split <;> decide

/-- A player that advances keeps a start key and a published position (R114). -/
theorem Player.Outlasts.advanced {r : Player} (time : Nat) (k0 k1 : PlayerKey) (h : r.state ≠ .idle) :
    r.Outlasts (r.advance time k0 k1) := by
  have fields : (r.advance time k0 k1).startKey.isSome = true ∧ (r.advance time k0 k1).published.isSome = true ∧
      (r.advance time k0 k1).filled = r.filled ∧ (r.advance time k0 k1).mask = r.mask := by
    unfold Player.advance
    split <;> exact ⟨rfl, rfl, rfl, rfl⟩
  obtain ⟨start, published, filled, mask⟩ := fields
  have state := advance_state r time k0 k1 h
  refine ⟨⟨fun _ => published, fun _ => start, fun e => absurd e state⟩, fun i gave => ?_⟩
  obtain ⟨_, full, _, covers⟩ := playerGives_iff.mp gave
  have covers' : (r.advance time k0 k1).covers i = true := by rw [← covers, Player.covers, Player.covers, mask]
  exact playerGives_iff.mpr ⟨state, filled.trans full, published, covers'⟩

theorem runState_ne_idle (r : Player) : r.runState ≠ .idle := by
  unfold Player.runState
  split <;> decide

theorem PlayerChange.outlasts {r r' : Player} (h : r.Laws) (change : PlayerChange r r') : r.Outlasts r' := by
  cases change with
  | rated n b =>
    by_cases idle : r.state = .idle
    · exact Player.Laws.outlasts_idle ⟨h.published, h.filled, h.idle⟩ idle
    · exact h.outlasts idle rfl rfl rfl rfl
  | ran => exact h.outlasts (runState_ne_idle r) rfl rfl rfl rfl
  | paused | faulted => exact h.outlasts (nomatch ·) rfl rfl rfl rfl
  | loaded m e n idle => exact Player.Laws.outlasts_idle ⟨(nomatch ·), (nomatch ·), (nomatch ·)⟩ idle
  | gone k x n outs idle => exact Player.Laws.outlasts_idle ⟨fun _ => rfl, fun _ => rfl, (nomatch ·)⟩ idle
  | advanced time k0 k1 running => exact .advanced time k0 k1 (by simp [running])
  | discarded =>
    by_cases idle : r.state = .idle
    · exact Player.Laws.outlasts_idle ⟨h.published, h.filled, h.idle⟩ idle
    · exact h.outlasts idle rfl rfl rfl rfl

theorem fetches_iff {r : Player} : r.fetches = true ↔
    r.state = .loaded ∨ r.state = .running ∨ r.state = .paused ∨ r.state = .starved := by simp [Player.fetches]

theorem place_state {r : Player} (h : r.state ≠ .idle) (i : Nat) (k : Key) (n : Option (Nat × Nat)) :
    (r.place i k n).state ≠ .idle := by
  unfold Player.place
  simp only
  split
  · exact h
  · show (if r.state = .starved then PlayerState.running else r.state) ≠ .idle
    split
    · decide
    · exact h
  · exact h

/-- A player whose key is placed has its start key and a published position (R105, R108). -/
theorem Player.Laws.placed {r : Player} (h : r.Laws) (fetching : r.fetches = true) (index : Nat) (k : Key)
    (next : Option (Nat × Nat)) : r.Outlasts (r.place index k next) := by
  have awake : r.state ≠ .idle := fun e => by simp [Player.fetches, e] at fetching
  have state := place_state awake index k next
  have fields : (r.place index k next).startKey.isSome = true ∧ (r.place index k next).published.isSome = true ∧
      (r.filled = true → (r.place index k next).filled = true) ∧ (r.place index k next).mask = r.mask := by
    unfold Player.place
    simp only
    split
    · exact ⟨rfl, rfl, id, rfl⟩
    · next start _ => exact ⟨by simp [start], h.published (by simp [start]), fun _ => rfl, rfl⟩
    · next start _ => exact ⟨by simp [start], h.published (by simp [start]), id, rfl⟩
  obtain ⟨start, published, filled, mask⟩ := fields
  refine ⟨⟨fun _ => published, fun _ => start, fun e => absurd e state⟩, fun i gave => ?_⟩
  obtain ⟨_, full, _, covers⟩ := playerGives_iff.mp gave
  have covers' : (r.place index k next).covers i = true := by rw [← covers, Player.covers, Player.covers, mask]
  exact playerGives_iff.mpr ⟨state, filled full, published, covers'⟩

theorem FetchOutcome.outlasts {f : Bool} {r r' : Player} {index : Nat} (h : r.Laws) (outcome : FetchOutcome f r index r') :
    r.Outlasts r' := by
  have quiet : ∀ {x : Player}, x.state = r.state → x.startKey = r.startKey → x.filled = r.filled → x.published = r.published →
      x.mask = r.mask → x.move = r.move → x.fifo = r.fifo → r.Outlasts x := fun {x} state start filled published mask move fifo => by
    by_cases idle : r.state = .idle
    · refine Player.Laws.outlasts_idle ⟨?_, ?_, fun _ => ?_⟩ idle
      · rw [start, published]; exact h.published
      · rw [start, filled]; exact h.filled
      · rw [start, filled, move, fifo]; exact h.idle idle
    · exact h.outlasts (state ▸ idle) start filled published mask
  cases outcome with
  | discarded | deferred => exact quiet rfl rfl rfl rfl rfl rfl rfl
  | faulted => exact h.outlasts (nomatch ·) rfl rfl rfl rfl
  | placed k next fetching => exact h.placed fetching index k next

/-! ### The law of the players and the records -/

/-- The laws of player `p` and of the records that name it (R24). -/
structure State.PlayerLaws (s : State) (p : PlayerId) : Prop where
  laws : (s.player p).Laws
  gives : ∀ i : Fin 8, (s.axis i).blend.names p.source = true → (s.player p).gives i = true

theorem playersLawful_iff {s : State} : s.playersLawful = true ↔ ∀ p : PlayerId, s.PlayerLaws p := by
  have named : ∀ (p : PlayerId) (i : Fin 8), (!(s.axis i).blend.names p.source || (s.player p).gives i) = true ↔
      ((s.axis i).blend.names p.source = true → (s.player p).gives i = true) := fun p i => by
    cases (s.axis i).blend.names p.source <;> simp
  simp only [State.playersLawful, Bool.and_eq_true, List.all_eq_true, playerLawful_iff]
  constructor
  · rintro ⟨⟨a, b⟩, each⟩ p
    cases p with
    | a => exact ⟨a, fun i => (named .a i).mp (each i (mem_allAxes i)).1⟩
    | b => exact ⟨b, fun i => (named .b i).mp (each i (mem_allAxes i)).2⟩
  · intro h
    exact ⟨⟨(h .a).laws, (h .b).laws⟩, fun i _ => ⟨(named .a i).mpr ((h .a).gives i), (named .b i).mpr ((h .b).gives i)⟩⟩

/-- A FADE's target gives a position for every axis that its checks have let pass (R38). -/
theorem gives_of_fadable {r : Player} {i : Fin 8} (h : r.Laws) (fadable : r.fadable = true) (covers : r.covers i = true) :
    r.gives i = true := by
  simp only [Player.fadable, Bool.and_eq_true, decide_eq_true_eq] at fadable
  obtain ⟨state, filled⟩ := fadable
  refine playerGives_iff.mpr ⟨fun idle => ?_, filled, h.published (h.filled filled), covers⟩
  rw [idle] at state
  simp at state

theorem State.PlayerLaws.outlasts {s t : State} {p : PlayerId} (h : s.PlayerLaws p) (axes : t.axes = s.axes)
    (k : (s.player p).Outlasts (t.player p)) : t.PlayerLaws p where
  laws := k.laws
  gives := fun i named => k.gives i (h.gives i (by rwa [State.axis, axes] at named))

theorem State.PlayerLaws.same {s t : State} {p : PlayerId} (h : s.PlayerLaws p) (axes : t.axes = s.axes)
    (player : t.player p = s.player p) : t.PlayerLaws p :=
  h.outlasts axes ⟨player ▸ h.laws, fun _ => player ▸ id⟩

/-- No change breaks the law of the players and the records. -/
theorem Change.playerLaws {f : Bool} {s t : State} {q : PlayerId} (change : Change f s t) (h : s.PlayerLaws q) :
    t.PlayerLaws q := by
  have one : ∀ {u : State} {p : PlayerId} {r : Player}, u.axes = s.axes → u.player q = s.player q →
      (q = p → (s.player q).Outlasts r) → (u.setPlayer p r).PlayerLaws q := fun {u p r} axes same own => by
    refine h.outlasts ((setPlayer_axes _ _ _).trans axes) ?_
    refine setPlayer_player_cases (P := (s.player q).Outlasts) own ?_
    rw [same]
    exact ⟨h.laws, fun _ => id⟩
  cases change with
  | aside k => exact h.same k.axes (player_of k.playerA k.playerB q)
  | geometry | port => exact h.same rfl (by cases q <;> rfl)
  | @axes v each =>
    have player : ({ s with axes := v } : State).player q = s.player q := by cases q <;> rfl
    refine ⟨player ▸ h.laws, fun i named => ?_⟩
    rw [player]
    rcases (each i).names named with before | ⟨fadable, covers⟩
    · exact h.gives i before
    · exact gives_of_fadable h.laws fadable covers
  | player p k => exact one rfl rfl fun e => e ▸ k.outlasts (e ▸ h.laws)
  | fetch p =>
    refine one rfl (by cases q <;> rfl) fun e => ?_
    subst e
    have waiting := FetchOutcome.outlasts (f := true) (index := 0) h.laws .discarded
    exact ⟨⟨h.laws.published, h.laws.filled, h.laws.idle⟩, waiting.gives⟩
  | outcome _ k => exact one rfl (unserved_player s q) fun e => e ▸ k.outlasts (e ▸ h.laws)
  | releasing p =>
    refine one (u := { s with port := s.port.withdraw p }) rfl (by cases q <;> rfl) fun e => ?_
    exact e ▸ h.laws.outlasts (nomatch ·) rfl rfl rfl rfl
  | idle p unnamed =>
    by_cases own : q = p
    · subst own
      refine ⟨?_, fun i named => ?_⟩
      · rw [setPlayer_player_same]
        exact ⟨(nomatch ·), (nomatch ·), fun _ => ⟨rfl, rfl, rfl, rfl⟩⟩
      · have before : (s.axis i).blend.names q.source = true := by
          rwa [State.axis, setPlayer_axes] at named
        exact absurd before (by simp [refCount_eq_zero.mp unnamed i])
    · refine h.same (setPlayer_axes _ _ _) ?_
      rw [setPlayer_player_other _ p q _ own]
      cases q <;> rfl
  | reset axes _ playerA playerB =>
    have player : t.player q = Player.reset := by
      cases q
      · exact playerA
      · exact playerB
    refine ⟨player ▸ ⟨(nomatch ·), (nomatch ·), fun _ => ⟨rfl, rfl, rfl, rfl⟩⟩, fun i named => ?_⟩
    have axis : t.axis i = Axis.reset := by rw [State.axis, axes, ← reset_axis i, State.axis]
    rw [axis] at named
    cases q <;> cases named

theorem step_playersLawful {s t : State} (lawful : s.playersLawful = true) (stepped : step s = .next t) :
    t.playersLawful = true := by
  refine playersLawful_iff.mpr fun p => ?_
  refine (step_steps stepped).changes.keep (P := fun u => u.PlayerLaws p) Change.playerLaws ?_
  exact (playersLawful_iff.mp lawful p).same rfl (by cases p <;> rfl)

end Sys2Proof.Machine
end

section
/-! The law of the keys a player streams and of its fetch at the key store port (R82, R105, R107, R108): every single change
keeps it. -/

namespace Sys2Proof.Machine

/-! ### The keys a player holds -/

/-- The key `b` comes next after the key `a` in the move. -/
def PlayerKey.Before (a b : PlayerKey) : Prop := b.index = a.index + 1

theorem all_zip_tail_iff {l : List PlayerKey} :
    (l.zip l.tail).all (fun q => decide (q.2.index = q.1.index + 1)) = true ↔ l.IsChain PlayerKey.Before := by
  induction l with
  | nil => simp
  | cons a t ih =>
    cases t with
    | nil => simp
    | cons b t =>
      rw [List.isChain_cons_cons, ← ih]
      simp [PlayerKey.Before]

theorem nextIndex_of_getLast {r r' : Player} (h : r'.keysHeld.getLast? = r.keysHeld.getLast?) : r'.nextIndex = r.nextIndex := by
  simp only [Player.nextIndex, h]

theorem nextIndex_of_append {r r' : Player} {k : PlayerKey} (h : r'.keysHeld = r.keysHeld ++ [k]) :
    r'.nextIndex = k.index + 1 := by
  simp [Player.nextIndex, h]

/-- Keys in order stay so when the key that comes next follows them. -/
theorem isChain_append_next {r : Player} (h : r.keysHeld.IsChain PlayerKey.Before) {k : PlayerKey} (next : k.index = r.nextIndex) :
    (r.keysHeld ++ [k]).IsChain PlayerKey.Before := by
  refine List.isChain_append.mpr ⟨h, .singleton k, fun last hlast x hx => ?_⟩
  cases hx
  rw [Option.mem_def] at hlast
  simpa [PlayerKey.Before, Player.nextIndex, hlast] using next

/-- The law of the keys a player holds (R105, R108). -/
structure Player.Streams (r : Player) : Prop where
  depth : r.fifo.length ≤ Config.fifoDepth
  order : r.keysHeld.IsChain PlayerKey.Before
  segment : r.startKey = none → r.endKey = none
  queue : r.endKey = none → r.fifo = []
  starved : r.state = .starved → r.endKey = none
  idle : r.state = .idle → r.outstanding = false
  next : r.fetches = true → ∀ c : Cursor, r.cursor = some c → c.index = r.nextIndex

theorem streamLawful_iff {r : Player} : r.streamLawful = true ↔ r.Streams ∧ r.arrived = none := by
  have next : (!r.fetches || match r.cursor with
      | some c => decide (c.index = r.nextIndex)
      | none => true) = true ↔ (r.fetches = true → ∀ c : Cursor, r.cursor = some c → c.index = r.nextIndex) := by
    cases r.fetches <;> cases r.cursor <;> simp
  have segment : (r.startKey.isSome || r.endKey.isNone) = true ↔ (r.startKey = none → r.endKey = none) := by
    cases r.startKey <;> simp
  have queue : (r.endKey.isSome || decide (r.fifo = [])) = true ↔ (r.endKey = none → r.fifo = []) := by
    cases r.endKey <;> simp
  have starved : (decide (r.state ≠ .starved) || r.endKey.isNone) = true ↔ (r.state = .starved → r.endKey = none) := by
    by_cases h : r.state = .starved <;> simp [h]
  have idle : (decide (r.state ≠ .idle) || !r.outstanding) = true ↔ (r.state = .idle → r.outstanding = false) := by
    by_cases h : r.state = .idle <;> simp [h]
  unfold Player.streamLawful
  rw [Bool.and_eq_true]
  refine (and_congr Iff.rfl next).trans ?_
  simp only [Bool.and_eq_true, all_zip_tail_iff, segment, queue, starved, idle, decide_eq_true_eq,
    Option.isNone_iff_eq_none]
  constructor
  · rintro ⟨⟨⟨⟨⟨⟨⟨h1, h2⟩, h3⟩, h4⟩, h5⟩, h6⟩, h7⟩, h8⟩
    exact ⟨⟨h1, h2, h3, h4, h5, h6, h8⟩, h7⟩
  · rintro ⟨⟨h1, h2, h3, h4, h5, h6, h8⟩, h7⟩
    exact ⟨⟨⟨⟨⟨⟨⟨h1, h2⟩, h3⟩, h4⟩, h5⟩, h6⟩, h7⟩, h8⟩

theorem streams_reset : Player.reset.Streams where
  depth := Nat.zero_le _
  order := .nil
  segment := fun _ => rfl
  queue := fun _ => rfl
  starved := fun _ => rfl
  idle := fun _ => rfl
  next := (nomatch ·)

/-- What has the keys of a lawful player, in a state that leaves the same fetching, is lawful. -/
theorem Player.Streams.of_keys {r r' : Player} (h : r.Streams) (start : r'.startKey = r.startKey) (stop : r'.endKey = r.endKey)
    (fifo : r'.fifo = r.fifo) (cursor : r'.cursor = r.cursor) (starved : r'.state = .starved → r.endKey = none)
    (idle : r'.state = .idle → r'.outstanding = false) (fetches : r'.fetches = true → r.fetches = true) : r'.Streams := by
  have keys : r'.keysHeld = r.keysHeld := by rw [Player.keysHeld, Player.keysHeld, start, stop, fifo]
  refine ⟨fifo ▸ h.depth, keys ▸ h.order, by rw [start, stop]; exact h.segment, by rw [stop, fifo]; exact h.queue,
    by rw [stop]; exact starved, idle, fun on c at_ => ?_⟩
  rw [nextIndex_of_getLast (congrArg _ keys)]
  exact h.next (fetches on) c (cursor ▸ at_)

/-! ### What a player's fetch at the port is -/

/-- Of the fetches `l` at the port, player `p` with the record `r` has none that is not its own, and has the one it waits for
unless its outcome has arrived (R82, R107, R123). -/
structure Player.FetchLaw (p : PlayerId) (r : Player) (l : List Access) : Prop where
  quiet : r.outstanding = false → l = [] ∧ r.arrived = none
  delivered : r.outstanding = true → r.arrived ≠ none → l = []
  asked : r.outstanding = true → r.arrived = none → ∃ (m : MoveIx) (c : Cursor), r.move = some m ∧ r.cursor = some c ∧
    l = [.fetch p m c.index c.block c.slot] ∧ r.hasRoom = true ∧ r.keysRemain = true

/-- With no fetch wanted, none may be at the port. -/
theorem Player.FetchLaw.unwanted {p : PlayerId} {r : Player} (free : r.outstanding = false) (taken : r.arrived = none) :
    r.FetchLaw p [] where
  quiet := fun _ => ⟨rfl, taken⟩
  delivered := fun _ _ => rfl
  asked := fun on => absurd (free.symm.trans on) (by decide)

theorem Player.FetchLaw.of_fields {p : PlayerId} {r r' : Player} {l : List Access} (h : r.FetchLaw p l)
    (outstanding : r'.outstanding = r.outstanding) (arrived : r'.arrived = r.arrived) (move : r'.move = r.move)
    (cursor : r'.cursor = r.cursor) (count : r'.keyCount = r.keyCount) (room : r.hasRoom = true → r'.hasRoom = true) :
    r'.FetchLaw p l where
  quiet := fun off => arrived ▸ h.quiet (outstanding ▸ off)
  delivered := fun on => arrived ▸ h.delivered (outstanding ▸ on)
  asked := fun on waits => by
    obtain ⟨m, c, hm, hc, hl, hr, hk⟩ := h.asked (outstanding ▸ on) (arrived ▸ waits)
    exact ⟨m, c, move.trans hm, cursor.trans hc, hl, room hr, by rwa [Player.keysRemain, cursor, count]⟩

/-- A fetch at the port is the one its player waits for. -/
theorem Player.FetchLaw.asking {p : PlayerId} {r : Player} {l : List Access} (h : r.FetchLaw p l) (there : l ≠ []) :
    r.arrived = none ∧ ∃ (m : MoveIx) (c : Cursor), r.move = some m ∧ r.cursor = some c ∧
      l = [.fetch p m c.index c.block c.slot] ∧ r.hasRoom = true ∧ r.keysRemain = true := by
  have on : r.outstanding = true := by
    cases off : r.outstanding with
    | true => rfl
    | false => exact absurd (h.quiet off).1 there
  have taken : r.arrived = none := by
    by_contra arrived
    exact there (h.delivered on arrived)
  exact ⟨taken, h.asked on taken⟩

/-! ### Changes of a player's record -/

/-- The segment advance keeps a tail of the keys held (R115). -/
theorem advanceSegment_suffix (time : Nat) (f : List PlayerKey) : ∀ (k0 k1 a : PlayerKey) (b : Option PlayerKey)
    (g : List PlayerKey), advanceSegment time k0 k1 f = (a, b, g) →
      a :: (b.toList ++ g) <:+ k0 :: k1 :: f ∧ (b = none → g = []) ∧ g.length ≤ f.length := by
  induction f with
  | nil =>
    intro k0 k1 a b g h
    unfold advanceSegment at h
    split at h <;> cases h
    · exact ⟨List.suffix_cons k0 [k1], fun _ => rfl, le_rfl⟩
    · exact ⟨List.suffix_rfl, fun _ => rfl, le_rfl⟩
  | cons x t ih =>
    intro k0 k1 a b g h
    unfold advanceSegment at h
    split at h
    · obtain ⟨suffix, empty, short⟩ := ih k1 x a b g h
      exact ⟨suffix.trans (List.suffix_cons k0 _), empty, short.trans (Nat.le_succ _)⟩
    · cases h
      exact ⟨List.suffix_rfl, (nomatch ·), le_rfl⟩

/-- What a player that advances holds and keeps (R115 to R117). -/
theorem advance_keys (r : Player) (time : Nat) (k0 k1 : PlayerKey) : ∃ (a : PlayerKey) (b : Option PlayerKey) (g : List PlayerKey),
    advanceSegment time k0 k1 r.fifo = (a, b, g) ∧ (r.advance time k0 k1).startKey = some a ∧
    (r.advance time k0 k1).endKey = b ∧ (r.advance time k0 k1).fifo = g ∧
    ((r.advance time k0 k1).state = r.state ∨ b = none ∧
      ((r.advance time k0 k1).state = .starved ∨ (r.advance time k0 k1).state = .ended)) := by
  unfold Player.advance
  split
  · next a b g split => exact ⟨a, some b, g, split, rfl, rfl, rfl, .inl rfl⟩
  · next a g split =>
    refine ⟨a, none, g, split, rfl, rfl, rfl, .inr ⟨rfl, ?_⟩⟩
    show (if r.keysRemain then PlayerState.starved else .ended) = .starved ∨ _ = PlayerState.ended
    cases r.keysRemain
    · exact .inr rfl
    · exact .inl rfl

theorem advance_kept (r : Player) (time : Nat) (k0 k1 : PlayerKey) :
    (r.advance time k0 k1).move = r.move ∧ (r.advance time k0 k1).cursor = r.cursor ∧
    (r.advance time k0 k1).keyCount = r.keyCount ∧ (r.advance time k0 k1).outstanding = r.outstanding ∧
    (r.advance time k0 k1).arrived = r.arrived := by
  unfold Player.advance
  split <;> exact ⟨rfl, rfl, rfl, rfl, rfl⟩

/-- The keys held are in order without those of the FIFO. -/
theorem Player.Streams.emptied_order {r : Player} (h : r.Streams) :
    (r.startKey.toList ++ r.endKey.toList ++ []).IsChain PlayerKey.Before :=
  (List.append_nil _).symm ▸ h.order.left_of_append

theorem Player.Streams.advanced {r : Player} (h : r.Streams) {k0 k1 : PlayerKey} (time : Nat) (running : r.state = .running)
    (start : r.startKey = some k0) (stop : r.endKey = some k1) : (r.advance time k0 k1).Streams := by
  obtain ⟨a, b, g, split, start', stop', fifo', state'⟩ := advance_keys r time k0 k1
  obtain ⟨suffix, empty, short⟩ := advanceSegment_suffix time r.fifo k0 k1 a b g split
  obtain ⟨_, cursor', _, _, _⟩ := advance_kept r time k0 k1
  have held : r.keysHeld = k0 :: k1 :: r.fifo := by simp [Player.keysHeld, start, stop]
  have held' : (r.advance time k0 k1).keysHeld = a :: (b.toList ++ g) := by simp [Player.keysHeld, start', stop', fifo']
  have last : (r.advance time k0 k1).keysHeld.getLast? = r.keysHeld.getLast? := by
    obtain ⟨pre, e⟩ := suffix
    rw [held, held', ← e, List.getLast?_append_of_ne_nil _ (List.cons_ne_nil _ _)]
  refine ⟨fifo' ▸ short.trans h.depth, ?_, fun e => ?_, ?_, ?_, ?_, fun _ c at_ => ?_⟩
  · rw [held']
    exact (held ▸ h.order).suffix suffix
  · rw [start'] at e
    cases e
  · rw [stop', fifo']
    exact empty
  · intro e
    rcases state' with same | ⟨none, _⟩
    · rw [same, running] at e
      cases e
    · rw [stop', none]
  · intro e
    exact absurd e (advance_state r time k0 k1 (by simp [running]))
  · rw [nextIndex_of_getLast last]
    exact h.next (by simp [Player.fetches, running]) c (cursor' ▸ at_)

/-- A RUNNING player that advances has room for the key it waits for (R107). -/
theorem advance_hasRoom {r : Player} {k0 k1 : PlayerKey} (time : Nat) (start : r.startKey = some k0) (stop : r.endKey = some k1)
    (room : r.hasRoom = true) : (r.advance time k0 k1).hasRoom = true := by
  obtain ⟨a, b, g, split, _, _, fifo', _⟩ := advance_keys r time k0 k1
  obtain ⟨_, _, short⟩ := advanceSegment_suffix time r.fifo k0 k1 a b g split
  have before : r.fifo.length < Config.fifoDepth := by simpa [Player.hasRoom, start, stop] using room
  simp [Player.hasRoom, fifo', Nat.lt_of_le_of_lt short before]

theorem runState_cases (r : Player) : r.runState = .running ∨ r.runState = .starved ∧ r.endKey = none := by
  unfold Player.runState
  split
  · next held => exact .inr ⟨rfl, held.2.2⟩
  · exact .inl rfl

theorem PlayerChange.streams {r r' : Player} (h : r.Streams) (change : PlayerChange r r') : r'.Streams := by
  cases change with
  | rated => exact h.of_keys rfl rfl rfl rfl h.starved h.idle id
  | ran held =>
    refine h.of_keys rfl rfl rfl rfl (fun e => ?_) (fun e => absurd e (runState_ne_idle r)) fun _ => ?_
    · rcases runState_cases r with running | ⟨_, none⟩
      · exact absurd (running.symm.trans e) (by decide)
      · exact none
    · exact fetches_iff.mpr (held.imp_right fun paused => .inr (.inl paused))
  | paused moving =>
    refine h.of_keys rfl rfl rfl rfl (nomatch ·) (nomatch ·) fun _ => fetches_iff.mpr ?_
    exact .inr (moving.imp_right fun starved => .inr starved)
  | loaded m e n =>
    refine ⟨Nat.zero_le _, .nil, fun _ => rfl, fun _ => rfl, (nomatch ·), (nomatch ·), fun _ c at_ => ?_⟩
    obtain ⟨b, _, rfl⟩ := Option.map_eq_some_iff.mp (show e.first.map _ = some c from at_)
    rfl
  | gone k x n outs =>
    exact ⟨Nat.zero_le _, List.isChain_cons_cons.mpr ⟨rfl, .singleton _⟩, (nomatch ·), fun _ => rfl, (nomatch ·), (nomatch ·),
      fun _ _ => (nomatch ·)⟩
  | advanced time k0 k1 running _ start stop => exact h.advanced time running start stop
  | faulted =>
    exact ⟨Nat.zero_le _, h.emptied_order, h.segment, fun _ => rfl, (nomatch ·), (nomatch ·), (nomatch ·)⟩
  | discarded => exact h.of_keys rfl rfl rfl rfl h.starved (fun _ => rfl) id

theorem PlayerChange.fetchLaw {p : PlayerId} {r r' : Player} {l : List Access} (h : r.FetchLaw p l) (law : r.Streams)
    (change : PlayerChange r r') : r'.FetchLaw p l := by
  have emptied : ∀ n : Nat, r.arrived = some n → l = [] := fun n arrived => by
    cases on : r.outstanding with
    | true => exact h.delivered on (by simp [arrived])
    | false => exact (h.quiet on).1
  cases change with
  | rated | ran | paused => exact h.of_fields rfl rfl rfl rfl rfl id
  | loaded m e n idle =>
    rw [(h.quiet (law.idle idle)).1]
    exact .unwanted rfl rfl
  | gone k x n outs idle =>
    rw [(h.quiet (law.idle idle)).1]
    exact .unwanted rfl rfl
  | advanced time k0 k1 _ _ start stop =>
    obtain ⟨move, cursor, count, outstanding, arrived⟩ := advance_kept r time k0 k1
    exact h.of_fields outstanding arrived move cursor count (advance_hasRoom time start stop)
  | faulted n arrived | discarded n arrived =>
    rw [emptied n arrived]
    exact .unwanted rfl rfl

/-! ### The outcome of a fetch -/

theorem place_keysHeld {r : Player} (h : r.Streams) (index : Nat) (k : Key) (next : Option (Nat × Nat)) :
    (r.place index k next).keysHeld = r.keysHeld ++ [{ index := index, key := k }] := by
  unfold Player.place Player.keysHeld
  simp only
  split
  · next start =>
    simp [start, h.segment start, h.queue (h.segment start)]
  · next start stop => simp [start, stop, h.queue stop]
  · next start stop => simp [start, stop]

/-- The cursor moves on to the key that follows, while the move has one (R108). -/
theorem place_cursor_eq (r : Player) (index : Nat) (k : Key) (next : Option (Nat × Nat)) :
    (r.place index k next).cursor = match r.keyCount, next with
      | some n, some (b, sl) => if index + 1 < n then some { block := b, slot := sl, index := index + 1 } else none
      | _, _ => none := by
  unfold Player.place
  simp only
  split <;> rfl

theorem place_cursor {r : Player} {index : Nat} {k : Key} {next : Option (Nat × Nat)} {c : Cursor}
    (h : (r.place index k next).cursor = some c) : c.index = index + 1 := by
  rw [place_cursor_eq] at h
  split at h
  · split at h
    · cases h
      rfl
    · cases h
  · cases h

theorem place_outstanding (r : Player) (index : Nat) (k : Key) (next : Option (Nat × Nat)) :
    (r.place index k next).outstanding = false := by
  unfold Player.place
  simp only
  split <;> rfl

/-- The key that comes next is placed in its order (R108). -/
theorem Player.Streams.placed {r : Player} (h : r.Streams) {index : Nat} (fetching : r.fetches = true) (room : r.hasRoom = true)
    (expected : index = r.nextIndex) (k : Key) (next : Option (Nat × Nat)) : (r.place index k next).Streams := by
  have held := place_keysHeld h index k next
  have awake : r.state ≠ .idle := fun e => by simp [Player.fetches, e] at fetching
  have cursor : ∀ c : Cursor, (r.place index k next).cursor = some c → c.index = (r.place index k next).nextIndex :=
    fun c at_ => (place_cursor at_).trans (nextIndex_of_append held).symm
  have order : (r.place index k next).keysHeld.IsChain PlayerKey.Before := held ▸ isChain_append_next h.order expected
  have idle : (r.place index k next).state = .idle → (r.place index k next).outstanding = false :=
    fun _ => place_outstanding r index k next
  refine ⟨?_, order, ?_, ?_, ?_, idle, fun _ => cursor⟩
  all_goals
    unfold Player.place
    simp only
    split
  · exact h.depth
  · exact h.depth
  · next start stop =>
    have short : r.fifo.length < Config.fifoDepth := by simpa [Player.hasRoom, start, stop] using room
    simpa using short
  · exact (nomatch ·)
  · next start _ => exact fun e => absurd (start.symm.trans e) (nomatch ·)
  · next start _ => exact fun e => absurd (start.symm.trans e) (nomatch ·)
  · exact h.queue
  · exact (nomatch ·)
  · next stop => exact fun e => absurd (stop.symm.trans e) (nomatch ·)
  · exact h.starved
  · intro e
    have moved : (if r.state = .starved then PlayerState.running else r.state) = .starved := e
    split at moved
    · cases moved
    · next other => exact absurd moved other
  · next stop => exact fun e => h.starved e

/-- What the outcome of the fetch that comes next leaves is lawful (R108, R109, R123). -/
theorem FetchOutcome.streams {f : Bool} {r r' : Player} {index : Nat} (h : r.Streams) (room : r.hasRoom = true)
    (at_ : ∃ c : Cursor, r.cursor = some c ∧ c.index = index) (outcome : FetchOutcome f r index r') : r'.Streams := by
  cases outcome with
  | discarded => exact h.of_keys rfl rfl rfl rfl h.starved (fun _ => rfl) id
  | deferred => exact h.of_keys rfl rfl rfl rfl h.starved h.idle id
  | faulted =>
    exact ⟨Nat.zero_le _, h.emptied_order, h.segment, fun _ => rfl, (nomatch ·), (nomatch ·), (nomatch ·)⟩
  | placed k next fetching =>
    obtain ⟨c, cursor, rfl⟩ := at_
    exact h.placed fetching room (h.next fetching c cursor) k next

theorem FetchOutcome.fetchLaw {f : Bool} {p : PlayerId} {r r' : Player} {index : Nat} (on : r.outstanding = true)
    (taken : r.arrived = none) (outcome : FetchOutcome f r index r') : r'.FetchLaw p [] := by
  cases outcome with
  | discarded | faulted => exact .unwanted rfl taken
  | placed k next => exact .unwanted (place_outstanding r index k next) ((place_arrived r index k next).trans taken)
  | deferred =>
    exact ⟨fun off => absurd (on.symm.trans off) (by decide), fun _ _ => rfl, fun _ waits => (nomatch waits)⟩

/-! ### The fetches at the port -/

/-- The waiting fetch of a player. -/
def KeyPort.waitOf (q : KeyPort) (p : PlayerId) : Option Access :=
  match p with
  | .a => q.waitA
  | .b => q.waitB

/-- The fetch of a player that is being served and whose outcome it wants. -/
def KeyPort.servedOf (q : KeyPort) (p : PlayerId) : List Access :=
  match q.serving with
  | some v => if v.wanted && v.access.isFetchOf p then [v.access] else []
  | none => []

theorem fetchesOf_eq (q : KeyPort) (p : PlayerId) : q.fetchesOf p = (q.waitOf p).toList ++ q.servedOf p := by
  cases p <;> rfl

theorem fetchWaits_eq (q : KeyPort) (p : PlayerId) : q.fetchWaits p = (q.waitOf p).isSome := by cases p <;> rfl

theorem withdraw_typed {q : KeyPort} (h : q.Typed) (p : PlayerId) : (q.withdraw p).Typed := by
  obtain ⟨hA, hB, hR, hC⟩ := h
  cases p
  · exact ⟨fun _ => (nomatch ·), hB, hR, hC⟩
  · exact ⟨hA, fun _ => (nomatch ·), hR, hC⟩

theorem disown_typed {q : KeyPort} (h : q.Typed) (p : PlayerId) : (q.disown p).Typed := by
  unfold KeyPort.disown
  split
  · split
    · exact ⟨h.waitA, h.waitB, h.waitRecorder, h.waitConsole⟩
    · exact h
  · exact h

theorem unserved_typed {q : KeyPort} (h : q.Typed) : ({ q with serving := none } : KeyPort).Typed :=
  ⟨h.waitA, h.waitB, h.waitRecorder, h.waitConsole⟩

theorem await_typed {q : KeyPort} (h : q.Typed) (p : PlayerId) (m : MoveIx) (i b n : Nat) : (q.await (.fetch p m i b n)).Typed := by
  obtain ⟨hA, hB, hR, hC⟩ := h
  cases p
  · exact ⟨fun a e => Option.some.inj e ▸ rfl, hB, hR, hC⟩
  · exact ⟨hA, fun a e => Option.some.inj e ▸ rfl, hR, hC⟩

theorem withdraw_fetchesOf_same (q : KeyPort) (p : PlayerId) : (q.withdraw p).fetchesOf p = q.servedOf p := by cases p <;> rfl

theorem withdraw_fetchesOf_other (q : KeyPort) {p r : PlayerId} (h : r ≠ p) : (q.withdraw p).fetchesOf r = q.fetchesOf r := by
  cases p <;> cases r
  · exact absurd rfl h
  · rfl
  · rfl
  · exact absurd rfl h

/-- A player's waiting fetch withdrawn and its other outcome unwanted, no fetch of it is left at the port (R125). -/
theorem disown_fetchesOf_same (q : KeyPort) (p : PlayerId) : ((q.withdraw p).disown p).fetchesOf p = [] := by
  rw [fetchesOf_eq]
  unfold KeyPort.disown
  split
  · next v served =>
    split
    · cases p <;> simp [KeyPort.waitOf, KeyPort.servedOf, KeyPort.withdraw]
    · next other =>
      have other' : v.access.isFetchOf p = false := Bool.eq_false_iff.mpr other
      cases p <;> simp [KeyPort.waitOf, KeyPort.servedOf, served, other'] <;> rfl
  · next free => cases p <;> simp [KeyPort.waitOf, KeyPort.servedOf, free] <;> rfl

theorem disown_fetchesOf_other (q : KeyPort) {p r : PlayerId} (h : r ≠ p) :
    ((q.withdraw p).disown p).fetchesOf r = q.fetchesOf r := by
  rw [← withdraw_fetchesOf_other q h, fetchesOf_eq, fetchesOf_eq]
  unfold KeyPort.disown
  split
  · next v served =>
    split
    · next own =>
      have wait : ∀ w, ({ q.withdraw p with serving := w } : KeyPort).waitOf r = (q.withdraw p).waitOf r := fun w => by cases r <;> rfl
      rw [wait]
      simp [KeyPort.servedOf, served, isFetchOf_other own h]
    · rfl
  · rfl

theorem await_fetchesOf_other (q : KeyPort) {p r : PlayerId} (h : r ≠ p) (m : MoveIx) (i b n : Nat) :
    (q.await (.fetch p m i b n)).fetchesOf r = q.fetchesOf r := by
  cases p <;> cases r
  · exact absurd rfl h
  · rfl
  · rfl
  · exact absurd rfl h

theorem await_fetchesOf_same {q : KeyPort} {p : PlayerId} (h : q.fetchesOf p = []) (m : MoveIx) (i b n : Nat) :
    (q.await (.fetch p m i b n)).fetchesOf p = [.fetch p m i b n] := by
  rw [fetchesOf_eq, List.append_eq_nil_iff] at h
  have served : (q.await (.fetch p m i b n)).servedOf p = [] := by
    rw [← h.2]
    cases p <;> rfl
  rw [fetchesOf_eq, served]
  cases p <;> rfl

/-! ### The law of the fetches -/

/-- The law of the keys a player streams and of its fetches at the port (R82, R107, R108). -/
structure State.StreamLaws (s : State) (p : PlayerId) : Prop where
  typed : s.port.Typed
  keys : (s.player p).Streams
  fetches : (s.player p).FetchLaw p (s.port.fetchesOf p)

theorem State.StreamLaws.same {s t : State} {p : PlayerId} (h : s.StreamLaws p) (port : t.port = s.port)
    (player : t.player p = s.player p) : t.StreamLaws p :=
  ⟨port ▸ h.typed, player ▸ h.keys, by rw [port, player]; exact h.fetches⟩

/-- A change at another player leaves a player's laws as they are. -/
theorem State.StreamLaws.other {s t : State} {p : PlayerId} (h : s.StreamLaws p) (typed : t.port.Typed)
    (player : t.player p = s.player p) (fetches : t.port.fetchesOf p = s.port.fetchesOf p) : t.StreamLaws p :=
  ⟨typed, player ▸ h.keys, by rw [player, fetches]; exact h.fetches⟩

@[simp] theorem player_port (s : State) (q : KeyPort) (p : PlayerId) : ({ s with port := q } : State).player p = s.player p := by
  cases p <;> rfl

/-- The outcome of its fetch keeps the laws of the player that it reaches. -/
theorem State.StreamLaws.outcome {s : State} {f released : Bool} {p : PlayerId} {m : MoveIx} {index b slot : Nat} {r : Player}
    (h : s.StreamLaws p)
    (serving : s.port.serving = some { access := .fetch p m index b slot, wanted := true, released := released })
    (out : FetchOutcome f (s.player p) index r) : (s.unserved.setPlayer p r).StreamLaws p := by
  have served : s.port.servedOf p = [.fetch p m index b slot] := by simp [KeyPort.servedOf, serving, Access.isFetchOf]
  have there : s.port.fetchesOf p ≠ [] := by simp [fetchesOf_eq, served]
  obtain ⟨taken, m', c, _, cursor, only, room, _⟩ := h.fetches.asking there
  have on : (s.player p).outstanding = true := by
    by_contra off
    exact there (h.fetches.quiet (Bool.eq_false_iff.mpr off)).1
  have alone : s.port.waitOf p = none ∧ c.index = index := by
    rw [fetchesOf_eq, served] at only
    cases wait : s.port.waitOf p with
    | none =>
      rw [wait] at only
      simp only [Option.toList_none, List.nil_append, List.cons.injEq, Access.fetch.injEq, and_true] at only
      exact ⟨rfl, only.2.2.1.symm⟩
    | some a => simp [wait] at only
  obtain ⟨unwaited, at_⟩ := alone
  have left : s.unserved.port.fetchesOf p = [] := by
    rw [fetchesOf_eq, show s.unserved.port.waitOf p = s.port.waitOf p by cases p <;> rfl, unwaited]
    rfl
  refine ⟨?_, ?_, ?_⟩
  · rw [setPlayer_port]
    exact unserved_typed h.typed
  · rw [setPlayer_player_same]
    exact out.streams h.keys room ⟨c, cursor, at_⟩
  · rw [setPlayer_player_same, setPlayer_port, left]
    exact out.fetchLaw on taken

/-- A player that becomes RELEASING withdraws its waiting fetch (R121). -/
theorem State.StreamLaws.releasing {s : State} {p : PlayerId} (h : s.StreamLaws p) : (enterReleasing p s).StreamLaws p := by
  unfold enterReleasing
  refine ⟨?_, ?_, ?_⟩
  · rw [setPlayer_port]
    exact withdraw_typed h.typed p
  · rw [setPlayer_player_same]
    exact h.keys.of_keys rfl rfl rfl rfl (nomatch ·) (nomatch ·) (nomatch ·)
  · rw [setPlayer_player_same, setPlayer_port, withdraw_fetchesOf_same]
    cases wait : s.port.waitOf p with
    | none =>
      have same : s.port.servedOf p = s.port.fetchesOf p := by simp [fetchesOf_eq, wait]
      rw [same]
      exact h.fetches.of_fields (by simp [fetchWaits_eq, wait]) rfl rfl rfl rfl id
    | some a =>
      obtain ⟨taken, m, c, _, _, only, _⟩ := h.fetches.asking (by simp [fetchesOf_eq, wait])
      have unserved : s.port.servedOf p = [] := by
        rw [fetchesOf_eq, wait] at only
        exact (List.cons.inj only).2
      rw [unserved]
      exact .unwanted (by simp [fetchWaits_eq, wait]) taken

/-- No change breaks the law of the keys a player streams. -/
theorem Change.streamLaws {f : Bool} {s t : State} {q : PlayerId} (change : Change f s t) (h : s.StreamLaws q) :
    t.StreamLaws q := by
  cases change with
  | aside k => exact h.same k.port (player_of k.playerA k.playerB q)
  | geometry | axes => exact h.same rfl (by cases q <;> rfl)
  | port k =>
    obtain ⟨typed, same⟩ := k h.typed
    exact h.other typed (player_port _ _ _) (same q)
  | player p k =>
    by_cases own : q = p
    · subst own
      refine ⟨by rw [setPlayer_port]; exact h.typed, ?_, ?_⟩
      · rw [setPlayer_player_same]
        exact k.streams h.keys
      · rw [setPlayer_player_same, setPlayer_port]
        exact k.fetchLaw h.fetches h.keys
    · exact h.same (setPlayer_port _ _ _) (setPlayer_player_other s p q _ own)
  | @fetch p m c fetching move cursor free remain room =>
    have typed : (s.port.await (.fetch p m c.index c.block c.slot)).Typed := await_typed h.typed p m _ _ _
    by_cases own : q = p
    · subst own
      obtain ⟨none, taken⟩ := h.fetches.quiet free
      refine ⟨by rw [setPlayer_port]; exact typed, ?_, ?_⟩
      · rw [setPlayer_player_same]
        have awake : (s.player q).state ≠ .idle := fun e => by simp [Player.fetches, e] at fetching
        exact h.keys.of_keys rfl rfl rfl rfl h.keys.starved (fun e => absurd e awake) id
      · rw [setPlayer_player_same, setPlayer_port, await_fetchesOf_same none]
        exact ⟨(nomatch ·), fun _ arrived => absurd taken arrived, fun _ _ => ⟨m, c, move, cursor, rfl, room, remain⟩⟩
    · refine h.other (by rw [setPlayer_port]; exact typed) ?_ ?_
      · rw [setPlayer_player_other _ p q _ own, player_port]
      · rw [setPlayer_port]
        exact await_fetchesOf_other s.port own m _ _ _
  | @outcome p m index b slot released r serving k =>
    by_cases own : q = p
    · subst own
      exact h.outcome serving k
    · refine h.other ?_ ?_ ?_
      · rw [setPlayer_port]
        exact unserved_typed h.typed
      · rw [setPlayer_player_other _ p q _ own, unserved_player]
      · rw [setPlayer_port]
        refine fetchesOf_unserved s.port q fun v served _ => ?_
        cases serving.symm.trans served
        exact isFetchOf_other (p := p) (by simp [Access.isFetchOf]) own
  | releasing p =>
    by_cases own : q = p
    · subst own
      exact h.releasing
    · unfold enterReleasing
      refine h.other ?_ ?_ ?_
      · rw [setPlayer_port]
        exact withdraw_typed h.typed p
      · rw [setPlayer_player_other _ p q _ own, player_port]
      · rw [setPlayer_port]
        exact withdraw_fetchesOf_other s.port own
  | idle p =>
    have typed : ((s.port.withdraw p).disown p).Typed := disown_typed (withdraw_typed h.typed p) p
    by_cases own : q = p
    · subst own
      refine ⟨by rw [setPlayer_port]; exact typed, ?_, ?_⟩
      · rw [setPlayer_player_same]
        exact streams_reset.of_keys rfl rfl rfl rfl (nomatch ·) (fun _ => rfl) id
      · rw [setPlayer_player_same, setPlayer_port, disown_fetchesOf_same]
        exact .unwanted rfl rfl
    · refine h.other (by rw [setPlayer_port]; exact typed) ?_ ?_
      · rw [setPlayer_player_other _ p q _ own, player_port]
      · rw [setPlayer_port]
        exact disown_fetchesOf_other s.port own
  | reset _ _ playerA playerB port =>
    have player : t.player q = Player.reset := by
      cases q
      · exact playerA
      · exact playerB
    refine ⟨?_, player ▸ streams_reset, ?_⟩
    · rw [port]
      exact ⟨fun _ => (nomatch ·), fun _ => (nomatch ·), fun _ _ => (nomatch ·), fun _ _ => (nomatch ·)⟩
    · rw [player, port]
      cases q <;> exact .unwanted rfl rfl

theorem streamLawful_player_iff {s : State} {p : PlayerId} (typed : s.port.Typed) :
    s.streamLawful p = true ↔ s.StreamLaws p ∧ (s.player p).arrived = none := by
  unfold State.streamLawful
  simp only [Bool.and_eq_true, streamLawful_iff]
  constructor
  · rintro ⟨⟨keys, taken⟩, fetches⟩
    refine ⟨⟨typed, keys, ?_⟩, taken⟩
    split at fetches
    · next off =>
      rw [of_decide_eq_true fetches]
      exact .unwanted off taken
    · next m c on move cursor =>
      simp only [Bool.and_eq_true, decide_eq_true_eq] at fetches
      obtain ⟨⟨only, room⟩, remain⟩ := fetches
      exact ⟨fun off => absurd (on.symm.trans off) (by decide), fun _ arrived => absurd taken arrived,
        fun _ _ => ⟨m, c, move, cursor, only, room, remain⟩⟩
    · cases fetches
  · rintro ⟨⟨_, keys, fetches⟩, taken⟩
    refine ⟨⟨keys, taken⟩, ?_⟩
    cases on : (s.player p).outstanding with
    | false =>
      exact decide_eq_true (fetches.quiet on).1
    | true =>
      obtain ⟨m, c, move, cursor, only, room, remain⟩ := fetches.asked on taken
      simp [move, cursor, only, room, remain]

/-- The laws of the port place each waiting request with its requester (R82). -/
theorem typed_of_portLawful {s : State} (h : s.PortLawful) : s.port.Typed := by
  have waiting : ∀ {w : Option Access} {l m : List Access} {a : Access}, w.toList ++ l = m → w = some a → a ∈ m :=
    fun {w l m a} e hw => by
      rw [← e, hw]
      exact List.mem_append_left _ (List.mem_singleton.mpr rfl)
  refine ⟨h.waitA, h.waitB, fun a p wait => ?_, fun a p wait => ?_⟩
  · rcases h.recorder with ⟨_, none⟩ | ⟨_, m, k, _, _, only⟩
    · exact absurd (waiting none wait) List.not_mem_nil
    · rw [List.mem_singleton.mp (waiting only wait)]
      rfl
  · rcases h.console with none | ⟨t, _, ⟨k, _, _, _, _, _, only⟩ | ⟨i, _, _, b, n, _, only⟩⟩
    · exact absurd (waiting none wait) List.not_mem_nil
    · rw [List.mem_singleton.mp (waiting only wait)]
      rfl
    · rw [List.mem_singleton.mp (waiting only wait)]
      rfl

theorem streamsLawful_iff {s : State} (typed : s.port.Typed) :
    s.streamsLawful = true ↔ (∀ p : PlayerId, s.StreamLaws p) ∧ s.NoneArrived := by
  unfold State.streamsLawful
  rw [Bool.and_eq_true, streamLawful_player_iff typed, streamLawful_player_iff typed]
  constructor
  · rintro ⟨⟨a, takenA⟩, b, takenB⟩
    exact ⟨fun p => by cases p <;> assumption, fun p => by cases p <;> assumption⟩
  · rintro ⟨laws, taken⟩
    exact ⟨⟨laws .a, taken .a⟩, laws .b, taken .b⟩

theorem step_streamsLawful {s t : State} (library : s.LibraryLawful) (lawful : s.streamsLawful = true)
    (stepped : step s = .next t) : t.streamsLawful = true := by
  have typed : s.port.Typed := typed_of_portLawful library.port
  obtain ⟨laws, taken⟩ := (streamsLawful_iff typed).mp lawful
  have steps := step_steps stepped
  have kept : ∀ p : PlayerId, t.StreamLaws p := fun p =>
    steps.changes.keep (P := fun u => u.StreamLaws p) Change.streamLaws ((laws p).same rfl (by cases p <;> rfl))
  have taken' : t.NoneArrived := steps.taken fun p => by
    rw [← taken p]
    cases p <;> rfl
  exact (streamsLawful_iff (kept .a).typed).mpr ⟨kept, taken'⟩

/-- Settles O9: every single change keeps the law of the players with the records that name them, and the law of the keys a
player streams; outside an output frame no outcome is left for later. -/
theorem stepKeepsPlayersLawful : Obligations.StepKeepsPlayersLawful :=
  ⟨fun _ _ _ lawful stepped => step_playersLawful lawful stepped,
    fun _ _ library lawful stepped => step_streamsLawful library lawful stepped⟩

end Sys2Proof.Machine
end

section
/-! The state after reset meets every law. -/

namespace Sys2Proof.Machine

theorem reset_axesLawful : State.reset.axesLawful = true :=
  axesLawful_iff.mpr ⟨by decide, fun i => by rw [reset_axis]; exact reset_laws⟩

theorem reset_playersLawful : State.reset.playersLawful = true := by
  refine playersLawful_iff.mpr fun p => ⟨?_, fun i named => ?_⟩
  · rw [reset_player]
    exact playerLawful_iff.mp (by decide)
  · rw [reset_axis] at named
    cases p <;> cases named

theorem reset_typed : State.reset.port.Typed :=
  ⟨fun _ => (nomatch ·), fun _ => (nomatch ·), fun _ _ => (nomatch ·), fun _ _ => (nomatch ·)⟩

theorem reset_streamsLawful : State.reset.streamsLawful = true := by
  refine (streamsLawful_iff reset_typed).mpr ⟨fun p => ⟨reset_typed, ?_, ?_⟩, fun p => ?_⟩
  · rw [reset_player]
    exact streams_reset
  · rw [reset_player]
    cases p <;> exact .unwanted rfl rfl
  · rw [reset_player]
    rfl

theorem reset_ownersLawful : State.reset.ownersLawful = true := by
  have users : State.reset.usersLawful = true := by
    simp only [State.usersLawful, List.all_eq_true, reset_entry]
    exact fun _ _ => rfl
  rw [State.ownersLawful, users]
  decide

theorem reset_zonesLawful : State.reset.zonesLawful = true := by
  have unplaced : allAxes.any (fun i => geometric i && (State.reset.axis i).configured) = false := by
    simp only [reset_axis]
    decide
  rw [State.zonesLawful, unplaced]
  rfl

theorem reset_chain (m : MoveIx) : State.reset.chain (State.reset.entry m) = [] := by
  rw [reset_entry]
  rfl

theorem reset_chains : State.reset.chains = [] := by
  simp only [State.chains, reset_chain]
  simp

theorem reset_blocksLawful : State.reset.BlocksLawful where
  once := by
    rw [reset_chains]
    simp [State.reset, Library.initial, Config.blocks]
  free := fun _ _ => ⟨rfl, rfl⟩
  bad := fun _ h => (nomatch h)
  chained := fun b h => by
    rw [reset_chains] at h
    cases h
  last := fun m => by
    rw [reset_chain, reset_entry]
    rfl
  ends := fun m b h => by
    rw [reset_entry] at h
    cases h
  empty := fun m _ => by
    rw [reset_entry]
    rfl

theorem reset_keysLawful (m : MoveIx) : State.reset.KeysLawful m where
  empty := fun _ => by rw [reset_entry]; rfl
  written := fun ⟨_, served, _⟩ => nomatch served
  length := fun _ => by
    rw [reset_chain, reset_entry]
    exact .inl rfl
  endTime := by rw [reset_entry]; rfl
  first := fun h => by
    rw [reset_entry] at h
    cases h
  rising := fun _ h => by
    rw [reset_entry] at h
    cases h

theorem reset_libraryLawful : State.reset.LibraryLawful where
  canonical := reset_lib_wf
  blocks := reset_blocksLawful
  keys := reset_keysLawful
  owner := rfl
  port := ⟨fun _ => (nomatch ·), fun _ => (nomatch ·), .inl ⟨rfl, rfl⟩, .inl rfl⟩
  take := fun _ => (nomatch ·)

/-- Settles O5: each law, from the values of the tables. -/
theorem resetIsLawful : Obligations.ResetIsLawful :=
  ⟨reset_lib_wf, reset_axesLawful, reset_playersLawful, reset_streamsLawful, reset_ownersLawful, reset_zonesLawful, by decide,
    by decide, reset_libraryLawful⟩

end Sys2Proof.Machine
end

section
/-! The arithmetic of the Blend Engine (R26, R29, R31 to R34): stick velocity and its scale, routing, tracking and the
candidate. -/

namespace Sys2Proof.Machine

/-! ### Saturation and rounding -/

theorem sat_eq_max_min {lo hi : Int} (h : lo ≤ hi) (x : Int) : sat lo hi x = max lo (min hi x) := by
  unfold sat
  split
  · omega
  · split <;> omega

theorem natAbs_truncDiv (x : Int) (d : Nat) : (truncDiv x d).natAbs = x.natAbs / d := by
  rw [truncDiv, Int.natAbs_tdiv, Int.natAbs_natCast]
  rfl

/-- Rounding in 1024ths is off by half a 1024th at most. -/
theorem roundDiv_near (z : Int) : 2 * (roundDiv z 1024 * 1024 - z).natAbs ≤ 1024 := by
  unfold roundDiv
  simp only [Int.fdiv_eq_ediv_of_nonneg _ (by decide : (0 : Int) ≤ 2 * 1024)]
  split <;> omega

/-- A share below the whole, rounded, lies between nothing and the whole. -/
theorem roundDiv_share {d : Int} {w : Nat} (h : w ≤ 1023) : min 0 d ≤ roundDiv (d * w) 1024 ∧ roundDiv (d * w) 1024 ≤ max 0 d := by
  have near := roundDiv_near (d * w)
  have low : (0 : Int) ≤ w := Int.natCast_nonneg w
  have high : (w : Int) ≤ 1023 := by omega
  rcases le_total 0 d with pos | neg
  · have := Int.mul_nonneg pos low
    have := Int.mul_le_mul_of_nonneg_left high pos
    omega
  · have := Int.mul_nonpos_of_nonpos_of_nonneg neg low
    have := mul_le_mul_of_nonpos_left high neg
    omega

/-! ### Stick velocity (R29, R31) -/

theorem scale_eq (g : Geometry) (x : Int) :
    g.scale x = max 256 (min 16384 ((g.rRef : Int) * 4096 / max ((g.rBase : Int) + x) g.rMin)) := by
  have divisor : (0 : Int) ≤ max ((g.rBase : Int) + x) g.rMin := le_max_of_le_right (Int.natCast_nonneg _)
  rw [Geometry.scale, sat_eq_max_min (by decide), Geometry.rawScale, floorDiv, Int.fdiv_eq_ediv_of_nonneg _ divisor]

theorem scale_bounds (g : Geometry) (x : Int) : 256 ≤ g.scale x ∧ g.scale x ≤ 16384 := sat_bounds (by decide) _

theorem stickVelocity_plain {c : AxisConfig} (h : c.tipScaled = false) (g : Geometry) (x d : Int) :
    stickVelocity c g x d = truncDiv (d * c.vstick) 32767 := by simp [stickVelocity, h]

theorem stickVelocity_scaled {c : AxisConfig} (h : c.tipScaled = true) (g : Geometry) (x d : Int) :
    stickVelocity c g x d = truncDiv (truncDiv (d * c.vstick) 32767 * g.scale x) 4096 := by simp [stickVelocity, h]

/-- Full deflection asks for vstick at most (R29). -/
theorem truncDiv_deflection_le {d : Int} (h : d.natAbs ≤ 32767) (v : Nat) : (truncDiv (d * v) 32767).natAbs ≤ v := by
  have bound : d.natAbs * v ≤ 32767 * v := Nat.mul_le_mul_right v h
  rw [show (32767 : Int) = (32767 : Nat) from rfl, natAbs_truncDiv, Int.natAbs_mul, Int.natAbs_natCast]
  exact Nat.div_le_of_le_mul bound

theorem stickVelocity_le {c : AxisConfig} (g : Geometry) (x : Int) {d : Int} (h : d.natAbs ≤ 32767) :
    (stickVelocity c g x d).natAbs ≤ 4 * c.vstick := by
  have plain := truncDiv_deflection_le h c.vstick
  cases scaled : c.tipScaled with
  | false =>
    rw [stickVelocity_plain scaled]
    omega
  | true =>
    have scale : (g.scale x).natAbs ≤ 16384 := by
      have := scale_bounds g x
      omega
    have product : (truncDiv (d * c.vstick) 32767).natAbs * (g.scale x).natAbs ≤ 4096 * (4 * c.vstick) :=
      (Nat.mul_le_mul plain scale).trans (by omega)
    rw [stickVelocity_scaled scaled, show (4096 : Int) = (4096 : Nat) from rfl, natAbs_truncDiv, Int.natAbs_mul]
    exact Nat.div_le_of_le_mul product

theorem stickVelocity_zero (c : AxisConfig) (g : Geometry) (x : Int) : stickVelocity c g x 0 = 0 := by
  simp [stickVelocity, truncDiv]

/-- A scale of 4096 leaves the velocity as it is (R31). -/
theorem stickVelocity_unscaled {c : AxisConfig} {g : Geometry} {x : Int} (scaled : c.tipScaled = true) (h : g.scale x = 4096)
    (d : Int) : stickVelocity c g x d = stickVelocity { c with tipScaled := false } g x d := by
  rw [stickVelocity_scaled scaled, stickVelocity_plain rfl, h]
  exact Int.mul_tdiv_cancel _ (by decide)

theorem tipClamp_iff {c : AxisConfig} (scaled : c.tipScaled = true) (g : Geometry) (x : Int) :
    tipClamp c g x = true ↔ g.rawScale x < 256 ∨ 16384 < g.rawScale x := by
  have saturates : g.scale x = max 256 (min 16384 (g.rawScale x)) := sat_eq_max_min (by decide) _
  simp only [tipClamp, scaled, Bool.true_and, decide_eq_true_eq]
  omega

/-! ### Routing and tracking (R32, R33) -/

theorem names_live_iff {b : Blend} : b.names .live = true ↔ b.fromSrc = .live ∨ b.toSrc = .live := names_iff

theorem names_live_false {b : Blend} (hfrom : b.fromSrc ≠ .live) (hto : b.toSrc ≠ .live) : b.names .live = false := by
  simp [Blend.names, hfrom, hto]

theorem route_live {b : Blend} (h : b.fromSrc = .live ∨ b.toSrc = .live) {c : AxisConfig} (order : c.softMin < c.softMax) (v : Int) :
    b.route c v = { b with live := max c.softMin (min c.softMax (b.live + v)) } ∧ b.trimSat c v = false := by
  have named := names_live_iff.mpr h
  exact ⟨by rw [Blend.route, if_pos named, sat_eq_max_min order.le], by simp [Blend.trimSat, named]⟩

theorem route_trim {b : Blend} (hfrom : b.fromSrc ≠ .live) (hto : b.toSrc ≠ .live) (trim : b.mode = .trim) (c : AxisConfig)
    (v : Int) :
    b.route c v = { b with trim := max (-(c.trimMax : Int)) (min c.trimMax (b.trim + v)) } ∧
      (b.trimSat c v = true ↔ b.trim + v < -(c.trimMax : Int) ∨ (c.trimMax : Int) < b.trim + v) := by
  have unnamed := names_live_false hfrom hto
  constructor
  · rw [Blend.route, unnamed, if_neg (by decide), if_pos trim, sat_eq_max_min (by omega)]
  · simp only [Blend.trimSat, unnamed, trim, decide_true, Bool.not_false, Bool.true_and, decide_eq_true_eq]
    omega

theorem route_liveOnly {b : Blend} (hfrom : b.fromSrc ≠ .live) (hto : b.toSrc ≠ .live) (mode : b.mode = .liveOnly) (c : AxisConfig)
    (v : Int) : b.route c v = b ∧ b.trimSat c v = false := by
  have unnamed := names_live_false hfrom hto
  simp [Blend.route, Blend.trimSat, unnamed, mode]

theorem track_fading {b : Blend} (fades : b.fromSrc ≠ b.toSrc) (live : b.fromSrc = .live ∨ b.toSrc = .live) (out : Int) :
    b.track out = b := if_pos ⟨fading_iff.mpr fades, names_live_iff.mpr live⟩

theorem track_apart {b : Blend} (h : b.fromSrc = b.toSrc ∨ (b.fromSrc ≠ .live ∧ b.toSrc ≠ .live)) (out : Int) :
    b.track out = { b with live := out } := by
  refine if_neg fun ⟨fades, live⟩ => ?_
  rcases h with steady | ⟨hfrom, hto⟩
  · exact fading_iff.mp fades steady
  · rw [names_live_false hfrom hto] at live
    cases live

/-! ### The weight and the candidate (R26, R34) -/

theorem weight_steady {b : Blend} (h : b.fromSrc = b.toSrc) : b.weight = 0 := if_neg (by simp [Blend.fading, h])

theorem weight_fading {b : Blend} (h : b.fromSrc ≠ b.toSrc) {f : Nat} (len : b.len = some f) : b.weight = 1024 * b.k / f := by
  rw [Blend.weight, if_pos (fading_iff.mpr h), len]

theorem weight_le {b : Blend} (h : b.lawful = true) : b.weight ≤ 1023 := by
  rcases blendLawful_iff.mp h with ⟨steady, _, _⟩ | ⟨fades, f, len, short, _⟩
  · rw [weight_steady steady]
    omega
  · rw [weight_fading fades len]
    refine Nat.le_of_lt_succ ((Nat.div_lt_iff_lt_mul (by omega)).mpr ?_)
    omega

/-- The candidate of a lawful record (R34). -/
theorem candidate_bounds {b : Blend} (h : b.lawful = true) (a p : Int) :
    let x := b.position a p b.fromSrc
    let y := b.position a p b.toSrc
    (b.weight = 0 → b.candidate a p = x) ∧ min x y ≤ b.candidate a p ∧ b.candidate a p ≤ max x y ∧
    2 * ((b.candidate a p - x) * 1024 - (y - x) * b.weight).natAbs ≤ 1024 ∧ b.weight ≤ 1023 := by
  intro x y
  have share := roundDiv_share (d := y - x) (weight_le h)
  have near := roundDiv_near ((y - x) * b.weight)
  have candidate : b.candidate a p = x + roundDiv ((y - x) * b.weight) 1024 := rfl
  refine ⟨fun zero => ?_, by omega, by omega, ?_, weight_le h⟩
  · have still : roundDiv 0 1024 = 0 := by decide
    rw [candidate, zero, Nat.cast_zero, mul_zero, still, add_zero]
  · rw [candidate, add_sub_cancel_left]
    exact near

/-- Settles O24: the formulas from the definitions of their functions, the bounds from those of truncated division. -/
theorem velocityRoutingAndCandidate : Obligations.VelocityRoutingAndCandidate := by
  refine ⟨fun c g x d h => ?_, fun b c v out order => ?_, fun b a p lawful => candidate_bounds lawful a p⟩
  · exact ⟨scale_eq g x, (scale_bounds g x).1, (scale_bounds g x).2, by decide, fun plain => stickVelocity_plain plain g x d,
      fun scaled => stickVelocity_scaled scaled g x d,
      fun plain => stickVelocity_plain plain g x d ▸ truncDiv_deflection_le h c.vstick, stickVelocity_le g x h,
      stickVelocity_zero c g x, fun scaled one => stickVelocity_unscaled scaled one d, fun scaled => tipClamp_iff scaled g x⟩
  · exact ⟨fun live => route_live live order v, fun hfrom hto trim => route_trim hfrom hto trim c v,
      fun hfrom hto mode => route_liveOnly hfrom hto mode c v, fun fades live => track_fading fades live out,
      fun apart => track_apart apart out⟩

end Sys2Proof.Machine
end

section
/-! Changes of blend records: what a fade, a reversal and a hand-back make of one record, how a fade counts, the
reference-clear arrivals of a change (R28, R122), and the requests that make them (R36 to R44). -/

namespace Sys2Proof.Machine

/-! ### One record -/

theorem cut_eq (b : Blend) (x : Source) (out : Int) : b.cut x out = { b with
    fromSrc := x, toSrc := x, k := 0, len := none, live := if x = .live then out else b.live,
    trim := if x = .live then 0 else b.trim } := by cases x <;> rfl

/-- A reversal starts from the whole length exactly when nothing of the fade has been done (R41). -/
theorem reversedCount_eq_iff {b : Blend} {f : Nat} (hf : 0 < f) : b.reversedCount f = f ↔ b.weight = 0 := by
  constructor
  · intro whole
    by_contra nonzero
    have short : (1024 - b.weight) * f < 1024 * f := Nat.mul_lt_mul_of_pos_right (by omega) hf
    exact absurd whole (Nat.ne_of_lt (Nat.div_lt_of_lt_mul short))
  · intro weightless
    rw [Blend.reversedCount, weightless]
    exact Nat.mul_div_cancel_left f (by decide)

/-- A reversal (R41). -/
theorem reverse_eq {b : Blend} (fades : b.fromSrc ≠ b.toSrc) {n f : Nat} (len : b.len = some n) (hf : 0 < f) (out : Int) :
    b.reverse f out = if 1024 * b.k / n = 0 then b.cut b.fromSrc out else
      { b with fromSrc := b.toSrc, toSrc := b.fromSrc, k := (1024 - 1024 * b.k / n) * f / 1024, len := some f } := by
  have weight := weight_fading fades len
  unfold Blend.reverse
  simp only [reversedCount_eq_iff hf]
  rw [Blend.reversedCount, weight]

/-- A reversed record is no further on than the fade had left to go (R41). -/
theorem weight_reversed_le {b r : Blend} (fades : r.fromSrc ≠ r.toSrc) {f : Nat} (len : r.len = some f)
    (count : r.k = b.reversedCount f) : r.weight ≤ 1024 - b.weight := by
  rw [weight_fading fades len, count, Blend.reversedCount]
  rcases Nat.eq_zero_or_pos f with rfl | hf
  · simp
  · calc 1024 * ((1024 - b.weight) * f / 1024) / f ≤ (1024 - b.weight) * f / f := Nat.div_le_div_right (Nat.mul_div_le _ _)
      _ = 1024 - b.weight := Nat.mul_div_cancel _ hf

theorem fadeTo_same {b : Blend} (steady : b.fromSrc = b.toSrc) {x : Source} (on : b.fromSrc = x) (f : Nat) (out : Int) :
    b.fadeTo x f out = b := if_pos ⟨fading_false_iff.mpr steady, on⟩

theorem fadeTo_cut {b : Blend} {x : Source} (h : ¬ (b.fromSrc = b.toSrc ∧ b.fromSrc = x)) (out : Int) :
    b.fadeTo x 0 out = b.cut x out := by
  rw [Blend.fadeTo, if_neg (by rwa [fading_false_iff]), if_pos rfl]

theorem fadeTo_start {b : Blend} (steady : b.fromSrc = b.toSrc) {x : Source} (off : b.fromSrc ≠ x) {f : Nat} (hf : 0 < f)
    (out : Int) : b.fadeTo x f out = b.start x f := by
  rw [Blend.fadeTo, if_neg fun h => off h.2, if_neg (by omega), if_pos (fading_false_iff.mpr steady)]

theorem fadeTo_reverse {b : Blend} (fades : b.fromSrc ≠ b.toSrc) (x : Source) {f : Nat} (hf : 0 < f) (out : Int) :
    b.fadeTo x f out = b.reverse f out := by
  have fading : b.fading ≠ false := fun e => fades (fading_false_iff.mp e)
  rw [Blend.fadeTo, if_neg fun h => fading h.1, if_neg (by omega), if_neg fading]

/-- What an accepted FADE makes of one record (R39 to R41). -/
theorem fadeTo_cases (b : Blend) (x : Source) (f : Nat) (out : Int) :
    (b.fromSrc = b.toSrc → b.fromSrc = x → b.fadeTo x f out = b) ∧
    (¬ (b.fromSrc = b.toSrc ∧ b.fromSrc = x) → f = 0 →
      b.fadeTo x f out = { b with
        fromSrc := x, toSrc := x, k := 0, len := none, live := if x = .live then out else b.live,
        trim := if x = .live then 0 else b.trim }) ∧
    (b.fromSrc = b.toSrc → b.fromSrc ≠ x → 0 < f →
      b.fadeTo x f out = { b with toSrc := x, k := 0, len := some f }) ∧
    (∀ n : Nat, b.fromSrc ≠ b.toSrc → x = b.fromSrc → 0 < f → b.len = some n →
      (1024 * b.k / n = 0 → b.fadeTo x f out = b.fadeTo x 0 out) ∧
      (b.k < n → 1024 * b.k / n ≠ 0 →
        b.fadeTo x f out = { b with
          fromSrc := b.toSrc, toSrc := b.fromSrc, k := (1024 - 1024 * b.k / n) * f / 1024, len := some f } ∧
        (b.fadeTo x f out).weight ≤ 1024 - b.weight)) := by
  refine ⟨fun steady on => fadeTo_same steady on f out, ?_, fun steady off hf => fadeTo_start steady off hf out, ?_⟩
  · rintro other rfl
    rw [fadeTo_cut other, cut_eq]
  · rintro n fades rfl hf len
    have reversed := (fadeTo_reverse fades b.fromSrc hf out).trans (reverse_eq fades len hf out)
    refine ⟨fun count => ?_, fun _ count => ?_⟩
    · rw [reversed, if_pos count, fadeTo_cut fun h => fades h.1]
    · rw [if_neg count] at reversed
      rw [reversed]
      exact ⟨rfl, weight_reversed_le fades.symm rfl (by rw [Blend.reversedCount, weight_fading fades len])⟩

/-! ### A fade counts (R36) -/

theorem completeIfDue_due {b : Blend} (fades : b.fromSrc ≠ b.toSrc) (due : b.len = some b.k) : b.completeIfDue = b.complete :=
  if_pos ⟨fading_iff.mpr fades, due⟩

theorem completeIfDue_early {b : Blend} (early : b.len ≠ some b.k) : b.completeIfDue = b := if_neg fun h => early h.2

/-- A fading record counts one frame, and completes when it has counted them all. -/
theorem progress_fading {b : Blend} (fades : b.fromSrc ≠ b.toSrc) : b.progress = ({ b with k := b.k + 1 } : Blend).completeIfDue :=
  if_pos (fading_iff.mpr fades)

/-- The frames of a fade of `f` frames short of its last. -/
theorem progress_iterate {b : Blend} {x : Source} {f : Nat} (off : b.fromSrc ≠ x) {n : Nat} (h : n < f) :
    Blend.progress^[n] (b.start x f) = { b with toSrc := x, k := n, len := some f } := by
  induction n with
  | zero => rfl
  | succ n ih =>
    rw [Function.iterate_succ_apply', ih (by omega), progress_fading off]
    exact completeIfDue_early fun e => by
      have whole : f = n + 1 := Option.some.inj e
      omega

/-- A fade of `f` frames is complete after them. -/
theorem progress_iterate_whole {b : Blend} {x : Source} {f : Nat} (off : b.fromSrc ≠ x) (hf : 0 < f) :
    Blend.progress^[f] (b.start x f) =
      { b with fromSrc := x, toSrc := x, k := 0, len := none, trim := if x = .live then 0 else b.trim } := by
  obtain ⟨n, rfl⟩ : ∃ n : Nat, f = n + 1 := ⟨f - 1, by omega⟩
  rw [Function.iterate_succ_apply', progress_iterate off (by omega), progress_fading off]
  exact completeIfDue_due off rfl

/-! ### Hand-back (Table 2-8) -/

theorem handBack_onLive {b : Blend} (h : b.toSrc = .live) (r : Nat) (out : Int) : b.handBack r out = b := by
  unfold Blend.handBack
  by_cases steady : b.fromSrc = b.toSrc
  · rw [if_pos (fading_false_iff.mpr steady), if_pos (steady.trans h)]
  · rw [if_neg fun e => steady (fading_false_iff.mp e), if_pos h]

theorem handBack_start {b : Blend} (h : b.fromSrc ≠ .live) (steady : b.fromSrc = b.toSrc) (r : Nat) (out : Int) :
    b.handBack r out = b.start .live r := by
  rw [Blend.handBack, if_pos (fading_false_iff.mpr steady), if_neg h]

theorem handBack_cut {b : Blend} (hfrom : b.fromSrc ≠ .live) (hto : b.toSrc ≠ .live) (fades : b.fromSrc ≠ b.toSrc) (r : Nat)
    (out : Int) : b.handBack r out = b.cut .live out := by
  rw [Blend.handBack, if_neg fun e => fades (fading_false_iff.mp e), if_neg hto, if_neg hfrom]

theorem handBack_reverse {b : Blend} (hfrom : b.fromSrc = .live) (hto : b.toSrc ≠ .live) (r : Nat) (out : Int) :
    b.handBack r out = b.reverse r out := by
  have fades : b.fromSrc ≠ b.toSrc := fun e => hto (e ▸ hfrom)
  rw [Blend.handBack, if_neg fun e => fades (fading_false_iff.mp e), if_neg hto, if_pos hfrom]

/-- After a hand-back the record is on LIVE or on the way there (R43). -/
theorem handBack_toSrc (b : Blend) (r : Nat) (out : Int) : (b.handBack r out).toSrc = .live := by
  by_cases hto : b.toSrc = .live
  · rw [handBack_onLive hto, hto]
  · by_cases hfrom : b.fromSrc = .live
    · rw [handBack_reverse hfrom hto, Blend.reverse]
      split
      · rw [cut_eq, hfrom]
      · exact hfrom
    · by_cases steady : b.fromSrc = b.toSrc
      · rw [handBack_start hfrom steady]
        rfl
      · rw [handBack_cut hfrom hto steady]
        rfl

/-! ### Reference-clear arrivals (R28, R122) -/

@[simp] theorem mapAxes_player (g : Fin 8 → Axis → Axis) (s : State) (p : PlayerId) : (s.mapAxes g).player p = s.player p := by
  cases p <;> rfl

@[simp] theorem modAxis_player (i : Fin 8) (g : Axis → Axis) (s : State) (p : PlayerId) : (s.modAxis i g).player p = s.player p := by
  cases p <;> rfl

theorem becomeIdle_player_same (p : PlayerId) (s : State) : (becomeIdle p s).player p = (s.player p).toIdle :=
  setPlayer_player_same _ p _

theorem becomeIdle_player_other {p r : PlayerId} (h : r ≠ p) (s : State) : (becomeIdle p s).player r = s.player r := by
  unfold becomeIdle
  rw [setPlayer_player_other _ p r _ h, player_port]
  split
  · cases r <;> rfl
  · rfl

theorem clearIfGone_player_other {p r : PlayerId} (h : r ≠ p) (n : Nat) (s : State) : (clearIfGone p n s).player r = s.player r := by
  unfold clearIfGone refClear
  split
  · split
    · exact becomeIdle_player_other h s
    · rfl
  · rfl

/-- From `s` to `u` the last record that named the player has gone. -/
def State.Clears (s u : State) (p : PlayerId) : Prop := s.refCount p ≠ 0 ∧ u.refCount p = 0

theorem clearIfGone_refCount (p r : PlayerId) (n : Nat) (s : State) : (clearIfGone p n s).refCount r = s.refCount r :=
  refCount_of_axes (clearIfGone_players p n s).axes r

theorem clearIfGone_player_cleared {s u : State} {p : PlayerId} (h : s.Clears u p) (releasing : (u.player p).state = .releasing) :
    (clearIfGone p (s.refCount p) u).player p = (u.player p).toIdle := by
  rw [clearIfGone, if_pos (show s.refCount p ≠ 0 ∧ u.refCount p = 0 from h), refClear, if_pos releasing]
  exact becomeIdle_player_same p u

theorem clearIfGone_kept {s u : State} {p : PlayerId} (h : ¬ (s.Clears u p ∧ (u.player p).state = .releasing)) :
    clearIfGone p (s.refCount p) u = u := by
  unfold clearIfGone refClear
  split
  · next cleared => exact if_neg fun releasing => h ⟨cleared, releasing⟩
  · rfl

/-- A RELEASING player whose last record a change clears becomes IDLE. -/
theorem withClears_player_cleared {s u : State} {p : PlayerId} (h : s.Clears u p) (releasing : (u.player p).state = .releasing) :
    (withClears s u).player p = (u.player p).toIdle := by
  unfold withClears
  cases p with
  | a =>
    rw [clearIfGone_player_other (by decide)]
    exact clearIfGone_player_cleared h releasing
  | b =>
    have same := clearIfGone_player_other (r := .b) (p := .a) (by decide) (s.refCount .a) u
    rw [clearIfGone_player_cleared ⟨h.1, (clearIfGone_refCount _ _ _ u).trans h.2⟩ (same ▸ releasing), same]

/-- Any other player is as the change leaves it. -/
theorem withClears_player_kept {s u : State} {p : PlayerId} (h : ¬ (s.Clears u p ∧ (u.player p).state = .releasing)) :
    (withClears s u).player p = u.player p := by
  unfold withClears
  cases p with
  | a =>
    rw [clearIfGone_player_other (by decide), clearIfGone_kept h]
  | b =>
    have same := clearIfGone_player_other (r := .b) (p := .a) (by decide) (s.refCount .a) u
    have other : ¬ (s.Clears (clearIfGone .a (s.refCount .a) u) .b ∧
        ((clearIfGone .a (s.refCount .a) u).player .b).state = .releasing) := by
      rwa [State.Clears, clearIfGone_refCount, same]
    rw [clearIfGone_kept other, same]

theorem withClears_axis (s u : State) (i : Fin 8) : (withClears s u).axis i = u.axis i := by
  rw [State.axis, withClears_axes, ← State.axis]

theorem withClears_refCount (s u : State) (p : PlayerId) : (withClears s u).refCount p = u.refCount p :=
  refCount_of_axes (withClears_axes s u) p

theorem withClears_self (s : State) : withClears s s = s := withClears_of_refCount fun _ => rfl

/-- What the arrivals of a change of the blend records make of a player that the change itself leaves alone. -/
theorem withClears_arrivals {s u : State} {p : PlayerId} (same : u.player p = s.player p) :
    ((s.player p).state = .releasing → s.refCount p ≠ 0 → (withClears s u).refCount p = 0 →
      ((withClears s u).player p).state = .idle) ∧
    ((s.player p).state ≠ .releasing ∨ s.refCount p = 0 ∨ (withClears s u).refCount p ≠ 0 →
      (withClears s u).player p = s.player p) := by
  rw [withClears_refCount]
  refine ⟨fun releasing named unnamed => ?_, fun h => ?_⟩
  · rw [withClears_player_cleared ⟨named, unnamed⟩ (same ▸ releasing)]
    rfl
  · rw [withClears_player_kept, same]
    rintro ⟨⟨named, unnamed⟩, releasing⟩
    rw [same] at releasing
    rcases h with other | zero | kept
    · exact other releasing
    · exact named zero
    · exact kept unnamed

/-- The Recorder, the transaction, the notices, the fault log and the link are as before. -/
structure SameElsewhere (s t : State) : Prop where
  recorder : t.recorder = s.recorder := by rfl
  txn : t.txn = s.txn := by rfl
  notices : t.notices = s.notices := by rfl
  log : t.log = s.log := by rfl
  link : t.link = s.link := by rfl

theorem SameElsewhere.trans {s t u : State} (h : SameElsewhere s t) (k : SameElsewhere t u) : SameElsewhere s u :=
  ⟨k.recorder.trans h.recorder, k.txn.trans h.txn, k.notices.trans h.notices, k.log.trans h.log, k.link.trans h.link⟩

theorem becomeIdle_elsewhere (p : PlayerId) (s : State) : SameElsewhere s (becomeIdle p s) := by
  unfold becomeIdle
  simp only
  split <;> cases p <;> exact {}

theorem clearIfGone_elsewhere (p : PlayerId) (n : Nat) (s : State) : SameElsewhere s (clearIfGone p n s) := by
  unfold clearIfGone refClear
  split
  · split
    · exact becomeIdle_elsewhere p s
    · exact {}
  · exact {}

theorem withClears_elsewhere (s u : State) : SameElsewhere u (withClears s u) :=
  (clearIfGone_elsewhere _ _ u).trans (clearIfGone_elsewhere _ _ _)

/-! ### FADE_COMPLETE -/

theorem exec_fadeComplete {s : State} (h : s.power.on = true) (i : Fin 8) : exec (.fadeComplete i.val) s =
    happened (withClears s (s.modAxis i fun a => { a with blend := a.blend.completeIfDue })) := by
  rw [show exec (.fadeComplete i.val) s = execFadeComplete i.val s from rfl, execFadeComplete, event_on h, indexOf?_val]

/-- FADE_COMPLETE at a record that has counted its frames (R36). -/
theorem fadeComplete_due {s : State} (h : s.power.on = true) {i : Fin 8} {f : Nat}
    (fades : (s.axis i).blend.fromSrc ≠ (s.axis i).blend.toSrc) (len : (s.axis i).blend.len = some f)
    (due : (s.axis i).blend.k = f) :
    ∃ t : State, exec (.fadeComplete i.val) s = happened t ∧
      (t.axis i).blend = { (s.axis i).blend with
        fromSrc := (s.axis i).blend.toSrc, k := 0, len := none,
        trim := if (s.axis i).blend.toSrc = .live then 0 else (s.axis i).blend.trim } ∧
      (∀ j : Fin 8, j ≠ i → t.axis j = s.axis j) ∧
      ∀ p : PlayerId, ((s.player p).state = .releasing → s.refCount p ≠ 0 → t.refCount p = 0 → (t.player p).state = .idle) ∧
        ((s.player p).state ≠ .releasing → t.player p = s.player p) := by
  refine ⟨_, exec_fadeComplete h i, ?_, fun j other => ?_, fun p => ?_⟩
  · rw [withClears_axis, State.modAxis, setAxis_axis_same]
    exact completeIfDue_due fades (len.trans (congrArg some due.symm))
  · rw [withClears_axis, State.modAxis, setAxis_axis_other _ _ _ _ other]
  · obtain ⟨idle, kept⟩ := withClears_arrivals (modAxis_player i (fun a => { a with blend := a.blend.completeIfDue }) s p)
    exact ⟨idle, fun other => kept (.inl other)⟩

/-- FADE_COMPLETE at a record that has not (log 5). -/
theorem fadeComplete_early {s : State} (h : s.power.on = true) {i : Fin 8} (early : (s.axis i).blend.len ≠ some (s.axis i).blend.k) :
    exec (.fadeComplete i.val) s = happened s := by
  have same : (s.modAxis i fun a => { a with blend := a.blend.completeIfDue }) = s := by
    rw [State.modAxis, completeIfDue_early early]
    exact setAxis_same s i
  rw [exec_fadeComplete h, same, withClears_self]

/-- Settles O25: the cases of R39 from `fadeTo_cases`, and the count by induction on the frames. -/
theorem fadeChangesAndCountsARecord : Obligations.FadeChangesAndCountsARecord := by
  refine ⟨fadeTo_cases, fun b x f out steady off hf => ?_, fun i s on => ⟨fun f => fadeComplete_due on, fadeComplete_early on⟩⟩
  rw [fadeTo_start steady off hf]
  refine ⟨fun n short => ?_, progress_iterate_whole off hf⟩
  rw [progress_iterate off short]
  exact ⟨rfl, weight_fading off rfl⟩

/-! ### FADE (R37, R38) -/

theorem mask_axes_sorted (m : Mask) : (Mask.axes m).Pairwise (· < ·) :=
  List.Pairwise.filter _ (List.pairwise_lt_finRange 8)

/-- The lowest axis that fails is the one found. -/
theorem firstFailing_lowest {check : Fin 8 → Result} {i : Fin 8} (fails : check i ≠ .ok) : ∀ {l : List (Fin 8)},
    l.Pairwise (· < ·) → i ∈ l → (∀ j ∈ l, j < i → check j = .ok) → firstFailing check l = some (i, check i)
  | [], _, h, _ => absurd h List.not_mem_nil
  | j :: t, sorted, h, before => by
    obtain ⟨below, sorted⟩ := List.pairwise_cons.mp sorted
    unfold firstFailing
    rcases List.mem_cons.mp h with rfl | tail
    · exact if_neg fails
    · rw [if_pos (before j List.mem_cons_self (below i tail))]
      exact firstFailing_lowest fails sorted tail fun k hk => before k (List.mem_cons_of_mem j hk)

theorem firstFailing_pass {check : Fin 8 → Result} {l : List (Fin 8)} (h : ∀ i ∈ l, check i = .ok) :
    firstFailing check l = none := by
  induction l with
  | nil => rfl
  | cons i t ih =>
    rw [firstFailing, if_pos (h i List.mem_cons_self)]
    exact ih fun j hj => h j (List.mem_cons_of_mem i hj)

theorem player?_eq_some {x : Source} {p : PlayerId} : x.player? = some p ↔ x = p.source := by
  cases x <;> cases p <;> decide

theorem fadeCheck_inactive {s : State} {i : Fin 8} (h : (s.axis i).state ≠ .active) (x : Source) :
    fadeCheck s x i = .wrongState := if_pos h

theorem fadeCheck_noTarget {s : State} {i : Fin 8} (active : (s.axis i).state = .active) {x : Source} {p : PlayerId}
    (h : x = p.source) (unfit : (s.player p).fadable = false) : fadeCheck s x i = .wrongState := by
  simp [fadeCheck, active, player?_eq_some.mpr h, unfit]

theorem fadeCheck_notInMove {s : State} {i : Fin 8} (active : (s.axis i).state = .active) {x : Source} {p : PlayerId}
    (h : x = p.source) (fit : (s.player p).fadable = true) (out : (s.player p).covers i = false) :
    fadeCheck s x i = .axisNotInMove := by
  simp [fadeCheck, active, player?_eq_some.mpr h, fit, out]

/-- The last check of an axis: a record that fades takes only the reversal (R38). -/
theorem fadeCheck_last {s : State} {i : Fin 8} (active : (s.axis i).state = .active) {x : Source}
    (target : ∀ p : PlayerId, x = p.source → (s.player p).fadable = true ∧ (s.player p).covers i = true) :
    fadeCheck s x i = if (s.axis i).blend.fading = true ∧ x ≠ (s.axis i).blend.fromSrc then .busy else .ok := by
  unfold fadeCheck
  simp only [active, ne_eq, not_true_eq_false, if_false]
  cases named : x.player? with
  | none => rfl
  | some p =>
    obtain ⟨fit, covers⟩ := target p (player?_eq_some.mp named)
    simp [fit, covers]

theorem fadable_iff {r : Player} : r.fadable = true ↔ r.filled = true ∧ (r.state = .loaded ∨ r.state = .running ∨
    r.state = .paused ∨ r.state = .starved ∨ r.state = .ended) := by
  simp [Player.fadable, and_comm]

theorem fadable_false {r : Player} (h : r.filled = false ∨ r.state = .idle ∨ r.state = .releasing ∨ r.state = .faulted) :
    r.fadable = false := by
  rcases h with h | h | h | h <;> simp [Player.fadable, h]

theorem mask_ne_zero {m : Mask} {i : Fin 8} (h : Mask.has m i = true) : m ≠ 0#8 := by
  rintro rfl
  simp [Mask.has] at h

theorem execFade_eq (m : Mask) (x : Source) (f : Nat) (s : State) (h : s.delivers = true) :
    exec (.fade m.toNat x.code f) s = delivered (.fade m.toNat x.code f) s (fadeRequest m.toNat x.code f s).1
      { code := (fadeRequest m.toNat x.code f s).2.1, fields := encAxis? (fadeRequest m.toNat x.code f s).2.2 } := by
  rw [show exec (.fade m.toNat x.code f) s = execFade m.toNat x.code f s from rfl, execFade, answered_delivers h]

theorem fadeRequest_pass {m : Mask} (nonempty : m ≠ 0#8) {f : Nat} (hf : f ≤ 65535) {x : Source} {s : State}
    (pass : ∀ i : Fin 8, Mask.has m i = true → fadeCheck s x i = .ok) :
    fadeRequest m.toNat x.code f s = (fadeAxes m x f s, .ok, none) := by
  unfold fadeRequest
  rw [maskOf?_toNat nonempty, sourceOf?_code]
  simp only
  rw [if_neg (by omega), firstFailing_pass fun i h => pass i (mem_maskAxes.mp h)]

theorem fadeRequest_fail {m : Mask} {f : Nat} (hf : f ≤ 65535) {x : Source} {s : State} {i : Fin 8} (named : Mask.has m i = true)
    (before : ∀ j : Fin 8, j < i → Mask.has m j = true → fadeCheck s x j = .ok) (fails : fadeCheck s x i ≠ .ok) :
    fadeRequest m.toNat x.code f s = (s, fadeCheck s x i, some i) := by
  unfold fadeRequest
  rw [maskOf?_toNat (mask_ne_zero named), sourceOf?_code]
  simp only
  rw [if_neg (by omega), firstFailing_lowest fails (mask_axes_sorted m) (mem_maskAxes.mpr named)
    fun j h low => before j low (mem_maskAxes.mp h)]

theorem fadeAxes_axis (m : Mask) (x : Source) (f : Nat) (s : State) (i : Fin 8) : (fadeAxes m x f s).axis i =
    if Mask.has m i then { s.axis i with blend := (s.axis i).blend.fadeTo x f (s.axis i).out } else s.axis i := by
  rw [fadeAxes, withClears_axis, mapAxes_axis]

theorem fadeAxes_players (m : Mask) (x : Source) (f : Nat) (s : State) : SameButMotion s (fadeAxes m x f s) ∧
    (fadeAxes m x f s).cue = s.cue :=
  ⟨(mapAxes_motion _ s).trans (withClears_players s _).sameButMotion, (withClears_players s _).cue⟩

theorem fadeAxes_elsewhere (m : Mask) (x : Source) (f : Nat) (s : State) : SameElsewhere s (fadeAxes m x f s) :=
  SameElsewhere.trans {} (withClears_elsewhere s _)

theorem fadeAxes_arrivals (m : Mask) (x : Source) (f : Nat) (s : State) (p : PlayerId) :
    ((s.player p).state = .releasing → s.refCount p ≠ 0 → (fadeAxes m x f s).refCount p = 0 →
      ((fadeAxes m x f s).player p).state = .idle) ∧
    ((s.player p).state ≠ .releasing ∨ s.refCount p = 0 ∨ (fadeAxes m x f s).refCount p ≠ 0 →
      (fadeAxes m x f s).player p = s.player p) :=
  withClears_arrivals (mapAxes_player _ s p)

/-- A FADE that passes its checks (R37 to R39). -/
theorem fade_accepted {m : Mask} {x : Source} {f : Nat} {s : State} (h : s.delivers = true) (nonempty : m ≠ 0#8) (hf : f ≤ 65535)
    (pass : ∀ i : Fin 8, Mask.has m i = true → fadeCheck s x i = .ok) :
    exec (.fade m.toNat x.code f) s =
      delivered (.fade m.toNat x.code f) s (fadeAxes m x f s) { code := .ok, fields := [0#8, 0#8] } := by
  rw [execFade_eq m x f s h, fadeRequest_pass nonempty hf pass]
  rfl

/-- A FADE refused at an axis (R38). -/
theorem fade_refused {m : Mask} {x : Source} {f : Nat} {i : Fin 8} {s : State} {c : Result} (h : s.delivers = true)
    (hf : f ≤ 65535) (named : Mask.has m i = true)
    (before : ∀ j : Fin 8, j < i → Mask.has m j = true → fadeCheck s x j = .ok) (fails : fadeCheck s x i = c) (bad : c ≠ .ok) :
    exec (.fade m.toNat x.code f) s =
      delivered (.fade m.toNat x.code f) s s { code := c, fields := [1#8, BitVec.ofNat 8 i.val] } := by
  rw [execFade_eq m x f s h, fadeRequest_fail hf named before (fails ▸ bad), fails]
  rfl

theorem fadeRequest_badValue {mask target f : Nat} (h : mask = 0 ∨ 256 ≤ mask ∨ 3 ≤ target ∨ 65535 < f) (s : State) :
    fadeRequest mask target f s = (s, .badValue, none) := by
  unfold fadeRequest
  split
  · next m x mask' target' =>
    refine if_pos ?_
    have inRange : 0 < mask ∧ mask < 256 := by
      by_contra out
      simp [maskOf?, out] at mask'
    have source : target < 3 := by
      by_contra out
      unfold sourceOf? at target'
      split at target'
      · omega
      · omega
      · omega
      · cases target'
    omega
  · rfl

/-- Settles O26: each check by the code it answers, and the lowest axis that fails by the order in which the mask is searched. -/
theorem fadeRequestChecksItsAxes : Obligations.FadeRequestChecksItsAxes := by
  refine ⟨fun m x f s h nonempty hf fit => ?_, fun m x f i s h hf named before => ?_, fun mask target f s h bad => ?_⟩
  · have pass : ∀ i : Fin 8, Mask.has m i = true → fadeCheck s x i = .ok := fun i named => by
      obtain ⟨active, free, target⟩ := fit i named
      rw [fadeCheck_last active fun p e => ⟨fadable_iff.mpr ⟨(target p e).1, (target p e).2.2⟩, (target p e).2.1⟩]
      refine if_neg fun ⟨fades, other⟩ => ?_
      rcases free with steady | reversal
      · exact fading_iff.mp fades steady
      · exact other reversal.symm
    obtain ⟨same, cue⟩ := fadeAxes_players m x f s
    have elsewhere := fadeAxes_elsewhere m x f s
    refine ⟨fadeAxes m x f s, fade_accepted h nonempty hf pass, fadeAxes_axis m x f s, fun p => ?_, elsewhere.recorder, cue,
      same.timer, elsewhere.notices, elsewhere.log⟩
    obtain ⟨idle, kept⟩ := fadeAxes_arrivals m x f s p
    refine ⟨fun named unnamed releasing => idle releasing named unnamed, fun k => kept ?_⟩
    exact k.elim (fun named => .inr (.inr named)) fun k => k.elim (fun zero => .inr (.inl zero)) .inl
  · refine ⟨fun inactive => ?_, fun p active target unfit => ?_, fun p active target fit out => ?_, fun active target fades other => ?_⟩
    · exact fade_refused h hf named before (fadeCheck_inactive inactive x) (by decide)
    · exact fade_refused h hf named before (fadeCheck_noTarget active target (fadable_false unfit)) (by decide)
    · exact fade_refused h hf named before (fadeCheck_notInMove active target fit out) (by decide)
    · refine fade_refused h hf named before ?_ (by decide)
      rw [fadeCheck_last active target, if_pos ⟨fading_iff.mpr fades, other⟩]
  · rw [show exec (.fade mask target f) s = execFade mask target f s from rfl, execFade]
    refine answered_eq h ?_
    simp only [fadeRequest_badValue bad s]
    rfl

/-! ### TAKE_OVER (R43, R44) -/

theorem handBackWhere_axis (p : Blend → Bool) (s : State) (i : Fin 8) : (handBackWhere p s).axis i =
    if (s.axis i).state = .active ∧ p (s.axis i).blend = true then
      { s.axis i with blend := (s.axis i).blend.handBack s.geometry.releaseFrames (s.axis i).out } else s.axis i := by
  rw [handBackWhere, withClears_axis, mapAxes_axis]

theorem handBackWhere_arrivals (b : Blend → Bool) (s : State) (p : PlayerId) :
    ((s.player p).state = .releasing → s.refCount p ≠ 0 → (handBackWhere b s).refCount p = 0 →
      ((handBackWhere b s).player p).state = .idle) ∧
    ((s.player p).state ≠ .releasing ∨ s.refCount p = 0 ∨ (handBackWhere b s).refCount p ≠ 0 →
      (handBackWhere b s).player p = s.player p) :=
  withClears_arrivals (mapAxes_player _ s p)

theorem takeOver_active {s : State} {i : Fin 8} (h : (s.axis i).state = .active) : (takeOver s).axis i =
    { s.axis i with blend := (s.axis i).blend.handBack s.geometry.releaseFrames (s.axis i).out } := by
  rw [takeOver, handBackWhere_axis, if_pos ⟨h, rfl⟩]

theorem takeOver_other {s : State} {i : Fin 8} (h : (s.axis i).state ≠ .active) : (takeOver s).axis i = s.axis i := by
  rw [takeOver, handBackWhere_axis, if_neg fun k => h k.1]

/-- Settles O27: an axis is handed back by the case of its record, and a player changes by its arrival alone. -/
theorem takeOverHandsBack : Obligations.TakeOverHandsBack := by
  intro s h
  refine ⟨takeOver s, answered_accept (act := fun s => accept (takeOver s)) h rfl, fun i => takeOver_other, fun i active => ?_, fun i active live => ?_,
    fun i active hfrom steady => ?_, fun i active hfrom hto fades => ?_, fun i n active hfrom hto len hr => ?_, fun p => ?_⟩
  · rw [takeOver_active active]
    exact ⟨handBack_toSrc _ _ _, rfl⟩
  · rw [takeOver_active active, handBack_onLive live]
  · rw [takeOver_active active]
    exact handBack_start hfrom steady _ _
  · rw [takeOver_active active]
    exact handBack_cut hfrom hto fades _ _
  · rw [takeOver_active active]
    show Blend.handBack _ _ _ = _
    rw [handBack_reverse hfrom hto, reverse_eq (fun e => hto (e ▸ hfrom)) len hr, hfrom]
    rfl
  · exact (handBackWhere_arrivals _ s p).symm

end Sys2Proof.Machine
end

section
/-! Stages 2 to 6 of an output frame (R22): what asking the players leaves, and what the Blend Engine and the Limit Stage make
of each axis. -/

namespace Sys2Proof.Machine

/-! ### Events at the Stick Port -/

theorem staleExpire_stick_eq (s : State) : (staleExpire s).stick = if s.stick.port = .live then s.stick.expired else s.stick := by
  unfold staleExpire
  split <;> rfl

theorem axis_of_axes {s t : State} (axes : t.axes = s.axes) (i : Fin 8) : t.axis i = s.axis i := by
  rw [State.axis, axes, ← State.axis]

theorem released_congr {s t : State} (stick : t.stick = s.stick) (axes : t.axes = s.axes) (ch : Fin 8) :
    t.released ch = s.released ch := by
  have axis : t.axis = s.axis := funext (axis_of_axes axes)
  unfold State.released State.threshold State.boundDeadbands
  rw [axis, stick]

/-- What an arrival makes of the Stick Port depends on the port and the axes alone. -/
theorem portArrival_stick_congr {s t : State} (stick : t.stick = s.stick) (axes : t.axes = s.axes) (seq : Nat)
    (samples : List Int) (codes : List Nat) :
    (portArrival seq samples codes t).1.stick = (portArrival seq samples codes s).1.stick := by
  have channels : (fun ch => State.released { t with stick := t.stick.arrive seq samples } ch) =
      fun ch => State.released { s with stick := s.stick.arrive seq samples } ch :=
    funext fun ch => released_congr (t := { t with stick := t.stick.arrive seq samples })
      (s := { s with stick := s.stick.arrive seq samples }) (congrArg (fun p => StickPort.arrive p seq samples) stick) axes ch
  rw [portArrival_eq, portArrival_eq, afterArrival_stick, afterArrival_stick, channels, stick]

theorem stickEvent_stick_congr {s t : State} (stick : t.stick = s.stick) (axes : t.axes = s.axes) (e : StickEvent) :
    (stickEvent e t).1.stick = (stickEvent e s).1.stick := by
  cases e with
  | frame seq samples codes check =>
    have hunting : (panelHunt t).stick = (panelHunt s).stick := by
      show { t.stick with receiver := none } = ({ s.stick with receiver := none } : StickPort)
      rw [stick]
    simp only [stickEvent, portFrame]
    split
    · unfold portComplete
      split
      · exact portArrival_stick_congr hunting axes seq samples codes
      · exact hunting
    · exact hunting
  | expiry =>
    show (staleExpire t).stick = (staleExpire s).stick
    rw [staleExpire_stick_eq, staleExpire_stick_eq, stick]

theorem stickEvents_stick_congr (l : List StickEvent) : ∀ {s t : State}, t.stick = s.stick → t.axes = s.axes →
    (stickEvents l t).1.stick = (stickEvents l s).1.stick := by
  induction l with
  | nil => exact fun stick _ => stick
  | cons e l ih =>
    intro s t stick axes
    exact ih (stickEvent_stick_congr stick axes e)
      ((stickEvent_stick e t).axes.trans (axes.trans (stickEvent_stick e s).axes.symm))

theorem stickEvents_append (l m : List StickEvent) : ∀ s : State,
    (stickEvents (l ++ m) s).1 = (stickEvents m (stickEvents l s).1).1 := by
  induction l with
  | nil => exact fun _ => rfl
  | cons e l ih => exact fun s => ih _

/-- The Stick Port after stage 2 is as the panel frames and stale expiries that fell into it leave it (log 29). -/
theorem askPlayers_stick (turns : PlayerTurns) {s t : State} (stick : t.stick = s.stick) (axes : t.axes = s.axes) :
    (askPlayers turns t).1.stick = (stickEvents (turns.mid ++ turns.late) s).1.stick := by
  rw [stickEvents_append]
  have first := (frameAccesses_players turns.accesses t).trans ((positionRequest_players (firstAsked turns.order) _).trans
    (frameAccesses_players turns.midAccesses _))
  have mid := stickEvents_stick_congr turns.mid (first.stick.trans stick) (first.axes.trans axes)
  have midAxes := (stickEvents_stick turns.mid _).axes.trans (first.axes.trans (axes.trans (stickEvents_stick turns.mid s).axes.symm))
  have second := (positionRequest_players (secondAsked turns.order) _).trans (frameAccesses_players turns.lateAccesses
    (positionRequest (secondAsked turns.order) (stickEvents turns.mid (frameAccesses turns.midAccesses
      (positionRequest (firstAsked turns.order) (frameAccesses turns.accesses t)))).1))
  exact stickEvents_stick_congr turns.late (second.stick.trans mid) (second.axes.trans midAxes)

/-! ### What asking makes of a player -/

theorem SameButLibrary.player {s t : State} (h : SameButLibrary s t) (p : PlayerId) : t.player p = s.player p :=
  player_of h.playerA h.playerB p

theorem SameButStick.player {s t : State} (h : SameButStick s t) (p : PlayerId) : t.player p = s.player p :=
  player_of h.playerA h.playerB p

/-- All the conditions of R107 hold. -/
def Player.asks (r : Player) : Bool :=
  r.move.isSome && r.cursor.isSome && r.fetches && !r.outstanding && r.keysRemain && r.hasRoom

/-- A player that applies R107: with all its conditions met its fetch is outstanding. -/
def Player.asking (r : Player) : Player := if r.asks then { r with outstanding := true } else r

theorem asking_eq (r : Player) : ∃ o : Bool, r.asking = { r with outstanding := o } := by
  unfold Player.asking
  split
  · exact ⟨true, rfl⟩
  · exact ⟨r.outstanding, rfl⟩

theorem asks_iff {r : Player} : r.asks = true ↔ ∃ (m : MoveIx) (c : Cursor), r.move = some m ∧ r.cursor = some c ∧
    r.fetches = true ∧ r.outstanding = false ∧ r.keysRemain = true ∧ r.hasRoom = true := by
  simp only [Player.asks, Bool.and_eq_true, Option.isSome_iff_exists, Bool.not_eq_true']
  constructor
  · rintro ⟨⟨⟨⟨⟨⟨m, hm⟩, c, hc⟩, fetching⟩, free⟩, remain⟩, room⟩
    exact ⟨m, c, hm, hc, fetching, free, remain, room⟩
  · rintro ⟨m, c, hm, hc, fetching, free, remain, room⟩
    exact ⟨⟨⟨⟨⟨⟨m, hm⟩, c, hc⟩, fetching⟩, free⟩, remain⟩, room⟩

theorem fetchIfRoom_asks {p : PlayerId} {s : State} {m : MoveIx} {c : Cursor} (move : (s.player p).move = some m)
    (cursor : (s.player p).cursor = some c) (h : (s.player p).asks = true) : fetchIfRoom p s =
      requestPort (.fetch p m c.index c.block c.slot) (s.setPlayer p { s.player p with outstanding := true }) := by
  obtain ⟨_, _, _, _, fetching, free, remain, room⟩ := asks_iff.mp h
  simp [fetchIfRoom, move, cursor, fetching, free, remain, room]

theorem fetchIfRoom_silent {p : PlayerId} {s : State} (h : (s.player p).asks = false) : fetchIfRoom p s = s := by
  unfold fetchIfRoom
  simp only
  split
  · next m c move cursor =>
    refine if_neg fun ready => Bool.eq_false_iff.mp h (asks_iff.mpr ⟨m, c, move, cursor, ?_⟩)
    simpa [and_assoc] using ready
  · rfl

theorem fetchIfRoom_player_same (p : PlayerId) (s : State) : (fetchIfRoom p s).player p = (s.player p).asking := by
  unfold Player.asking
  split
  · next asks =>
    obtain ⟨m, c, move, cursor, _⟩ := asks_iff.mp asks
    rw [fetchIfRoom_asks move cursor asks, (requestPort_library _ _).player, setPlayer_player_same]
  · next silent => rw [fetchIfRoom_silent (Bool.eq_false_iff.mpr silent)]

theorem fetchIfRoom_player_other {p r : PlayerId} (h : r ≠ p) (s : State) : (fetchIfRoom p s).player r = s.player r := by
  unfold fetchIfRoom
  simp only
  split
  · split
    · rw [(requestPort_library _ _).player, setPlayer_player_other _ _ _ _ h]
    · rfl
  · rfl

/-- What a position request makes of a player whose rate it sets to `rate` (R114). -/
def Player.requested (r : Player) (rate : Nat) : Player :=
  if r.state = .running then
    match r.filled, r.startKey, r.endKey with
    | true, some k0, some k1 => (({ r with rate := rate } : Player).advance (r.time + rate) k0 k1).asking
    | _, _, _ => { r with rate := rate }
  else r

theorem requested_filled {r : Player} {k0 k1 : PlayerKey} (running : r.state = .running) (full : r.filled = true)
    (start : r.startKey = some k0) (stop : r.endKey = some k1) (rate : Nat) :
    r.requested rate = (({ r with rate := rate } : Player).advance (r.time + rate) k0 k1).asking := by
  simp only [Player.requested, running, full, start, stop, if_true]

/-- A RUNNING player without both keys of its segment takes the rate alone. -/
theorem requested_blank {r : Player} (running : r.state = .running)
    (blank : ∀ k0 k1 : PlayerKey, r.filled = true → r.startKey = some k0 → r.endKey = some k1 → False) (rate : Nat) :
    r.requested rate = { r with rate := rate } := by
  unfold Player.requested
  rw [if_pos running]
  split
  · next full start stop => exact (blank _ _ full start stop).elim
  · rfl

theorem positionRequest_player_same (p : PlayerId) (s : State) :
    (positionRequest p s).player p = (s.player p).requested (s.boundRate (s.player p)) := by
  unfold positionRequest
  split
  · next running =>
    unfold runningRequest
    simp only
    split
    · next full start stop =>
      rw [requested_filled running full start stop, fetchIfRoom_player_same]
      split
      · rw [setPlayer_player_same]
      · rw [(playerNotice_library _ _).player, setPlayer_player_same]
    · next blank => rw [requested_blank running blank, setPlayer_player_same]
  · next still => rw [Player.requested, if_neg still]

theorem positionRequest_player_other {p r : PlayerId} (h : r ≠ p) (s : State) : (positionRequest p s).player r = s.player r := by
  unfold positionRequest
  split
  · unfold runningRequest
    simp only
    split
    · rw [fetchIfRoom_player_other h]
      split
      · rw [setPlayer_player_other _ _ _ _ h]
      · rw [(playerNotice_library _ _).player, setPlayer_player_other _ _ _ _ h]
    · rw [setPlayer_player_other _ _ _ _ h]
  · rfl

theorem boundRate_congr {s t : State} (stick : t.stick = s.stick) (r : Player) : t.boundRate r = s.boundRate r := by
  simp only [State.boundRate, stick]

/-- A position request is answered from the player's record and the held samples alone. -/
theorem positionRequest_player_congr {p : PlayerId} {s t : State} (player : t.player p = s.player p) (stick : t.stick = s.stick) :
    (positionRequest p t).player p = (positionRequest p s).player p := by
  rw [positionRequest_player_same, positionRequest_player_same, player, boundRate_congr stick]

/-- A player is RELEASING after a change exactly when it was before, with the same rate and binding. -/
structure Player.Releases (r r' : Player) : Prop where
  state : r'.state = .releasing ↔ r.state = .releasing
  rate : r.state = .releasing → r'.rate = r.rate
  binding : r.state = .releasing → r'.binding = r.binding

theorem Player.Releases.refl (r : Player) : r.Releases r := ⟨.rfl, fun _ => rfl, fun _ => rfl⟩

theorem Player.Releases.of_eq {r r' : Player} (h : r' = r) : r.Releases r' := h ▸ .refl r

theorem Player.Releases.trans {r r' r'' : Player} (h : r.Releases r') (k : r'.Releases r'') : r.Releases r'' where
  state := k.state.trans h.state
  rate := fun e => (k.rate (h.state.mpr e)).trans (h.rate e)
  binding := fun e => (k.binding (h.state.mpr e)).trans (h.binding e)

/-- Between two states other than RELEASING anything may change. -/
theorem Player.Releases.of_other {r r' : Player} (h : r.state ≠ .releasing) (k : r'.state ≠ .releasing) : r.Releases r' where
  state := ⟨fun e => absurd e k, fun e => absurd e h⟩
  rate := fun e => absurd e h
  binding := fun e => absurd e h

theorem asking_releases (r : Player) : r.Releases r.asking := by
  obtain ⟨o, e⟩ := asking_eq r
  rw [e]
  exact ⟨.rfl, fun _ => rfl, fun _ => rfl⟩

theorem advance_ne_releasing {r : Player} (h : r.state ≠ .releasing) (time : Nat) (k0 k1 : PlayerKey) :
    (r.advance time k0 k1).state ≠ .releasing := by
  obtain ⟨_, _, _, _, _, _, _, same | ⟨_, starved | ended⟩⟩ := advance_keys r time k0 k1
  · exact same ▸ h
  · rw [starved]
    decide
  · rw [ended]
    decide

theorem requested_releases (r : Player) (rate : Nat) : r.Releases (r.requested rate) := by
  unfold Player.requested
  split
  · next running =>
    have moving : r.state ≠ .releasing := by simp [running]
    split
    · exact Player.Releases.trans (.of_other moving (advance_ne_releasing (r := { r with rate := rate }) moving _ _ _))
        (asking_releases _)
    · exact .of_other moving moving
  · exact .refl r

theorem place_ne_releasing {r : Player} (h : r.state ≠ .releasing) (i : Nat) (k : Key) (n : Option (Nat × Nat)) :
    (r.place i k n).state ≠ .releasing := by
  unfold Player.place
  simp only
  split
  · exact h
  · show (if r.state = .starved then PlayerState.running else r.state) ≠ .releasing
    split
    · decide
    · exact h
  · exact h

theorem fetchIfRoom_releases (p r : PlayerId) (s : State) : (s.player r).Releases ((fetchIfRoom p s).player r) := by
  by_cases own : r = p
  · rw [own, fetchIfRoom_player_same]
    exact asking_releases _
  · exact .of_eq (fetchIfRoom_player_other own s)

theorem positionRequest_releases (p r : PlayerId) (s : State) : (s.player r).Releases ((positionRequest p s).player r) := by
  by_cases own : r = p
  · rw [own, positionRequest_player_same]
    exact requested_releases _ _
  · exact .of_eq (positionRequest_player_other own s)

theorem deliverFetch_releases (p r : PlayerId) (i : Nat) (b : Bool) (c : KeyCheck) (k : Key) (n : Option (Nat × Nat)) (s : State) :
    (s.player r).Releases ((deliverFetch true p i b c k n s).player r) := by
  have one : ∀ {x : Player}, (r = p → (s.player r).Releases x) → (s.player r).Releases ((s.setPlayer p x).player r) :=
    fun own => setPlayer_player_cases (P := (s.player r).Releases) own (.refl _)
  unfold deliverFetch
  split
  · exact one fun e => e ▸ ⟨.rfl, fun _ => rfl, fun _ => rfl⟩
  · next fetching =>
    have other : (s.player p).state ≠ .releasing := fun e => fetching (.inl (by simp [Player.fetches, e]))
    split
    · exact one fun e => e ▸ ⟨.rfl, fun _ => rfl, fun _ => rfl⟩
    · refine one fun e => ?_
      rw [e]
      exact .of_other other (place_ne_releasing other _ _ _)

theorem deliverOutcome_releases (r : PlayerId) (v : Serving) (c : KeyCheck) (s : State) :
    (s.player r).Releases ((deliverOutcome true v c s).player r) := by
  unfold deliverOutcome
  split
  · split
    · exact deliverFetch_releases _ _ _ _ _ _ _ s
    · exact .refl _
  · exact .of_eq ((deliverRecorder_library s).player r)
  · exact .of_eq ((deliverConsoleWrite_library s).player r)
  · exact .of_eq ((deliverConsoleRead_library _ _ _ s).player r)

theorem nextRequest_releases (r : PlayerId) (a : Access) (s : State) : (s.player r).Releases ((nextRequest a s).player r) := by
  unfold nextRequest
  split
  · exact fetchIfRoom_releases _ r s
  · exact .of_eq ((recorderNext_library s).player r)
  · exact .of_eq ((consoleStep_library s).player r)
  · exact .of_eq ((consoleStep_library s).player r)

theorem frameAccess_releases (r : PlayerId) (c : KeyCheck) (s : State) :
    (s.player r).Releases ((completeAccess true c s).player r) := by
  unfold completeAccess
  split
  · exact .refl _
  · exact .trans (.of_eq ((finishAccess_library _ c s).player r)) (.trans (deliverOutcome_releases r _ c _)
      (.trans (.of_eq ((freePort_library _).player r)) (nextRequest_releases r _ _)))

theorem frameAccesses_releases (r : PlayerId) (l : List KeyCheck) : ∀ s : State,
    (s.player r).Releases ((frameAccesses l s).player r) := by
  induction l with
  | nil => exact fun _ => .refl _
  | cons c t ih => exact fun s => (frameAccess_releases r c s).trans (ih _)

theorem askPlayers_releases (r : PlayerId) (t : PlayerTurns) (s : State) : (s.player r).Releases ((askPlayers t s).1.player r) :=
  (frameAccesses_releases r t.accesses s).trans ((positionRequest_releases _ r _).trans
    ((frameAccesses_releases r t.midAccesses _).trans ((Player.Releases.of_eq ((stickEvents_stick t.mid _).player r)).trans
      ((positionRequest_releases _ r _).trans ((frameAccesses_releases r t.lateAccesses _).trans
        (.of_eq ((stickEvents_stick t.late _).player r)))))))

theorem secondAsked_ne (o : PlayerOrder) : secondAsked o ≠ firstAsked o := by cases o <;> decide

/-- With no access completing between and after the answers, each player's record is as its own request leaves it (R12, R113). -/
theorem askPlayers_answers {t : PlayerTurns} (mid : t.midAccesses = []) (late : t.lateAccesses = []) (s : State) :
    (askPlayers t s).1.player (firstAsked t.order) =
      (positionRequest (firstAsked t.order) (frameAccesses t.accesses s)).player (firstAsked t.order) ∧
    (t.accesses = [] → (askPlayers t s).1.player (secondAsked t.order) =
      (positionRequest (secondAsked t.order) (stickEvents t.mid s).1).player (secondAsked t.order)) := by
  have other := secondAsked_ne t.order
  unfold askPlayers
  rw [mid, late]
  constructor
  · exact ((stickEvents_stick _ _).player _).trans ((positionRequest_player_other other.symm _).trans
      ((stickEvents_stick _ _).player _))
  · intro early
    rw [early]
    refine ((stickEvents_stick _ _).player _).trans (positionRequest_player_congr ?_ ?_)
    · exact ((stickEvents_stick _ _).player _).trans ((positionRequest_player_other other _).trans
        ((stickEvents_stick _ _).player _).symm)
    · exact stickEvents_stick_congr _ (positionRequest_players _ s).stick (positionRequest_players _ s).axes

/-! ### The Blend Engine (stages 3 and 4) -/

theorem geoOut_congr {s t : State} (axes : t.axes = s.axes) (i : Fin 8) : t.geoOut i = s.geoOut i := by
  simp only [State.geoOut, axis_of_axes axes]

/-- The record of an axis after stage 4: routed and counted on while ACTIVE (R32, R36). -/
def State.blended (s : State) (i : Fin 8) : Blend :=
  if (s.axis i).state = .active then (s.routed i).progress else (s.axis i).blend

theorem blendStage_axis (s : State) (i : Fin 8) : (blendStage s).axis i = { s.axis i with blend := s.blended i } := by
  rw [blendStage, withClears_axis, mapAxes_axis, State.blended]
  split <;> rfl

theorem blendStage_players (s : State) : SameButMotion s (blendStage s) ∧ (blendStage s).cue = s.cue :=
  ⟨(mapAxes_motion _ s).trans (withClears_players s _).sameButMotion, (withClears_players s _).cue⟩

/-! ### The Limit Stage (stage 5) -/

theorem allHeldIf_library (b : Bool) (s : State) : SameButLibrary s (allHeldIf b s) := by
  unfold allHeldIf
  split
  · exact raise_library _ s
  · exact .refl s

theorem zoneNotices_library (s : State) (q : Point) (t : State) : SameButLibrary t (zoneNotices s q t) := by
  have each : ∀ (l : List (Fin 8)) (u : State),
      SameButLibrary u (l.foldl (fun t i => raise (.zone i q.swing q.lift q.reach q.track) t) u) := fun l => by
    induction l with
    | nil => exact SameButLibrary.refl
    | cons i l ih => exact fun u => (raise_library _ u).trans (ih _)
  exact each _ t

/-- The zone hold of a frame (R62, R63): the check is made and its point lies in an enabled zone. -/
def State.holds (s : State) (cand : Fin 8 → Int) (f : Fin 8 → ClampFlags) : Bool :=
  s.geometricMoving && s.inEnabledZone (s.checkPoint fun i => (s.axis i).propose (cand i) (f i))

/-- Every axis settled, and the zones checked; the notices are still to come. -/
def State.settled (s : State) (cand : Fin 8 → Int) (f : Fin 8 → ClampFlags) : State :=
  { s.mapAxes (fun i a => a.limited (s.holds cand f && geometric i) ((s.axis i).propose (cand i) (f i))) with
    zones := Vector.ofFn fun i =>
      (s.zone i).checked s.geometricMoving (s.checkPoint fun i => (s.axis i).propose (cand i) (f i)) }

theorem limitStage_library (cand : Fin 8 → Int) (f : Fin 8 → ClampFlags) (s : State) :
    SameButLibrary (s.settled cand f) (limitStage cand f s) :=
  (zoneNotices_library s _ _).trans (allHeldIf_library _ _)

theorem limitStage_axis (cand : Fin 8 → Int) (f : Fin 8 → ClampFlags) (s : State) (i : Fin 8) : (limitStage cand f s).axis i =
    (s.axis i).limited (s.holds cand f && geometric i) ((s.axis i).propose (cand i) (f i)) := by
  rw [axis_of_axes (limitStage_library cand f s).axes]
  exact (axis_of_axes rfl i).trans (mapAxes_axis s
    (fun i a => a.limited (s.holds cand f && geometric i) ((s.axis i).propose (cand i) (f i))) i)

theorem propose_isSome {a : Axis} {cand : Int} {f : ClampFlags} {x : Proposal} (h : a.propose cand f = some x) :
    a.moving = true := by
  unfold Axis.propose at h
  split at h
  · cases h
  · split at h
    · next active => simp [Axis.moving, active]
    · next stopping => simp [Axis.moving, stopping]
    all_goals cases h

theorem limited_blend (a : Axis) (hold : Bool) (q : Option Proposal) : (a.limited hold q).blend = a.blend := by
  unfold Axis.limited
  split
  · split <;> rfl
  · split <;> rfl

theorem limited_some (a : Axis) (hold : Bool) (x : Proposal) :
    (a.limited hold (some x)).out = (if hold then a.out else x.p) ∧
    (a.limited hold (some x)).vPrev = (a.limited hold (some x)).out - a.out ∧
    (a.limited hold (some x)).flags = if hold then { x.flags with zone := true } else x.flags := by
  cases hold <;> exact ⟨rfl, rfl, rfl⟩

theorem limited_none_out (a : Axis) (hold : Bool) : (a.limited hold none).out = a.out := by
  unfold Axis.limited
  simp only
  split <;> rfl

theorem settle_configured (a : Axis) (p : Int) (f : ClampFlags) : (a.settle p f).configured = a.configured := by
  have state : (if a.state = .stopping ∧ p = a.out then AxisState.held else a.state) = .unconfigured ↔ a.state = .unconfigured := by
    split
    · next h => simp [h.1]
    · exact .rfl
  simp only [Axis.configured, Axis.settle, ne_eq, state]

theorem limited_configured (a : Axis) (hold : Bool) (q : Option Proposal) : (a.limited hold q).configured = a.configured := by
  unfold Axis.limited
  split
  · split <;> exact settle_configured _ _ _
  · split <;> rfl

/-! ### Stages 3 to 6 together -/

theorem trackStage_axis (s : State) (i : Fin 8) : (trackStage s).axis i =
    if (s.axis i).configured then { s.axis i with blend := (s.axis i).blend.track (s.axis i).out } else s.axis i := by
  rw [trackStage, mapAxes_axis]

/-- The zone hold of the frame acts on axis `i`: the axes as the frame found them, the candidates those of `s`. -/
def State.heldAt (s : State) (i : Fin 8) : Bool := s.holds s.candidate s.handedFlags && geometric i

theorem holds_congr {s t : State} (axes : ∀ i : Fin 8, ∃ b : Blend, t.axis i = { s.axis i with blend := b }) (zones : t.zones = s.zones)
    (cand : Fin 8 → Int) (f : Fin 8 → ClampFlags) : t.holds cand f = s.holds cand f := by
  have propose : ∀ i : Fin 8, (t.axis i).propose (cand i) (f i) = (s.axis i).propose (cand i) (f i) := fun i => by
    obtain ⟨b, e⟩ := axes i
    rw [e]
    rfl
  have out : ∀ i : Fin 8, t.geoOut i = s.geoOut i := fun i => by
    obtain ⟨b, e⟩ := axes i
    rw [State.geoOut, e]
    rfl
  have moving : ∀ i : Fin 8, (t.axis i).moving = (s.axis i).moving := fun i => by
    obtain ⟨b, e⟩ := axes i
    rw [e]
    rfl
  simp only [State.holds, State.geometricMoving, State.inEnabledZone, State.checkPoint, propose, out, moving, zones]

/-- What stages 3 to 6 make of an axis. -/
theorem blendAndLimit_axis (s : State) (i : Fin 8) :
    let a := ({ s.axis i with blend := s.blended i } : Axis).limited (s.heldAt i)
      ((s.axis i).propose (s.candidate i) (s.handedFlags i))
    (blendAndLimit s).axis i = if (s.axis i).configured then { a with blend := (s.blended i).track a.out } else a := by
  have limited : (limitStage s.candidate s.handedFlags (blendStage s)).axis i =
      ({ s.axis i with blend := s.blended i } : Axis).limited (s.heldAt i)
        ((s.axis i).propose (s.candidate i) (s.handedFlags i)) := by
    rw [limitStage_axis, holds_congr (fun j => ⟨_, blendStage_axis s j⟩) (blendStage_players s).1.zones, blendStage_axis]
    rfl
  intro a
  rw [blendAndLimit, trackStage_axis, limited, limited_configured, limited_blend]
  rfl

theorem blendAndLimit_out (s : State) (i : Fin 8) : ((blendAndLimit s).axis i).out =
    (({ s.axis i with blend := s.blended i } : Axis).limited (s.heldAt i)
      ((s.axis i).propose (s.candidate i) (s.handedFlags i))).out := by
  rw [blendAndLimit_axis]
  split <;> rfl

theorem blendAndLimit_configured (s : State) (i : Fin 8) : ((blendAndLimit s).axis i).configured = (s.axis i).configured := by
  rw [blendAndLimit_axis]
  split <;> exact limited_configured _ _ _

theorem blendAndLimit_blend {s : State} {i : Fin 8} (h : (s.axis i).configured = true) :
    ((blendAndLimit s).axis i).blend = (s.blended i).track ((blendAndLimit s).axis i).out := by
  rw [blendAndLimit_axis, if_pos h]

/-- An axis that proposes nothing stays where it is (R51). -/
theorem blendAndLimit_out_still {s : State} {i : Fin 8} (h : (s.axis i).moving = false) :
    ((blendAndLimit s).axis i).out = (s.axis i).out := by
  have resting : (s.axis i).propose (s.candidate i) (s.handedFlags i) = none := by
    cases proposed : (s.axis i).propose (s.candidate i) (s.handedFlags i) with
    | none => rfl
    | some x => rw [propose_isSome proposed] at h; cases h
  rw [blendAndLimit_out, resting, limited_none_out]

/-- Where the frame leaves an axis that proposes `x` (R51, R63). -/
theorem blendAndLimit_moved {s : State} {i : Fin 8} {x : Proposal}
    (h : (s.axis i).propose (s.candidate i) (s.handedFlags i) = some x) :
    ((blendAndLimit s).axis i).out = (if s.heldAt i then (s.axis i).out else x.p) ∧
    ((blendAndLimit s).axis i).vPrev = ((blendAndLimit s).axis i).out - (s.axis i).out ∧
    ((blendAndLimit s).axis i).flags = if s.heldAt i then { x.flags with zone := true } else x.flags := by
  have settled := limited_some ({ s.axis i with blend := s.blended i } : Axis) (s.heldAt i) x
  rw [blendAndLimit_axis, h]
  split <;> exact settled

/-- Where an axis moves, the zone check is made when the axis is geometric (R62). -/
theorem heldAt_iff {s : State} {i : Fin 8} (moving : (s.axis i).moving = true) : s.heldAt i = true ↔ geometric i = true ∧
    s.inEnabledZone (s.checkPoint fun j => (s.axis j).propose (s.candidate j) (s.handedFlags j)) = true := by
  have made : geometric i = true → s.geometricMoving = true := fun h =>
    List.any_eq_true.mpr ⟨i, mem_allAxes i, by simp [h, moving]⟩
  simp only [State.heldAt, State.holds, Bool.and_eq_true]
  exact ⟨fun ⟨⟨_, inside⟩, h⟩ => ⟨h, inside⟩, fun ⟨h, inside⟩ => ⟨⟨made h, inside⟩, h⟩⟩

theorem track_names (b : Blend) (out : Int) (x : Source) : (b.track out).names x = b.names x := by
  obtain ⟨hfrom, hto, _⟩ := track_fields b out
  simp only [Blend.names, hfrom, hto]

theorem blendAndLimit_refCount (s : State) (p : PlayerId) : (blendAndLimit s).refCount p = (blendStage s).refCount p := by
  have named : ∀ i : Fin 8, ((blendAndLimit s).axis i).blend.names p.source = ((blendStage s).axis i).blend.names p.source :=
    fun i => by
      rw [blendAndLimit_axis, blendStage_axis]
      split
      · exact track_names _ _ _
      · rw [limited_blend]
  simp only [State.refCount, named]

theorem blendAndLimit_player (s : State) (p : PlayerId) : (blendAndLimit s).player p = (blendStage s).player p := by
  rw [blendAndLimit, trackStage, mapAxes_player, (limitStage_library _ _ _).player]
  cases p <;> rfl

/-- The arrivals of a fade that completes in the frame (R28, R36, R122). -/
theorem blendAndLimit_cleared {s : State} {p : PlayerId} (h : s.Clears (blendAndLimit s) p)
    (releasing : (s.player p).state = .releasing) : (blendAndLimit s).player p = (s.player p).toIdle := by
  have fallen : s.refCount p ≠ 0 ∧ (blendStage s).refCount p = 0 := ⟨h.1, (blendAndLimit_refCount s p).symm.trans h.2⟩
  rw [blendStage, withClears_refCount] at fallen
  rw [blendAndLimit_player, blendStage, withClears_player_cleared fallen (by rwa [mapAxes_player]), mapAxes_player]

theorem blendAndLimit_player_kept {s : State} {p : PlayerId}
    (h : ¬ (s.Clears (blendAndLimit s) p ∧ (s.player p).state = .releasing)) : (blendAndLimit s).player p = s.player p := by
  rw [blendAndLimit_player, blendStage, withClears_player_kept, mapAxes_player]
  rintro ⟨⟨named, unnamed⟩, releasing⟩
  rw [mapAxes_player] at releasing
  refine h ⟨⟨named, ?_⟩, releasing⟩
  rw [blendAndLimit_refCount, blendStage, withClears_refCount]
  exact unnamed

end Sys2Proof.Machine
end

section
/-! The publication of an output frame (R25) and what follows it: what the four blocks that take it, the faults of the players
and the button codes leave of the axes, of the tables and of a player at rest. -/

namespace Sys2Proof.Machine

/-! ### What a publication leaves of an axis -/

/-- The position is as the frame settled it, and the move and the flags too unless the axis has entered FAULT. -/
structure Axis.Rests (a b : Axis) : Prop where
  out : b.out = a.out
  moved : b.state ≠ .fault → a.state ≠ .fault ∧ b.vPrev = a.vPrev ∧ b.flags = a.flags

/-- The axis rests, sends nothing and enables nothing. -/
structure Axis.Waits (a b : Axis) : Prop extends a.Rests b where
  seq : b.nextSeq = a.nextSeq
  enabled : b.enabled = true → a.enabled = true

theorem Axis.Rests.refl (a : Axis) : a.Rests a := ⟨rfl, fun h => ⟨h, rfl, rfl⟩⟩

theorem Axis.Rests.trans {a b c : Axis} (h : a.Rests b) (k : b.Rests c) : a.Rests c where
  out := k.out.trans h.out
  moved := fun e => by
    obtain ⟨e', v', f'⟩ := k.moved e
    obtain ⟨e'', v'', f''⟩ := h.moved e'
    exact ⟨e'', v'.trans v'', f'.trans f''⟩

theorem Axis.Waits.refl (a : Axis) : a.Waits a := ⟨.refl a, rfl, id⟩

theorem Axis.Waits.trans {a b c : Axis} (h : a.Waits b) (k : b.Waits c) : a.Waits c :=
  ⟨h.toRests.trans k.toRests, k.seq.trans h.seq, h.enabled ∘ k.enabled⟩

/-- A change of its blend record does not move an axis. -/
theorem Axis.Waits.blend (a : Axis) (b : Blend) : a.Waits { a with blend := b } := ⟨⟨rfl, fun h => ⟨h, rfl, rfl⟩⟩, rfl, id⟩

theorem Axis.Waits.missed (a : Axis) : a.Waits a.missed := ⟨⟨rfl, fun h => ⟨h, rfl, rfl⟩⟩, rfl, id⟩

theorem Axis.Waits.faulted (a : Axis) (c : FaultCause) : a.Waits { a.left .fault with cause := some c } :=
  ⟨⟨rfl, fun h => absurd rfl h⟩, rfl, fun h => by simp [Axis.left, Axis.enabled] at h⟩

theorem Axis.Waits.cascaded (a : Axis) : a.Waits a.cascaded := by
  unfold Axis.cascaded
  split
  · refine ⟨⟨rfl, fun h => ⟨fun e => h ?_, rfl, rfl⟩⟩, rfl, fun h => ?_⟩
    · simp [e]
    · by_cases active : a.state = .active
      · simp [Axis.enabled, active]
      · simpa [Axis.enabled, active] using h
  · exact .refl a

theorem Axis.Rests.sent (a : Axis) (out : Int) : a.Rests (a.sent out) := ⟨rfl, fun h => ⟨h, rfl, rfl⟩⟩

/-- Every axis waits. -/
def State.AxesWait (s t : State) : Prop := ∀ i : Fin 8, (s.axis i).Waits (t.axis i)

theorem State.AxesWait.of_axes {s t : State} (h : t.axes = s.axes) : s.AxesWait t := fun i => axis_of_axes h i ▸ .refl _

theorem State.AxesWait.trans {s t u : State} (h : s.AxesWait t) (k : t.AxesWait u) : s.AxesWait u := fun i => (h i).trans (k i)

theorem mapAxes_wait {g : Fin 8 → Axis → Axis} {s : State} (h : ∀ i : Fin 8, (s.axis i).Waits (g i (s.axis i))) :
    s.AxesWait (s.mapAxes g) := fun i => by
  rw [mapAxes_axis]
  exact h i

theorem setAxis_wait {i : Fin 8} {a : Axis} {s : State} (h : (s.axis i).Waits a) : s.AxesWait (s.setAxis i a) := fun j => by
  by_cases same : j = i
  · rw [same, setAxis_axis_same]
    exact h
  · rw [setAxis_axis_other _ _ _ _ same]
    exact .refl _

theorem withClears_wait (s u : State) : u.AxesWait (withClears s u) := .of_axes (withClears_axes s u)

theorem handBackWhere_wait (p : Blend → Bool) (s : State) : s.AxesWait (handBackWhere p s) := by
  refine .trans (mapAxes_wait fun i => ?_) (withClears_wait s _)
  split
  · exact .blend _ _
  · exact .refl _

theorem dropRequest_wait (p : PlayerId) (s : State) : s.AxesWait (dropRequest p s) := by
  refine .trans (mapAxes_wait fun i => ?_) (withClears_wait s _)
  split
  · exact .blend _ _
  · exact .refl _

theorem fadeRequest_wait (m t l : Nat) (s : State) : s.AxesWait (fadeRequest m t l s).1 := by
  unfold fadeRequest
  split
  · split
    · exact .of_axes rfl
    · split
      · exact .of_axes rfl
      · refine .trans (mapAxes_wait fun i => ?_) (withClears_wait s _)
        split
        · exact .blend _ _
        · exact .refl _
  · exact .of_axes rfl

theorem stopRequest_wait (c : Nat) (s : State) : s.AxesWait (stopRequest c s).1 := by
  unfold stopRequest
  split
  · exact .of_axes rfl
  · split
    case h_1 | h_2 => exact .of_axes rfl
    case h_3 => exact (dropRequest_wait _ s).trans (.of_axes (becomeIdle_players _ _).axes)
    all_goals
      exact .trans (.of_axes (enterReleasing_players _ s).axes)
        ((handBackWhere_wait _ _).trans (.of_axes (idleIfUnreferenced_players _ _).axes))

/-! ### The cue at a publication -/

theorem cueResult_wait {s : State} {r : State × Result × Option (Fin 8)} (h : s.AxesWait r.1) : s.AxesWait (cueResult r) := by
  unfold cueResult
  split
  · exact h.trans (.of_axes (cueAdvance_aside _).axes)
  · exact h.trans (.of_axes (cueRefused_aside _ _ _).axes)

theorem cueExecute_wait (s : State) : s.AxesWait (cueExecute s) := by
  unfold cueExecute
  split
  · exact cueResult_wait (.of_axes (loadRequest_players _ _ _ s).axes)
  · exact cueResult_wait (.of_axes (goToRequest_players _ _ _ s).axes)
  · exact cueResult_wait (.of_axes (runRequest_players _ s).axes)
  · exact cueResult_wait (fadeRequest_wait _ _ _ s)
  · exact cueResult_wait (stopRequest_wait _ s)
  · exact cueResult_wait (.of_axes (recordStartRequest_aside _ _ _ _ _ _ s).axes)
  · exact cueResult_wait (.of_axes (endRecRequest_library s).axes)
  · exact .of_axes rfl
  · exact .of_axes rfl
  · exact .of_axes (testEnd_aside _ s).axes
  · exact .of_axes (testAt_aside _ _ s).axes
  · exact .of_axes (cueLoop_aside _ _ s).axes
  · exact .of_axes (cueAdvance_aside _).axes
  · exact .of_axes (cueDone_aside s).axes

theorem cueRun_wait (n : Nat) : ∀ s : State, s.AxesWait (cueRun n s) := by
  induction n with
  | zero => exact fun _ => .of_axes rfl
  | succ n ih =>
    intro s
    unfold cueRun
    split
    · exact (cueExecute_wait s).trans (ih _)
    · exact .of_axes rfl

theorem waitFramesExpired_wait (s : State) : s.AxesWait (waitFramesExpired s) := by
  unfold waitFramesExpired
  split
  · split
    · exact .trans (.of_axes (cueAdvance_aside s).axes) (cueRun_wait _ _)
    · exact .of_axes rfl
  · exact .of_axes rfl

theorem cuePublication_wait (s : State) : s.AxesWait (cuePublication s) := by
  unfold cuePublication
  split
  · unfold cueWaiting
    split
    · exact .trans (.of_axes (setCue_aside _ s).axes) (waitFramesExpired_wait _)
    · exact .trans (.of_axes (testEnd_aside _ s).axes) (cueRun_wait _ _)
    · exact .trans (.of_axes (testAt_aside _ _ s).axes) (cueRun_wait _ _)
    · exact .of_axes rfl
  · unfold cueRunning
    simp only
    split
    · exact .trans (.of_axes (setCue_aside _ s).axes) (.of_axes (cueDone_aside _).axes)
    · exact .trans (.of_axes (setCue_aside _ s).axes) (cueRun_wait _ _)
  all_goals exact .of_axes rfl

theorem testEnd_motion (p : PlayerId) (s : State) : SameButMotion s (testEnd p s) := by
  unfold testEnd
  split
  · exact cueAdvance_motion s
  · exact cueWait_motion _ s

theorem testAt_motion (k : Fin 64) (w : Nat) (s : State) : SameButMotion s (testAt k w s) := by
  unfold testAt
  split
  · exact (setCue_motion _ s).trans (raise_library _ _).sameButPlayers.sameButMotion
  · split
    · exact cueAdvance_motion s
    · exact cueWait_motion _ s

theorem waitFramesExpired_motion (s : State) : SameButMotion s (waitFramesExpired s) := by
  unfold waitFramesExpired
  split
  · split
    · exact (cueAdvance_motion s).trans (cueRun_motion _ _)
    · exact .refl s
  · exact .refl s

theorem cuePublication_motion (s : State) : SameButMotion s (cuePublication s) := by
  unfold cuePublication
  split
  · unfold cueWaiting
    split
    · exact (setCue_motion _ s).trans (waitFramesExpired_motion _)
    · exact (testEnd_motion _ s).trans (cueRun_motion _ _)
    · exact (testAt_motion _ _ s).trans (cueRun_motion _ _)
    · exact .refl s
  · unfold cueRunning
    simp only
    split
    · exact (setCue_motion _ s).trans ((setCue_motion _ _).trans (raise_library _ _).sameButPlayers.sameButMotion)
    · exact (setCue_motion _ s).trans (cueRun_motion _ _)
  all_goals exact .refl s

/-! ### A cue at rest and a player at rest -/

/-- The cue neither runs nor waits. -/
def State.CueRests (s : State) : Prop := s.cue.state ≠ .running ∧ s.cue.state ≠ .waiting

theorem cuePublication_rest {s : State} (h : s.CueRests) : cuePublication s = s := by
  unfold cuePublication
  split
  · next waiting => exact absurd waiting h.2
  · next running => exact absurd running h.1
  all_goals rfl

/-- What a player can become through the drives' faults and the stop cascade (R70, R122). -/
inductive Player.Becomes (r : Player) : Player → Prop
  | same : r.Becomes r
  | paused : (r.state = .running ∨ r.state = .starved) → r.Becomes { r with state := .paused }
  | idle : r.state = .releasing → r.Becomes r.toIdle

theorem Player.Becomes.trans {r r' r'' : Player} (h : r.Becomes r') (k : r'.Becomes r'') : r.Becomes r'' := by
  cases h with
  | same => exact k
  | paused moving =>
    cases k with
    | same => exact .paused moving
    | paused again => cases again <;> contradiction
    | idle again => cases again
  | idle releasing =>
    cases k with
    | same => exact .idle releasing
    | paused again => cases again <;> contradiction
    | idle again => cases again

theorem Player.Becomes.of_eq {r r' : Player} (h : r' = r) : r.Becomes r' := h ▸ .same

/-- Only the axes' blend records, states and miss counts, the players by pause and by arrival, and the cue by its stop may
differ, beside the library, the Recorder, the notices, the fault log and the link. -/
structure Follows (s t : State) : Prop where
  axes : s.AxesWait t
  motion : SameButMotion s t
  players : ∀ p : PlayerId, (s.player p).Becomes (t.player p)
  rest : s.CueRests → t.CueRests

theorem Follows.trans {s t u : State} (h : Follows s t) (k : Follows t u) : Follows s u :=
  ⟨h.axes.trans k.axes, h.motion.trans k.motion, fun p => (h.players p).trans (k.players p), k.rest ∘ h.rest⟩

theorem SameButLibrary.follows {s t : State} (h : SameButLibrary s t) : Follows s t :=
  ⟨.of_axes h.axes, h.sameButPlayers.sameButMotion, fun p => .of_eq (h.player p), fun k => by rwa [State.CueRests, h.cue]⟩

theorem Follows.refl (s : State) : Follows s s := (SameButLibrary.refl s).follows

theorem withClears_follows (s u : State) : Follows u (withClears s u) where
  axes := withClears_wait s u
  motion := (withClears_players s u).sameButMotion
  players := fun p => by
    by_cases h : s.Clears u p ∧ (u.player p).state = .releasing
    · rw [withClears_player_cleared h.1 h.2]
      exact .idle h.2
    · exact .of_eq (withClears_player_kept h)
  rest := fun k => by rwa [State.CueRests, (withClears_players s u).cue]

theorem mapAxes_follows {g : Fin 8 → Axis → Axis} {s : State} (h : ∀ i : Fin 8, (s.axis i).Waits (g i (s.axis i))) :
    Follows s (s.mapAxes g) :=
  ⟨mapAxes_wait h, mapAxes_motion g s, fun p => .of_eq (mapAxes_player g s p), id⟩

theorem setAxis_player (i : Fin 8) (a : Axis) (s : State) (p : PlayerId) : (s.setAxis i a).player p = s.player p := by
  cases p <;> rfl

theorem setAxis_follows {i : Fin 8} {a : Axis} {s : State} (h : (s.axis i).Waits a) : Follows s (s.setAxis i a) :=
  ⟨setAxis_wait h, setAxis_motion i a s, fun p => .of_eq (setAxis_player i a s p), id⟩

theorem handBackWhere_follows (p : Blend → Bool) (s : State) : Follows s (handBackWhere p s) := by
  refine .trans (mapAxes_follows fun i => ?_) (withClears_follows s _)
  split
  · exact .blend _ _
  · exact .refl _

theorem pauseEffect_follows (p : PlayerId) (s : State) : Follows s (pauseEffect p s) where
  axes := .of_axes (pauseEffect_players p s).axes
  motion := (pauseEffect_players p s).sameButMotion
  players := fun r => by
    unfold pauseEffect
    simp only
    split
    · next moving =>
      refine setPlayer_player_cases (P := (s.player r).Becomes) (fun e => ?_) .same
      rw [e]
      exact .paused moving
    · exact .same
  rest := fun k => by rwa [State.CueRests, (pauseEffect_players p s).cue]

theorem pausePlayers_follows (s : State) : Follows s (pausePlayers s) := (pauseEffect_follows .a s).trans (pauseEffect_follows .b _)

theorem cueStopped_follows (s : State) : Follows s (cueStopped s) where
  axes := .of_axes (cueStopped_aside s).axes
  motion := cueStopped_motion s
  players := fun p => .of_eq (player_of (cueStopped_aside s).playerA (cueStopped_aside s).playerB p)
  rest := fun k => by
    unfold cueStopped
    rwa [if_neg (not_or.mpr k)]

theorem cascade_follows (s : State) : Follows s (cascade s) :=
  (mapAxes_follows fun _ => .cascaded _).trans ((withClears_follows s _).trans
    ((pausePlayers_follows _).trans (cueStopped_follows _)))

theorem enterFault_follows (i : Fin 8) (c : FaultCause) (x : Int) (code : Option Nat) (s : State) :
    Follows s (enterFault i c x code s) := by
  unfold enterFault
  exact (setAxis_follows (.faulted _ c)).trans ((withClears_follows s _).trans ((allHeldIf_library _ _).follows.trans
    ((faultReport_library _ _).follows.trans ((raise_library _ _).follows.trans (cascade_follows _)))))

theorem closeWindow_follows (i : Fin 8) (s : State) : Follows s (closeWindow i s) := by
  unfold closeWindow driveSilent
  split
  · split
    · exact .refl s
    · split
      · exact (setAxis_follows (.missed _)).trans (enterFault_follows _ _ _ _ _)
      · exact setAxis_follows (.missed _)
  · exact .refl s

/-! ### What a publication leaves altogether -/

/-- The Stick Port, the Frame Timer, the geometry record, the STOP line, the tables and the output set are the same. -/
structure SameTables (s t : State) : Prop where
  stick : t.stick = s.stick := by rfl
  timer : t.timer = s.timer := by rfl
  geometry : t.geometry = s.geometry := by rfl
  stopLine : t.stopLine = s.stopLine := by rfl
  marks : t.marks = s.marks := by rfl
  cueList : t.cueList = s.cueList := by rfl
  triggers : t.triggers = s.triggers := by rfl
  outputSet : t.outputSet = s.outputSet := by rfl

theorem SameTables.trans {s t u : State} (h : SameTables s t) (k : SameTables t u) : SameTables s u :=
  ⟨k.stick.trans h.stick, k.timer.trans h.timer, k.geometry.trans h.geometry, k.stopLine.trans h.stopLine,
    k.marks.trans h.marks, k.cueList.trans h.cueList, k.triggers.trans h.triggers, k.outputSet.trans h.outputSet⟩

theorem SameButMotion.tables {s t : State} (h : SameButMotion s t) : SameTables s t :=
  ⟨h.stick, h.timer, h.geometry, h.stopLine, h.marks, h.cueList, h.triggers, h.outputSet⟩

/-- The player is IDLE, with no outcome to take, and no cue step can load it. -/
structure State.Parked (s : State) (p : PlayerId) : Prop where
  idle : (s.player p).state = .idle
  taken : (s.player p).arrived = none
  cue : s.CueRests

/-- What the publication and the acts after it leave: positions, tables and parked players. -/
structure Publishes (s t : State) : Prop where
  axes : ∀ i : Fin 8, (s.axis i).Rests (t.axis i)
  tables : SameTables s t
  parked : ∀ p : PlayerId, s.Parked p → t.Parked p

theorem Publishes.trans {s t u : State} (h : Publishes s t) (k : Publishes t u) : Publishes s u :=
  ⟨fun i => (h.axes i).trans (k.axes i), h.tables.trans k.tables, fun p => k.parked p ∘ h.parked p⟩

/-- A player at rest stays at rest. -/
theorem Player.Becomes.idle_same {r r' : Player} (h : r.Becomes r') (idle : r.state = .idle) : r' = r := by
  cases h with
  | same => rfl
  | paused moving => rcases moving with e | e <;> cases idle.symm.trans e
  | idle releasing => cases idle.symm.trans releasing

theorem Follows.publishes {s t : State} (h : Follows s t) : Publishes s t where
  axes := fun i => (h.axes i).toRests
  tables := h.motion.tables
  parked := fun p k => by
    have same := (h.players p).idle_same k.idle
    exact ⟨same ▸ k.idle, same ▸ k.taken, h.rest k.cue⟩

theorem Publishes.refl (s : State) : Publishes s s := (Follows.refl s).publishes

theorem Publishes.foldl {α : Type} {g : State → α → State} (h : ∀ (s : State) (x : α), Publishes s (g s x)) (l : List α) :
    ∀ s : State, Publishes s (l.foldl g s) := by
  induction l with
  | nil => exact .refl
  | cons x t ih => exact fun s => (h s x).trans (ih _)

theorem Publishes.of_parked {s t : State} (axes : s.AxesWait t) (motion : SameButMotion s t)
    (parked : ∀ p : PlayerId, s.Parked p → t.player p = s.player p ∧ t.cue = s.cue) : Publishes s t where
  axes := fun i => (axes i).toRests
  tables := motion.tables
  parked := fun p k => by
    obtain ⟨player, cue⟩ := parked p k
    exact ⟨player ▸ k.idle, player ▸ k.taken, by rw [State.CueRests, cue]; exact k.cue⟩

theorem driveAxis_publishes (f s : State) (i : Fin 8) : Publishes s (driveAxis f s i) := by
  unfold driveAxis
  split
  · refine (closeWindow_follows i s).publishes.trans ⟨fun j => ?_, {}, fun p k => ⟨?_, ?_, k.cue⟩⟩
    · show (_ : Axis).Rests (((closeWindow i s).modAxis i fun a => a.sent (f.axis i).out).axis j)
      by_cases same : j = i
      · rw [same, State.modAxis, setAxis_axis_same]
        exact .sent _ _
      · rw [State.modAxis, setAxis_axis_other _ _ _ _ same]
        exact .refl _
    · cases p <;> exact k.idle
    · cases p <;> exact k.taken
  · exact .refl s

theorem drivePublication_publishes (f s : State) : Publishes s (drivePublication f s) := by
  have emptied : Publishes s { s with exchanges := [] } :=
    ⟨fun i => .refl _, {}, fun p k => ⟨by cases p <;> exact k.idle, by cases p <;> exact k.taken, k.cue⟩⟩
  exact emptied.trans (.foldl (driveAxis_publishes f) _ _)

theorem dividerCount_publishes (f s : State) : Publishes s (dividerCount f s) := by
  have h := dividerCount_traffic f s
  have player := player_of h.playerA h.playerB
  exact ⟨fun i => axis_of_axes h.axes i ▸ .refl _,
    ⟨h.stick, h.timer, h.geometry, h.stopLine, h.marks, h.cueList, h.triggers, h.outputSet⟩,
    fun p k => ⟨player p ▸ k.idle, player p ▸ k.taken, by rw [State.CueRests, h.cue]; exact k.cue⟩⟩

theorem publishTo_publishes (f s : State) (x : Sink) : Publishes s (publishTo f s x) := by
  cases x with
  | driveLine => exact drivePublication_publishes f s
  | recorder => exact (recorderPublication_library s).follows.publishes
  | cue =>
    refine .of_parked (cuePublication_wait s) (cuePublication_motion s) fun p k => ?_
    rw [publishTo, cuePublication_rest k.cue]
    exact ⟨rfl, rfl⟩
  | noticeUnit => exact dividerCount_publishes f s

/-! ### After the publication -/

theorem setPlayer_publishes {p : PlayerId} {s : State} (h : ¬ s.Parked p) (r : Player) : Publishes s (s.setPlayer p r) :=
  .of_parked (.of_axes (setPlayer_axes _ _ _)) (setPlayer_players p r s).sameButMotion fun q k =>
    ⟨setPlayer_player_other _ p q r fun e => h (e ▸ k), setPlayer_cue _ _ _⟩

theorem takeArrived_publishes (p : PlayerId) (s : State) : Publishes s (takeArrived p s) := by
  unfold takeArrived
  split
  · exact .refl s
  · next n arrived =>
    have unparked : ¬ s.Parked p := fun k => by
      rw [k.taken] at arrived
      cases arrived
    simp only
    split
    · unfold playerFault
      simp only [setPlayer_setPlayer]
      exact (setPlayer_publishes unparked _).trans
        ((handBackWhere_follows _ _).trans (playerNotice_library p _).follows).publishes
    · unfold discardOutcome
      rw [setPlayer_setPlayer]
      exact setPlayer_publishes unparked _

theorem takeFaults_publishes (o : PlayerOrder) (s : State) : Publishes s (takeFaults o s) :=
  (takeArrived_publishes _ s).trans (takeArrived_publishes _ _)

theorem resumePlayer_publishes (p : PlayerId) (s : State) : Publishes s (resumePlayer p s) := by
  refine .of_parked (.of_axes (resumePlayer_players p s).axes) (resumePlayer_players p s).sameButMotion fun q k =>
    ⟨?_, (resumePlayer_players p s).cue⟩
  unfold resumePlayer
  split
  · next paused =>
    have other : q ≠ p := fun e => by
      rw [← e, k.idle] at paused
      cases paused
    unfold runEffect
    simp only
    split
    · rw [fetchIfRoom_player_other other, setPlayer_player_other _ _ _ _ other]
    · rw [fetchIfRoom_player_other other]
  · rfl

theorem takeOver_publishes (s : State) : Publishes s (takeOver s) := (handBackWhere_follows (fun _ => true) s).publishes

theorem triggerAct_publishes (a : TriggerAction) (code : Nat) (e : Fin 8) (s : State) : Publishes s (triggerAct a code e s) := by
  cases a with
  | none => exact .refl s
  | cueGo =>
    refine .trans (.of_parked (.of_axes (cueGo_aside code s).axes) (cueGo_motion code s) fun p k => ?_)
      (recorderGo_library _).follows.publishes
    rw [cueGo, if_neg k.cue.2]
    exact ⟨rfl, rfl⟩
  | pauseAll => exact (pausePlayers_follows s).publishes
  | resumePlay =>
    rw [triggerAct]
    split
    · exact .refl s
    · exact (resumePlayer_publishes .a s).trans (resumePlayer_publishes .b _)
  | takeOver => exact takeOver_publishes s
  | report =>
    rw [triggerAct]
    exact (raise_library _ s).follows.publishes

theorem buttonCode_publishes (s : State) (code : Nat) : Publishes s (buttonCode s code) := by
  unfold buttonCode
  split
  · exact triggerAct_publishes _ _ _ s
  · exact .refl s

/-! ### The Drive Line's exchanges (R179) -/

/-- The exchange `x` carries what the published state `f` has for its axis, under the axis's sequence number, which the state
`t` has moved on (R179). -/
structure Exchange.Sends (x : Exchange) (f t : State) : Prop where
  setpoint : x.setpoint = (f.axis x.address).out
  feedForward : x.feedForward = (f.axis x.address).vPrev
  seq : x.seq = (f.axis x.address).nextSeq
  next : (t.axis x.address).nextSeq = ((f.axis x.address).nextSeq + 1) % 16
  enable : x.enable = true → (f.axis x.address).enabled = true

/-- An axis's turn on the Drive Line sends one exchange when it is configured. -/
theorem driveAxis_exchanges {f s : State} {i : Fin 8} (h : (f.axis i).Waits (s.axis i)) :
    ∃ xs : List Exchange, (driveAxis f s i).exchanges = s.exchanges ++ xs ∧
      xs.map (·.address) = [i].filter (fun i => (f.axis i).configured) ∧ ∀ x ∈ xs, x.Sends f (driveAxis f s i) := by
  have closed : (f.axis i).Waits ((closeWindow i s).axis i) := h.trans ((closeWindow_follows i s).axes i)
  unfold driveAxis
  split
  · next configured =>
    refine ⟨[((closeWindow i s).axis i).exchange i (f.axis i).out (f.axis i).vPrev], ?_, ?_, fun x hx => ?_⟩
    · simp only [(closeWindow_follows i s).motion.exchanges]
    · simp [configured, Axis.exchange]
    · rw [List.mem_singleton.mp hx]
      refine ⟨rfl, rfl, closed.seq, ?_, closed.enabled⟩
      show (((closeWindow i s).modAxis i fun a => a.sent (f.axis i).out).axis i).nextSeq = _
      rw [State.modAxis, setAxis_axis_same, Axis.sent, closed.seq]
      rfl
  · next unconfigured => exact ⟨[], (List.append_nil _).symm, by simp [unconfigured], fun _ hx => (nomatch hx)⟩

theorem driveAxis_other {f s : State} {i j : Fin 8} (h : j ≠ i) : (s.axis j).Waits ((driveAxis f s i).axis j) := by
  unfold driveAxis
  split
  · show (s.axis j).Waits (((closeWindow i s).modAxis i fun a => a.sent (f.axis i).out).axis j)
    rw [State.modAxis, setAxis_axis_other _ _ _ _ h]
    exact (closeWindow_follows i s).axes j
  · exact .refl _

theorem driveAxes_other {f : State} {j : Fin 8} : ∀ {l : List (Fin 8)} (s : State), j ∉ l →
    (s.axis j).Waits ((l.foldl (driveAxis f) s).axis j)
  | [], _, _ => .refl _
  | _ :: _, s, h => by
    obtain ⟨differ, rest⟩ := not_or.mp (List.mem_cons.not.mp h)
    exact (driveAxis_other differ).trans (driveAxes_other _ rest)

/-- The exchanges of the axes of a list, each once. -/
theorem driveAxes_exchanges {f : State} : ∀ {l : List (Fin 8)} {s : State}, l.Nodup → (∀ i ∈ l, (f.axis i).Waits (s.axis i)) →
    ∃ xs : List Exchange, (l.foldl (driveAxis f) s).exchanges = s.exchanges ++ xs ∧
      xs.map (·.address) = l.filter (fun i => (f.axis i).configured) ∧ ∀ x ∈ xs, x.Sends f (l.foldl (driveAxis f) s)
  | [], s, _, _ => ⟨[], (List.append_nil _).symm, rfl, fun _ hx => (nomatch hx)⟩
  | i :: l, s, distinct, ready => by
    obtain ⟨fresh, distinct⟩ := List.nodup_cons.mp distinct
    obtain ⟨xs, sent, addresses, each⟩ := driveAxis_exchanges (ready i List.mem_cons_self)
    have ready' : ∀ j ∈ l, (f.axis j).Waits ((driveAxis f s i).axis j) := fun j hj =>
      (ready j (List.mem_cons_of_mem i hj)).trans (driveAxis_other fun e => fresh (e ▸ hj))
    obtain ⟨ys, sent', addresses', each'⟩ := driveAxes_exchanges distinct ready'
    refine ⟨xs ++ ys, ?_, ?_, fun x hx => ?_⟩
    · rw [List.foldl_cons, sent', sent, List.append_assoc]
    · rw [List.map_append, addresses, addresses', ← List.filter_append, List.singleton_append]
    · rcases List.mem_append.mp hx with own | later
      · have sends := each x own
        have address : x.address = i := by
          have listed : x.address ∈ xs.map (·.address) := List.mem_map_of_mem own
          rw [addresses] at listed
          exact List.mem_singleton.mp (List.mem_filter.mp listed).1
        have kept := (driveAxes_other (f := f) (j := x.address) (driveAxis f s i) (address ▸ fresh)).seq
        exact { sends with next := kept.trans sends.next }
      · exact each' x later

/-- The publication at the Drive Line (R179). -/
theorem drivePublication_exchanges {f s : State} (h : s.axes = f.axes) :
    (drivePublication f s).exchanges.map (·.address) = allAxes.filter (fun i => (f.axis i).configured) ∧
    ∀ x ∈ (drivePublication f s).exchanges, x.Sends f (drivePublication f s) := by
  obtain ⟨xs, sent, addresses, each⟩ := driveAxes_exchanges (f := f) (s := { s with exchanges := [] })
    (List.nodup_finRange 8) fun i _ => State.AxesWait.of_axes h i
  have only : (drivePublication f s).exchanges = xs := sent
  rw [only]
  exact ⟨addresses, each⟩

/-! ### The order of the four takers (R25) -/

/-- A list with the elements of another added at its end, each that it does not have yet. -/
theorem foldl_insert_nodup {l xs : List Sink} (h : l.Nodup) :
    (xs.foldl (fun l x => if x ∈ l then l else l ++ [x]) l).Nodup := by
  induction xs generalizing l with
  | nil => exact h
  | cons x t ih =>
    refine ih ?_
    show (if x ∈ l then l else l ++ [x]).Nodup
    split
    · exact h
    · next fresh => exact List.nodup_append.mpr ⟨h, List.nodup_singleton x, fun a ha b hb e => fresh (List.mem_singleton.mp hb ▸ e ▸ ha)⟩

theorem mem_foldl_insert {l xs : List Sink} {x : Sink} :
    x ∈ xs.foldl (fun l x => if x ∈ l then l else l ++ [x]) l ↔ x ∈ l ∨ x ∈ xs := by
  induction xs generalizing l with
  | nil => simp
  | cons y t ih =>
    rw [List.foldl_cons, ih]
    split
    · next there =>
      constructor
      · exact Or.imp_right (List.mem_cons_of_mem y)
      · rintro (k | k)
        · exact .inl k
        · rcases List.mem_cons.mp k with rfl | k
          · exact .inl there
          · exact .inr k
    · simp [or_assoc]

theorem prefix_foldl_insert (l xs : List Sink) : l <+: xs.foldl (fun l x => if x ∈ l then l else l ++ [x]) l := by
  induction xs generalizing l with
  | nil => exact List.prefix_rfl
  | cons x t ih =>
    refine .trans ?_ (ih _)
    show l <+: if x ∈ l then l else l ++ [x]
    split
    · exact List.prefix_rfl
    · exact List.prefix_append l [x]

theorem foldl_insert_fresh {l xs : List Sink} (h : (l ++ xs).Nodup) :
    xs.foldl (fun l x => if x ∈ l then l else l ++ [x]) l = l ++ xs := by
  induction xs generalizing l with
  | nil => exact (List.append_nil l).symm
  | cons x t ih =>
    have fresh : x ∉ l := fun there => (List.nodup_append.mp h).2.2 x there x List.mem_cons_self rfl
    have rest : l ++ x :: t = l ++ [x] ++ t := by simp
    rw [List.foldl_cons, if_neg fresh, ih (rest ▸ h), rest]

/-- Each of the four takes the publication once. -/
theorem sinkOrder_perm (order : List Sink) : (sinkOrder order).Perm [.driveLine, .recorder, .cue, .noticeUnit] := by
  refine (List.perm_ext_iff_of_nodup (foldl_insert_nodup List.nodup_nil) (by decide)).mpr fun x => ?_
  rw [mem_foldl_insert]
  cases x <;> simp

/-- An order given without repetitions is kept. -/
theorem prefix_sinkOrder {order : List Sink} (h : order.Nodup) : order <+: sinkOrder order := by
  rw [sinkOrder, List.foldl_append, foldl_insert_fresh (l := []) h]
  exact prefix_foldl_insert _ _

/-! ### The whole frame -/

theorem publishedOuts_eq (s : State) : s.publishedOuts =
    Vector.ofFn fun i => if (s.axis i).state = .unconfigured then none else some (s.axis i).out := by
  refine congrArg Vector.ofFn (funext fun i => ?_)
  by_cases h : (s.axis i).state = .unconfigured <;> simp [Axis.configured, h]

/-- The state after stage 2 of a frame, and the button codes that came about in it. -/
def State.asked (s : State) (turns : PlayerTurns) : State × List Nat := askPlayers turns { s with timer := s.timer.expire }

theorem asked_same (s : State) (turns : PlayerTurns) : SameButAsked { s with timer := s.timer.expire } (s.asked turns).1 :=
  askPlayers_asked turns _

theorem asked_axis (s : State) (turns : PlayerTurns) (i : Fin 8) : (s.asked turns).1.axis i = s.axis i :=
  axis_of_axes (t := (s.asked turns).1) (s := s) (asked_same s turns).axes i

theorem asked_stick (s : State) (turns : PlayerTurns) :
    (s.asked turns).1.stick = (stickEvents (turns.mid ++ turns.late) s).1.stick := askPlayers_stick turns rfl rfl

theorem asked_refCount (s : State) (turns : PlayerTurns) (p : PlayerId) : (s.asked turns).1.refCount p = s.refCount p :=
  refCount_of_axes (s := s) (asked_same s turns).axes p

theorem asked_releases (s : State) (turns : PlayerTurns) (p : PlayerId) :
    (s.player p).Releases ((s.asked turns).1.player p) := by
  have same : ({ s with timer := s.timer.expire } : State).player p = s.player p := by cases p <;> rfl
  exact same ▸ askPlayers_releases p turns _

/-- The publication of a state (R25): its output set, and the Recorder awaiting it. -/
def State.published (s : State) : State :=
  { s with outputSet := s.publishedOuts, recorder := { s.recorder with awaiting := true } }

theorem published_axis (s : State) (i : Fin 8) : s.published.axis i = s.axis i := rfl

theorem published_player (s : State) (p : PlayerId) : s.published.player p = s.player p := by cases p <;> rfl

theorem publishedOuts_getElem (s : State) (i : Fin 8) :
    s.publishedOuts[i] = if (s.axis i).state = .unconfigured then none else some (s.axis i).out := by
  rw [publishedOuts_eq]
  simp

theorem published_eq (s : State) : s.published = { s with
    outputSet := Vector.ofFn fun i => if (s.axis i).state = .unconfigured then none else some (s.axis i).out,
    recorder := { s.recorder with awaiting := true } } := by
  rw [State.published, publishedOuts_eq]

theorem published_outputSet (s : State) : s.published.outputSet = s.publishedOuts := rfl

theorem published_tables (s : State) : s.published.timer = s.timer ∧ s.published.stick = s.stick ∧
    s.published.geometry = s.geometry ∧ s.published.stopLine = s.stopLine ∧ s.published.marks = s.marks ∧
    s.published.cueList = s.cueList ∧ s.published.triggers = s.triggers ∧ s.published.cue = s.cue :=
  ⟨rfl, rfl, rfl, rfl, rfl, rfl, rfl, rfl⟩

theorem publish_eq (order : List Sink) (s : State) :
    publish order s = (sinkOrder order).foldl (publishTo s.published) s.published := rfl

/-- The state that a frame publishes (R25). -/
def State.publication (s : State) (turns : PlayerTurns) : State := (blendAndLimit (s.asked turns).1).published

theorem publication_axis (s : State) (turns : PlayerTurns) (i : Fin 8) :
    (s.publication turns).axis i = (blendAndLimit (s.asked turns).1).axis i := published_axis _ i

theorem publication_player (s : State) (turns : PlayerTurns) (p : PlayerId) :
    (s.publication turns).player p = (blendAndLimit (s.asked turns).1).player p := published_player _ p

theorem outputFrame_eq (order : List Sink) (turns : PlayerTurns) (s : State) : outputFrame order turns s =
    (s.asked turns).2.foldl buttonCode (takeFaults turns.faults
      ((sinkOrder order).foldl (publishTo (s.publication turns)) (s.publication turns))) := by
  rw [State.publication, ← publish_eq]
  rfl

theorem outputFrame_publishes (order : List Sink) (turns : PlayerTurns) (s : State) :
    Publishes (s.publication turns) (outputFrame order turns s) := by
  rw [outputFrame_eq]
  exact (Publishes.foldl (publishTo_publishes _) _ _).trans ((takeFaults_publishes _ _).trans (.foldl buttonCode_publishes _ _))

theorem settled_tables (cand : Fin 8 → Int) (f : Fin 8 → ClampFlags) (s : State) :
    SameTables s (s.settled cand f) ∧ (s.settled cand f).cue = s.cue := ⟨{}, rfl⟩

theorem trackStage_tables (s : State) : SameTables s (trackStage s) ∧ (trackStage s).cue = s.cue := ⟨{}, rfl⟩

/-- The tables of the block are after stage 6 as stage 2 left them. -/
theorem blendAndLimit_tables (s : State) : SameTables s (blendAndLimit s) ∧ (blendAndLimit s).cue = s.cue := by
  obtain ⟨blended, cue⟩ := blendStage_players s
  obtain ⟨settled, cue'⟩ := settled_tables s.candidate s.handedFlags (blendStage s)
  have library := limitStage_library s.candidate s.handedFlags (blendStage s)
  obtain ⟨tracked, cue''⟩ := trackStage_tables (limitStage s.candidate s.handedFlags (blendStage s))
  exact ⟨blended.tables.trans (settled.trans (library.sameButPlayers.sameButMotion.tables.trans tracked)),
    cue''.trans (library.cue.trans (cue'.trans cue))⟩

theorem publication_tables (s : State) (turns : PlayerTurns) :
    (s.publication turns).timer = s.timer.expire ∧
    (s.publication turns).stick = (stickEvents (turns.mid ++ turns.late) s).1.stick ∧
    (s.publication turns).geometry = s.geometry ∧ (s.publication turns).stopLine = s.stopLine ∧
    (s.publication turns).marks = s.marks ∧ (s.publication turns).cueList = s.cueList ∧
    (s.publication turns).triggers = s.triggers ∧ (s.publication turns).cue = s.cue := by
  have asked := asked_same s turns
  obtain ⟨limited, cue⟩ := blendAndLimit_tables (s.asked turns).1
  obtain ⟨timer', stick', geometry', stopLine', marks', cueList', triggers', cue'⟩ :=
    published_tables (blendAndLimit (s.asked turns).1)
  rw [State.publication, timer', stick', geometry', stopLine', marks', cueList', triggers', cue', limited.timer, limited.stick,
    limited.geometry, limited.stopLine, limited.marks, limited.cueList, limited.triggers, cue]
  exact ⟨asked.timer, asked_stick s turns, asked.geometry, asked.stopLine, asked.marks, asked.cueList, asked.triggers, asked.cue⟩

/-- What a fade's completion clears in the frame (R28, R36, R122). -/
theorem frame_cleared {s : State} {turns : PlayerTurns} {p : PlayerId} (releasing : (s.player p).state = .releasing)
    (named : s.refCount p ≠ 0) (unnamed : (blendAndLimit (s.asked turns).1).refCount p = 0) :
    (blendAndLimit (s.asked turns).1).player p =
      { Player.reset with rate := (s.player p).rate, binding := (s.player p).binding } := by
  have asked := asked_releases s turns p
  rw [blendAndLimit_cleared ⟨by rwa [asked_refCount], unnamed⟩ (asked.state.mpr releasing), Player.toIdle, asked.rate releasing,
    asked.binding releasing]

theorem frame_player_kept {s : State} {turns : PlayerTurns} {p : PlayerId} (h : ¬ ((s.player p).state = .releasing ∧
    s.refCount p ≠ 0 ∧ (blendAndLimit (s.asked turns).1).refCount p = 0)) :
    (blendAndLimit (s.asked turns).1).player p = (s.asked turns).1.player p := by
  refine blendAndLimit_player_kept fun ⟨⟨named, unnamed⟩, releasing⟩ => h ⟨?_, ?_, unnamed⟩
  · exact (asked_releases s turns p).state.mp releasing
  · rwa [asked_refCount] at named

/-- A player that the frame clears is IDLE after it while the cue is at rest (R125). -/
theorem frame_cleared_idle {s : State} {turns : PlayerTurns} {p : PlayerId} (order : List Sink)
    (releasing : (s.player p).state = .releasing) (named : s.refCount p ≠ 0)
    (unnamed : (blendAndLimit (s.asked turns).1).refCount p = 0) (rest : s.CueRests) :
    ((outputFrame order turns s).player p).state = .idle := by
  refine ((outputFrame_publishes order turns s).parked p ⟨?_, ?_, ?_⟩).idle
  · rw [publication_player, frame_cleared releasing named unnamed]
    rfl
  · rw [publication_player, frame_cleared releasing named unnamed]
    rfl
  · obtain ⟨_, _, _, _, _, _, _, cue⟩ := publication_tables s turns
    rwa [State.CueRests, cue]

/-- The frame's demand and flags at an axis, in the terms of the state before it (R29, R32, R34, R35). -/
theorem asked_demand {s : State} {turns : PlayerTurns} {i : Fin 8} {c : AxisConfig} (cfg : (s.axis i).cfg = some c) :
    let q := (s.asked turns).1
    let v := stickVelocity c s.geometry (s.geoOut reach) (q.stick.axisDemand c)
    q.routed i = (s.axis i).blend.route c v ∧
    q.handedFlags i = { ClampFlags.none with
      trimSat := (s.axis i).blend.trimSat c v, tipClamp := tipClamp c s.geometry (s.geoOut reach) } := by
  have axis := asked_axis s turns i
  have geometry : (s.asked turns).1.geometry = s.geometry := (asked_same s turns).geometry
  have out : (s.asked turns).1.geoOut reach = s.geoOut reach := geoOut_congr (s := s) (asked_same s turns).axes reach
  simp only [State.routed, State.handedFlags, State.velocity, axis, cfg, geometry, out, true_and]

theorem asked_inEnabledZone (s : State) (turns : PlayerTurns) (x : Fin 8 → Option Proposal) :
    (s.asked turns).1.inEnabledZone ((s.asked turns).1.checkPoint x) = s.inEnabledZone (s.checkPoint x) := by
  have zones : (s.asked turns).1.zones = s.zones := (asked_same s turns).zones
  have out : ∀ i : Fin 8, (s.asked turns).1.geoOut i = s.geoOut i := geoOut_congr (s := s) (asked_same s turns).axes
  simp only [State.inEnabledZone, State.checkPoint, zones, out]

theorem propose_active {a : Axis} {c : AxisConfig} (cfg : a.cfg = some c) (h : a.state = .active) (cand : Int) (f : ClampFlags) :
    a.propose cand f = some (limitChain c a.out a.vPrev cand f) := by simp [Axis.propose, cfg, h]

theorem propose_stopping {a : Axis} {c : AxisConfig} (cfg : a.cfg = some c) (h : a.state = .stopping) (cand : Int) (f : ClampFlags) :
    a.propose cand f = some (stopChain c a.out a.vPrev) := by simp [Axis.propose, cfg, h]

/-- Where the frame leaves an axis that proposes `x`, in the terms of the state before it (R51, R52, R63, R65). -/
theorem frame_moved {s : State} {turns : PlayerTurns} (order : List Sink) {i : Fin 8} {x : Proposal} :
    let q := (s.asked turns).1
    let t := outputFrame order turns s
    let proposed (j : Fin 8) := (s.axis j).propose (q.candidate j) (q.handedFlags j)
    let held := geometric i = true ∧ s.inEnabledZone (s.checkPoint proposed) = true
    proposed i = some x → (held → (t.axis i).out = (s.axis i).out) ∧ (¬ held → (t.axis i).out = x.p) ∧
      ((t.axis i).state ≠ .fault → (t.axis i).vPrev = (t.axis i).out - (s.axis i).out ∧
        (held → (t.axis i).flags = { x.flags with zone := true }) ∧ (¬ held → (t.axis i).flags = x.flags)) := by
  intro q t proposed held h
  have rests := (outputFrame_publishes order turns s).axes i
  rw [publication_axis] at rests
  have proposal : (q.axis i).propose (q.candidate i) (q.handedFlags i) = some x := by
    rw [asked_axis]
    exact h
  obtain ⟨out, move, flags⟩ := blendAndLimit_moved proposal
  rw [asked_axis] at out move
  have hold : q.heldAt i = true ↔ held := by
    have axis : q.axis = s.axis := funext (asked_axis s turns)
    rw [heldAt_iff (propose_isSome proposal), asked_inEnabledZone, axis]
  refine ⟨fun k => ?_, fun k => ?_, fun sound => ?_⟩
  · rw [rests.out, out, if_pos (hold.mpr k)]
  · rw [rests.out, out, if_neg (mt hold.mp k)]
  · obtain ⟨_, v, g⟩ := rests.moved sound
    refine ⟨by rw [v, move, rests.out], fun k => ?_, fun k => ?_⟩
    · rw [g, flags, if_pos (hold.mpr k)]
    · rw [g, flags, if_neg (mt hold.mp k)]

theorem configured_iff {a : Axis} : a.configured = true ↔ a.state ≠ .unconfigured := by simp [Axis.configured]

/-- The published output set (R25). -/
theorem frame_outputSet (order : List Sink) (turns : PlayerTurns) (s : State) (i : Fin 8) :
    (outputFrame order turns s).outputSet[i] =
      if (s.axis i).state = .unconfigured then none else some ((outputFrame order turns s).axis i).out := by
  have published := outputFrame_publishes order turns s
  have configured : ((blendAndLimit (s.asked turns).1).axis i).configured = (s.axis i).configured := by
    rw [blendAndLimit_configured, asked_axis]
  have same : ((blendAndLimit (s.asked turns).1).axis i).state = .unconfigured ↔ (s.axis i).state = .unconfigured := by
    rw [← not_iff_not]
    exact configured_iff.symm.trans (configured ▸ configured_iff)
  rw [published.tables.outputSet, (published.axes i).out, publication_axis, State.publication, published_outputSet,
    publishedOuts_getElem]
  simp only [same]

/-- An axis that does not move keeps its position in a frame. -/
theorem frame_out_still (order : List Sink) (turns : PlayerTurns) {s : State} {i : Fin 8} (h : (s.axis i).moving = false) :
    ((outputFrame order turns s).axis i).out = (s.axis i).out := by
  have still : (((s.asked turns).1).axis i).moving = false := by rw [asked_axis, h]
  rw [((outputFrame_publishes order turns s).axes i).out, publication_axis, blendAndLimit_out_still still, asked_axis]

/-- The record of a configured axis after stages 3 to 6, in the terms of the state before the frame. -/
theorem frame_blend {s : State} {turns : PlayerTurns} {i : Fin 8} {c : AxisConfig} (cfg : (s.axis i).cfg = some c)
    (configured : (s.axis i).state ≠ .unconfigured) :
    ((blendAndLimit (s.asked turns).1).axis i).blend =
      (if (s.axis i).state = .active then
        ((s.axis i).blend.route c (stickVelocity c s.geometry (s.geoOut reach)
          ((s.asked turns).1.stick.axisDemand c))).progress
        else (s.axis i).blend).track ((blendAndLimit (s.asked turns).1).axis i).out := by
  have there : (((s.asked turns).1).axis i).configured = true := by
    rw [asked_axis]
    exact configured_iff.mpr configured
  rw [blendAndLimit_blend there, State.blended, (asked_demand cfg).1, asked_axis]

theorem exec_outputFrame {s : State} (h : s.power.on = true) (order : List Sink) (turns : PlayerTurns) :
    exec (.outputFrame order turns) s = happened (outputFrame order turns s) := event_on h

/-- Settles O28: the frame is cut into what is asked, what is published, and what the takers make of the publication. -/
theorem outputFramePublishes : Obligations.OutputFramePublishes := by
  refine ⟨fun order turns s on => ?_, fun turns s => ?_, fun f s same => ?_⟩
  · have published := (outputFrame_publishes order turns s).tables
    obtain ⟨timer, stick, geometry, stopLine, marks, cueList, triggers, _⟩ := publication_tables s turns
    have timer' := published.timer.trans timer
    refine ⟨outputFrame order turns s, exec_outputFrame on order turns, congrArg FrameTimer.number timer',
      congrArg FrameTimer.interval timer', congrArg FrameTimer.elapsed timer', (congrArg FrameTimer.period timer').trans rfl,
      frame_outputSet order turns s, fun i still => frame_out_still order turns ?_, published.stick.trans stick,
      published.geometry.trans geometry, published.stopLine.trans stopLine, published.marks.trans marks,
      published.cueList.trans cueList, published.triggers.trans triggers, ?_, sinkOrder_perm order, prefix_sinkOrder,
      fun u => ⟨rfl, rfl, rfl, rfl⟩, fun p => ⟨fun ⟨releasing, named, unnamed⟩ => ⟨frame_cleared releasing named unnamed,
        fun idle waits => frame_cleared_idle order releasing named unnamed ⟨idle, waits⟩⟩, frame_player_kept⟩, fun i c cfg => ?_⟩
    · rcases still with e | e <;> simp [Axis.moving, e]
    · rw [outputFrame_eq, State.publication, published_eq]
      rfl
    · obtain ⟨routed, flags⟩ := asked_demand (turns := turns) cfg
      refine ⟨?_, flags, frame_blend cfg, fun x chain => ?_⟩
      · exact congrArg (fun b => Blend.candidate b _ _) routed
      · have proposed : (s.axis i).propose ((s.asked turns).1.candidate i) ((s.asked turns).1.handedFlags i) = some x := by
          rcases chain with ⟨active, rfl⟩ | ⟨stopping, rfl⟩
          · exact propose_active cfg active _ _
          · exact propose_stopping cfg stopping _ _
        exact ⟨proposed, frame_moved order proposed⟩
  · exact ⟨rfl, fun mid late => askPlayers_answers mid late s, (askPlayers_asked turns s).axes, askPlayers_stick turns rfl rfl⟩
  · obtain ⟨addresses, each⟩ := drivePublication_exchanges same
    exact ⟨addresses, fun x hx => ⟨(each x hx).setpoint, (each x hx).feedForward, (each x hx).seq, (each x hx).next,
      (each x hx).enable⟩⟩

end Sys2Proof.Machine
end

section
/-! The completion of a fetch (R82, R85, R105 to R109, R123): what the library keeps of it, what its player makes of the outcome,
outside an output frame and within one, and the fetch that follows. -/

namespace Sys2Proof.Machine

/-! ### What a finished read leaves at the library (R75, R85) -/

theorem slot_setSlot_same {s : State} (h : s.lib.wf = true) (b n : Nat) (x : Slot) : (s.setSlot b n x).slot b n = x := by
  obtain ⟨keys, _⟩ := (Library.wf_iff s.lib).mp h
  simp only [sparseWf, Bool.and_eq_true] at keys
  exact (sparseGet_set keys.1).trans (if_pos rfl)

theorem block_setBlock_same {s : State} (h : s.lib.wf = true) (b : Nat) (e : BlockEntry) : (s.setBlock b e).block b = e := by
  obtain ⟨_, blocks⟩ := (Library.wf_iff s.lib).mp h
  simp only [sparseWf, Bool.and_eq_true] at blocks
  exact (sparseGet_set blocks.1).trans (if_pos rfl)

/-- A notice with a fault report leaves the library's tables alone. -/
theorem raise_faultReport_lib (d : Detail) (r : FaultRecord) (s : State) : (raise d (faultReport r s)).lib = s.lib :=
  (raise_traffic d _).lib.trans (faultReport_traffic r s).lib

theorem faultReport_noticeSlot {c : NoticeClass} (h : c ≠ .fault) (r : FaultRecord) (s : State) :
    (faultReport r s).noticeSlot c = s.noticeSlot c := by
  unfold faultReport
  simp only
  split
  · split
    · exact raise_noticeSlot_other h _
    · rfl
  · exact raise_noticeSlot_other h _

theorem raise_faultReport_playerNotice {d : Detail} (h : NoticeClass.player ≠ d.cls) (r : FaultRecord) (s : State) :
    (raise d (faultReport r s)).noticeSlot .player = s.noticeSlot .player :=
  (raise_noticeSlot_other h _).trans (faultReport_noticeSlot (c := .player) nofun r s)

/-- The reports of a read leave its slot as it is, the link of its block, and the notices of the players. -/
theorem reportRead_kept {s : State} (h : s.lib.wf = true) (m : MoveIx) (i b n : Nat) (p : Option PlayerId) (c : KeyCheck) :
    (reportRead m i b p c s).slot b n = s.slot b n ∧ ((reportRead m i b p c s).block b).link = (s.block b).link ∧
    (reportRead m i b p c s).noticeSlot .player = s.noticeSlot .player := by
  unfold reportRead
  split
  · exact ⟨rfl, rfl, rfl⟩
  · refine ⟨?_, ?_, ?_⟩
    · rw [State.slot, raise_faultReport_lib, ← State.slot]
    · rw [State.block, raise_faultReport_lib, ← State.block]
    · exact raise_faultReport_playerNotice (d := .storeRead _ m i b) nofun _ _
  · have flagged : (s.setEntry m { s.entry m with flags := { (s.entry m).flags with damaged := true } }).lib.wf = true :=
      Library.wf_of_eq rfl rfl h
    refine ⟨?_, ?_, ?_⟩
    · rw [State.slot, raise_faultReport_lib]
      rfl
    · rw [State.block, raise_faultReport_lib, ← State.block, block_setBlock_same flagged]
      rfl
    · exact raise_faultReport_playerNotice (d := .storeRead _ m i b) nofun _ _

/-- A DAMAGED key leaves its entry flagged and its block suspect (R85). -/
theorem reportRead_damaged {s : State} (h : s.lib.wf = true) (m : MoveIx) (i b : Nat) (p : Option PlayerId) :
    ((reportRead m i b p .damaged s).entry m).flags.damaged = true ∧
    ((reportRead m i b p .damaged s).block b).suspect = true := by
  have flagged : (s.setEntry m { s.entry m with flags := { (s.entry m).flags with damaged := true } }).lib.wf = true :=
    Library.wf_of_eq rfl rfl h
  unfold reportRead
  constructor
  · rw [State.entry, raise_faultReport_lib, ← State.entry]
    exact congrArg (fun e : Entry => e.flags.damaged) (setEntry_entry_same s m _)
  · rw [State.block, raise_faultReport_lib, ← State.block, block_setBlock_same flagged]

theorem worse_again (x c : KeyCheck) : worse (worse x c) c = worse x c := by cases x <;> cases c <;> rfl

/-- The state in which the outcome of a fetch is delivered: the read is finished, and the port is FREE of it. -/
def State.fetched (s : State) (p : PlayerId) (m : MoveIx) (index b slot : Nat) (check : KeyCheck) : State :=
  (finishRead m index b slot (some p) check s).unserved

/-- What stands at the library once the read is finished: the outcome stays with the slot. -/
theorem finishRead_reads {s : State} (h : s.lib.wf = true) (m : MoveIx) (i b n : Nat) (p : Option PlayerId) (c : KeyCheck) :
    let u := finishRead m i b n p c s
    u.readOutcome b n c = s.readOutcome b n c ∧ (u.slot b n).key = (s.slot b n).key ∧ u.following b n = s.following b n ∧
      u.noticeSlot .player = s.noticeSlot .player := by
  intro u
  obtain ⟨slot, link, notice⟩ := reportRead_kept (setSlot_lib_wf b n { s.slot b n with health := s.readOutcome b n c } h) m i b n p
    (s.readOutcome b n c)
  have slot' : u.slot b n = { s.slot b n with health := s.readOutcome b n c } := slot.trans (slot_setSlot_same h b n _)
  refine ⟨?_, by rw [slot'], ?_, notice⟩
  · rw [State.readOutcome, slot', State.readOutcome]
    exact worse_again _ c
  · have link' : (u.block b).link = (s.block b).link := link
    rw [State.following, link', ← State.following]

/-! ### The port after the fetch -/

/-- The port serving a fetch that its player still wants, with nothing else waiting. -/
def KeyPort.fetching (p : PlayerId) (m : MoveIx) (index b slot : Nat) : KeyPort :=
  { KeyPort.idle with serving := some { access := .fetch p m index b slot, wanted := true, released := false } }

theorem fetched_port {s : State} {p : PlayerId} {m : MoveIx} {index b slot : Nat} (h : s.port = .fetching p m index b slot)
    (check : KeyCheck) : (s.fetched p m index b slot check).port = KeyPort.idle := by
  show ({ (finishRead m index b slot (some p) check s).port with serving := none } : KeyPort) = _
  rw [(finishRead_aside m index b slot (some p) check s).port, h]
  rfl

theorem fetched_aside (s : State) (p : PlayerId) (m : MoveIx) (index b slot : Nat) (check : KeyCheck) :
    SameButLibrary s (s.fetched p m index b slot check) :=
  (finishRead_library m index b slot (some p) check s).trans (by constructor <;> rfl)

/-- A FREE port with nothing waiting stays as it is. -/
theorem freePort_unserved {s : State} (h : s.unserved.port = KeyPort.idle) : freePort s = s.unserved := by
  have stays : ∀ u : State, u.port = KeyPort.idle → arbitrate 5 u = u := fun u idle => by
    unfold arbitrate
    rw [idle]
    rfl
  exact stays _ h

/-- A fetch requested at a FREE port is served at once (R83). -/
theorem requestPort_fetch {s : State} (h : s.port = KeyPort.idle) (p : PlayerId) (m : MoveIx) (i b n : Nat) :
    requestPort (.fetch p m i b n) s = { s with port := .fetching p m i b n } := by
  have same : s = { s with port := KeyPort.idle } := by rw [← h]
  rw [same]
  cases p <;> rfl

/-- What R107 makes of the state while the port is FREE: the player's fetch, and the port. -/
theorem fetchIfRoom_idle {s : State} (h : s.port = KeyPort.idle) (p : PlayerId) : ∃ (o : Bool) (q : KeyPort),
    fetchIfRoom p s = { s with port := q }.setPlayer p { s.player p with outstanding := o } := by
  cases asks : (s.player p).asks with
  | false =>
    refine ⟨(s.player p).outstanding, s.port, ?_⟩
    rw [fetchIfRoom_silent asks]
    cases p <;> rfl
  | true =>
    obtain ⟨m, c, move, cursor, _⟩ := asks_iff.mp asks
    refine ⟨true, .fetching p m c.index c.block c.slot, ?_⟩
    rw [fetchIfRoom_asks move cursor asks, requestPort_fetch (by rw [setPlayer_port, h])]
    cases p <;> rfl

theorem fetchIfRoom_port {s : State} (h : s.port = KeyPort.idle) {p : PlayerId} {m : MoveIx} {c : Cursor}
    (move : (s.player p).move = some m) (cursor : (s.player p).cursor = some c) (asks : (s.player p).asks = true) :
    (fetchIfRoom p s).port = .fetching p m c.index c.block c.slot := by
  rw [fetchIfRoom_asks move cursor asks, requestPort_fetch (by rw [setPlayer_port, h])]

theorem asks_false_of_fetches {r : Player} (h : r.fetches = false) : r.asks = false := by simp [Player.asks, h]

/-! ### The outcome at its player -/

section

variable {s : State} {p : PlayerId} {m : MoveIx} {index b slot : Nat} (check : KeyCheck)

/-- The completion of the fetch being served, in the terms of the outcome at its player. -/
theorem completeAccess_fetch (port : s.port = .fetching p m index b slot) (wf : s.lib.wf = true) (inFrame : Bool) :
    let w := deliverFetch inFrame p index false (s.readOutcome b slot check) (s.slot b slot).key (s.following b slot)
      (finishRead m index b slot (some p) check s)
    completeAccess inFrame check s = fetchIfRoom p (freePort w) := by
  obtain ⟨outcome, key, following, _⟩ := finishRead_reads wf m index b slot (some p) check
  have serving : s.port.serving = some { access := .fetch p m index b slot, wanted := true, released := false } := by
    rw [port]
    rfl
  unfold completeAccess
  rw [serving]
  simp only [nextRequest, deliverOutcome, finishAccess, if_true, Bool.false_eq_true, if_false, outcome, key, following]

/-- What a change of its player alone leaves, once the port is free. -/
theorem freePort_setPlayer (port : s.port = .fetching p m index b slot) (r : Player) :
    freePort ((finishRead m index b slot (some p) check s).setPlayer p r) = (s.fetched p m index b slot check).setPlayer p r := by
  have commutes := unserved_setPlayer (finishRead m index b slot (some p) check s) p r
  rw [freePort_unserved, commutes]
  · rfl
  · rw [commutes, setPlayer_port]
    exact fetched_port port check

theorem finishRead_player (s : State) (p : PlayerId) (m : MoveIx) (index b slot : Nat) (check : KeyCheck) (r : PlayerId) :
    (finishRead m index b slot (some p) check s).player r = s.player r := (finishRead_library m index b slot (some p) check s).player r

/-- A player that does not fetch discards the outcome (R109). -/
theorem completeAccess_discarded (port : s.port = .fetching p m index b slot) (wf : s.lib.wf = true) (inFrame : Bool)
    (idle : (s.player p).fetches = false) : completeAccess inFrame check s =
      (s.fetched p m index b slot check).setPlayer p { s.player p with outstanding := false } := by
  have delivered := completeAccess_fetch check port wf inFrame
  simp only [deliverFetch, discardOutcome, finishRead_player, idle, true_or, if_true] at delivered
  rw [delivered, freePort_setPlayer check port]
  exact fetchIfRoom_silent (asks_false_of_fetches (by rw [setPlayer_player_same]; exact idle))

/-- A key that is not DAMAGED is placed, and the next fetch begins (R107, R108). -/
theorem completeAccess_placed (port : s.port = .fetching p m index b slot) (wf : s.lib.wf = true) (inFrame : Bool)
    (fetching : (s.player p).fetches = true) (sound : s.readOutcome b slot check ≠ .damaged) :
    completeAccess inFrame check s = fetchIfRoom p ((s.fetched p m index b slot check).setPlayer p
      ((s.player p).place index (s.slot b slot).key (s.following b slot))) := by
  have delivered := completeAccess_fetch check port wf inFrame
  simp only [deliverFetch, finishRead_player, fetching, sound, Bool.true_eq_false, Bool.false_eq_true, or_self, if_false] at delivered
  rw [delivered, freePort_setPlayer check port]

/-- Within an output frame a DAMAGED outcome waits for the publication (R123). -/
theorem completeAccess_deferred (port : s.port = .fetching p m index b slot) (wf : s.lib.wf = true)
    (fetching : (s.player p).fetches = true) (damaged : s.readOutcome b slot check = .damaged) :
    completeAccess true check s =
      fetchIfRoom p ((s.fetched p m index b slot check).setPlayer p { s.player p with arrived := some index }) := by
  have delivered := completeAccess_fetch check port wf true
  simp only [deliverFetch, deferFault, finishRead_player, fetching, damaged, Bool.true_eq_false, Bool.false_eq_true, or_self,
    if_false, if_true] at delivered
  rw [delivered, freePort_setPlayer check port]

end

/-! ### A player's fault (R123) -/

theorem unserved_playerFault (p : PlayerId) (n : Nat) (s : State) : (playerFault p n s).unserved = playerFault p n s.unserved := by
  have noticed : ∀ u : State, (playerNotice p u).unserved = playerNotice p u.unserved := fun u => by cases p <;> rfl
  unfold playerFault releaseRequest
  rw [noticed, unserved_handBackWhere, unserved_setPlayer, unserved_player]

theorem becomeIdle_port_idle {s : State} (h : s.port = KeyPort.idle) (p : PlayerId) : (becomeIdle p s).port = KeyPort.idle := by
  have cleared : ∀ u : State, u.port = s.port →
      ({ u with port := (u.port.withdraw p).disown p }.setPlayer p (s.player p).toIdle).port = KeyPort.idle := fun u same => by
    rw [setPlayer_port]
    show (u.port.withdraw p).disown p = _
    rw [same, h]
    cases p <;> rfl
  unfold becomeIdle
  simp only
  split
  · exact cleared _ rfl
  · exact cleared s rfl

theorem clearIfGone_port_idle {s : State} (h : s.port = KeyPort.idle) (p : PlayerId) (n : Nat) :
    (clearIfGone p n s).port = KeyPort.idle := by
  unfold clearIfGone refClear
  split
  · split
    · exact becomeIdle_port_idle h p
    · exact h
  · exact h

theorem withClears_port_idle {s u : State} (h : u.port = KeyPort.idle) : (withClears s u).port = KeyPort.idle := by
  unfold withClears
  exact clearIfGone_port_idle (clearIfGone_port_idle h .a _) .b _

theorem handBackWhere_port_idle {s : State} (h : s.port = KeyPort.idle) (b : Blend → Bool) :
    (handBackWhere b s).port = KeyPort.idle := by
  unfold handBackWhere
  exact withClears_port_idle h

theorem handBackWhere_player_kept {s : State} {p : PlayerId} (h : (s.player p).state ≠ .releasing) (b : Blend → Bool) :
    (handBackWhere b s).player p = s.player p := (handBackWhere_arrivals b s p).2 (.inl h)

/-- The record of a player that has met a DAMAGED key (R123). -/
def Player.damagedAt (r : Player) (n : Nat) : Player :=
  { r with state := .faulted, outstanding := false, fifo := [], faultKey := some n }

theorem playerFault_player (p : PlayerId) (n : Nat) (s : State) : (playerFault p n s).player p = (s.player p).damagedAt n := by
  unfold playerFault releaseRequest
  rw [(playerNotice_library _ _).player, handBackWhere_player_kept, setPlayer_player_same]
  · rfl
  · rw [setPlayer_player_same]
    exact (nomatch ·)

/-- Every ACTIVE axis that follows the player is handed back, and no other axis changes. -/
theorem playerFault_axis (p : PlayerId) (n : Nat) (s : State) (i : Fin 8) : (playerFault p n s).axis i =
    if (s.axis i).state = .active ∧ (s.axis i).blend.names p.source = true then
      { s.axis i with blend := (s.axis i).blend.handBack s.geometry.releaseFrames (s.axis i).out } else s.axis i := by
  unfold playerFault releaseRequest
  rw [axis_of_axes (playerNotice_library _ _).axes, handBackWhere_axis, axis_of_axes (setPlayer_axes _ _ _), setPlayer_geometry]

theorem playerFault_notice (p : PlayerId) (n : Nat) (s : State) : ((playerFault p n s).noticeSlot .player).detail = some {
    frame := s.timer.number, detail := .player p .faulted (s.player p).source? ((s.player p).time / 256) (some n) } := by
  have record := playerFault_player p n s
  unfold playerFault at record ⊢
  rw [(playerNotice_library _ _).player] at record
  have timer := ((setPlayer_players p { s.player p with state := .faulted, outstanding := false, fifo := [], faultKey := some n }
    s).sameButMotion.trans (releaseRequest_motion p _)).timer
  unfold playerNotice
  simp only [record]
  refine (congrArg NoticeSlot.detail (raise_noticeSlot_same _ _)).trans ?_
  simp only [NoticeSlot.raised, timer]
  rfl

theorem playerFault_port_idle {s : State} (h : s.port = KeyPort.idle) (p : PlayerId) (n : Nat) :
    (playerFault p n s).port = KeyPort.idle := by
  unfold playerFault releaseRequest
  exact (raise_traffic _ _).port.trans (handBackWhere_port_idle (by rw [setPlayer_port, h]) _)

/-- Outside an output frame a DAMAGED key makes its player FAULTED at once. -/
theorem completeAccess_faulted {s : State} {p : PlayerId} {m : MoveIx} {index b slot : Nat} (check : KeyCheck)
    (port : s.port = .fetching p m index b slot) (wf : s.lib.wf = true) (fetching : (s.player p).fetches = true)
    (damaged : s.readOutcome b slot check = .damaged) :
    completeAccess false check s = playerFault p index (s.fetched p m index b slot check) := by
  have delivered := completeAccess_fetch check port wf false
  simp only [deliverFetch, finishRead_player, fetching, damaged, Bool.true_eq_false, Bool.false_eq_true, or_self, if_false,
    if_true] at delivered
  have freed : (playerFault p index (finishRead m index b slot (some p) check s)).unserved =
      playerFault p index (s.fetched p m index b slot check) := unserved_playerFault _ _ _
  rw [delivered, freePort_unserved (by rw [freed]; exact playerFault_port_idle (fetched_port port check) p index), freed]
  exact fetchIfRoom_silent (asks_false_of_fetches (by rw [playerFault_player]; rfl))

/-! ### A placed key (R108) -/

theorem place_kept (r : Player) (index : Nat) (k : Key) (next : Option (Nat × Nat)) :
    (r.place index k next).time = r.time ∧ (r.place index k next).rate = r.rate ∧ (r.place index k next).move = r.move ∧
    (r.place index k next).mask = r.mask ∧ (r.place index k next).keyCount = r.keyCount ∧
    (r.place index k next).faultKey = r.faultKey := by
  unfold Player.place
  simp only
  split <;> exact ⟨rfl, rfl, rfl, rfl, rfl, rfl⟩

theorem place_start {r : Player} (h : r.startKey = none) (index : Nat) (k : Key) (next : Option (Nat × Nat)) :
    (r.place index k next).startKey = some { index := index, key := k } ∧
    (r.place index k next).published = some k.positions ∧ (r.place index k next).endKey = r.endKey ∧
    (r.place index k next).fifo = r.fifo ∧ (r.place index k next).state = r.state ∧
    (r.place index k next).filled = r.filled := by
  unfold Player.place
  rw [h]
  exact ⟨rfl, rfl, rfl, rfl, rfl, rfl⟩

theorem place_started {r : Player} (h : r.startKey ≠ none) (index : Nat) (k : Key) (next : Option (Nat × Nat)) :
    (r.place index k next).startKey = r.startKey ∧ (r.place index k next).published = r.published := by
  unfold Player.place
  simp only
  split
  · next start => exact absurd start h
  · exact ⟨rfl, rfl⟩
  · exact ⟨rfl, rfl⟩

theorem place_end {r : Player} (h : r.startKey ≠ none) (stop : r.endKey = none) (index : Nat) (k : Key)
    (next : Option (Nat × Nat)) :
    (r.place index k next).endKey = some { index := index, key := k } ∧ (r.place index k next).fifo = r.fifo ∧
    (r.place index k next).filled = true ∧
    (r.place index k next).state = if r.state = .starved then .running else r.state := by
  obtain ⟨k0, start⟩ := Option.ne_none_iff_exists'.mp h
  unfold Player.place
  rw [start, stop]
  exact ⟨rfl, rfl, rfl, rfl⟩

theorem place_tail {r : Player} (h : r.startKey ≠ none) (stop : r.endKey ≠ none) (index : Nat) (k : Key)
    (next : Option (Nat × Nat)) :
    (r.place index k next).endKey = r.endKey ∧ (r.place index k next).fifo = r.fifo ++ [{ index := index, key := k }] ∧
    (r.place index k next).filled = r.filled ∧ (r.place index k next).state = r.state := by
  obtain ⟨k0, start⟩ := Option.ne_none_iff_exists'.mp h
  obtain ⟨k1, stop'⟩ := Option.ne_none_iff_exists'.mp stop
  unfold Player.place
  rw [start, stop']
  exact ⟨rfl, rfl, rfl, rfl⟩

theorem place_cursor_last {r : Player} {index n : Nat} (count : r.keyCount = some n) (last : n ≤ index + 1) (k : Key)
    (next : Option (Nat × Nat)) : (r.place index k next).cursor = none := by
  rw [place_cursor_eq, count]
  cases next with
  | none => rfl
  | some q => exact if_neg (by omega)

theorem place_cursor_next {r : Player} {index n b slot : Nat} (count : r.keyCount = some n) (more : index + 1 < n) (k : Key) :
    (r.place index k (some (b, slot))).cursor = some { block := b, slot := slot, index := index + 1 } := by
  rw [place_cursor_eq, count]
  exact if_pos more

theorem place_fetches {r : Player} (h : r.fetches = true) (index : Nat) (k : Key) (next : Option (Nat × Nat)) :
    (r.place index k next).fetches = true := by
  have running : ∀ {x : Player}, x.state = (if r.state = .starved then PlayerState.running else r.state) → x.fetches = true :=
    fun {x} e => by
      split at e
      · simp [Player.fetches, e]
      · rw [fetches_iff, e]
        exact fetches_iff.mp h
  by_cases start : r.startKey = none
  · obtain ⟨_, _, _, _, state, _⟩ := place_start start index k next
    rw [fetches_iff, state]
    exact fetches_iff.mp h
  · by_cases stop : r.endKey = none
    · obtain ⟨_, _, _, state⟩ := place_end start stop index k next
      exact running state
    · obtain ⟨_, _, _, state⟩ := place_tail start stop index k next
      rw [fetches_iff, state]
      exact fetches_iff.mp h

/-- The place of the key that follows (R86). -/
theorem following_eq {s : State} {b slot b2 slot2 : Nat}
    (h : (slot < 15 ∧ b2 = b ∧ slot2 = slot + 1) ∨ (15 ≤ slot ∧ (s.block b).link = some b2 ∧ slot2 = 0)) :
    s.following b slot = some (b2, slot2) := by
  rcases h with ⟨inside, rfl, rfl⟩ | ⟨last, link, rfl⟩
  · exact if_pos (by simp only [Config.slots]; omega)
  · rw [State.following, if_neg (by simp only [Config.slots]; omega), link]
    rfl

/-! ### In an output frame (R123) -/

theorem asking_asks_false {r : Player} (h : r.asks = false) : r.asking = r := by
  rw [Player.asking, h]
  exact if_neg (by decide)

theorem advance_with (r : Player) (o : Bool) (a : Option Nat) (time : Nat) (k0 k1 : PlayerKey) :
    ({ r with outstanding := o, arrived := a } : Player).advance time k0 k1 =
      { r.advance time k0 k1 with outstanding := o, arrived := a } := by
  unfold Player.advance
  simp only
  split <;> rfl

/-- A position request is answered alike whatever the player waits for (R114, R123). -/
theorem requested_with (r : Player) (o : Bool) (a : Option Nat) (rate : Nat) : ∃ o' : Bool,
    ({ r with outstanding := o, arrived := a } : Player).requested rate =
      { r.requested rate with outstanding := o', arrived := a } := by
  unfold Player.requested
  simp only
  split
  · split
    · next k0 k1 _ _ _ =>
      have same := advance_with { r with rate := rate } o a (r.time + rate) k0 k1
      simp only at same
      rw [same]
      obtain ⟨x, hx⟩ := asking_eq { ({ r with rate := rate } : Player).advance (r.time + rate) k0 k1 with
        outstanding := o, arrived := a }
      obtain ⟨y, hy⟩ := asking_eq (({ r with rate := rate } : Player).advance (r.time + rate) k0 k1)
      rw [hx, hy]
      exact ⟨x, rfl⟩
    · exact ⟨o, rfl⟩
  · exact ⟨o, rfl⟩

theorem advance_source (r : Player) (time : Nat) (k0 k1 : PlayerKey) : (r.advance time k0 k1).source? = r.source? := by
  unfold Player.advance
  split <;> rfl

theorem requested_source (r : Player) (rate : Nat) : (r.requested rate).source? = r.source? := by
  unfold Player.requested
  split
  · split
    · next k0 k1 _ _ _ =>
      obtain ⟨o, e⟩ := asking_eq (({ r with rate := rate } : Player).advance (r.time + rate) k0 k1)
      rw [e]
      exact advance_source { r with rate := rate } _ _ _
    · rfl
  · rfl

theorem requested_arrived {r : Player} (h : r.arrived = none) (rate : Nat) : (r.requested rate).arrived = none := by
  unfold Player.requested
  split
  · split
    · next k0 k1 _ _ _ =>
      obtain ⟨o, e⟩ := asking_eq (({ r with rate := rate } : Player).advance (r.time + rate) k0 k1)
      rw [e]
      exact (advance_arrived { r with rate := rate } _ _ _).trans h
    · exact h
  · exact h

/-- A player that keeps keys to fetch goes on fetching (R116, R117). -/
theorem requested_fetches {r : Player} (h : r.fetches = true) (remain : r.state = .running → r.keysRemain = true) (rate : Nat) :
    (r.requested rate).fetches = true := by
  unfold Player.requested
  split
  · next running =>
    split
    · next k0 k1 _ _ _ =>
      obtain ⟨o, e⟩ := asking_eq (({ r with rate := rate } : Player).advance (r.time + rate) k0 k1)
      rw [e]
      unfold Player.advance
      split
      · exact h
      · show Player.fetches { r with state := if r.keysRemain then PlayerState.starved else .ended } = true
        rw [remain running]
        rfl
    · exact h
  · exact h

theorem Player.Becomes.arrived {r r' : Player} (h : r.Becomes r') (k : r.arrived = none) : r'.arrived = none := by
  cases h with
  | same | paused => exact k
  | idle => rfl

/-- A player that fetches can only be paused. -/
theorem Player.Becomes.fetching {r r' : Player} (h : r.Becomes r') (k : r.fetches = true) : r'.fetches = true ∧
    r'.arrived = r.arrived ∧ r'.time = r.time ∧ r'.published = r.published ∧ r'.source? = r.source? := by
  cases h with
  | same => exact ⟨k, rfl, rfl, rfl, rfl⟩
  | paused => exact ⟨rfl, rfl, rfl, rfl, rfl⟩
  | idle releasing => simp [Player.fetches, releasing] at k

/-- What a publication with the cue at rest makes of the players. -/
theorem publishTo_becomes (f : State) {s : State} (rest : s.CueRests) (x : Sink) :
    (∀ p : PlayerId, (s.player p).Becomes ((publishTo f s x).player p)) ∧ (publishTo f s x).CueRests := by
  cases x with
  | driveLine =>
    have axis : ∀ (u : State) (i : Fin 8), u.CueRests →
        (∀ p : PlayerId, (u.player p).Becomes ((driveAxis f u i).player p)) ∧ (driveAxis f u i).CueRests := fun u i k => by
      have closed := closeWindow_follows i u
      unfold driveAxis
      split
      · exact ⟨fun p => by cases p <;> exact closed.players _, closed.rest k⟩
      · exact ⟨fun _ => .same, k⟩
    have all : ∀ (l : List (Fin 8)) (u : State), u.CueRests →
        (∀ p : PlayerId, (u.player p).Becomes ((l.foldl (driveAxis f) u).player p)) ∧ (l.foldl (driveAxis f) u).CueRests :=
      fun l => by
        induction l with
        | nil => exact fun _ k => ⟨fun _ => .same, k⟩
        | cons i l ih =>
          intro u k
          obtain ⟨players, rest⟩ := axis u i k
          obtain ⟨players', rest'⟩ := ih _ rest
          exact ⟨fun p => (players p).trans (players' p), rest'⟩
    have emptied : ∀ p : PlayerId, ({ s with exchanges := [] } : State).player p = s.player p := fun p => by cases p <;> rfl
    obtain ⟨players, rest'⟩ := all allAxes { s with exchanges := [] } rest
    exact ⟨fun p => emptied p ▸ players p, rest'⟩
  | recorder =>
    have follows := (recorderPublication_library s).follows
    exact ⟨follows.players, follows.rest rest⟩
  | cue =>
    rw [publishTo, cuePublication_rest rest]
    exact ⟨fun _ => .same, rest⟩
  | noticeUnit =>
    have traffic := dividerCount_traffic f s
    refine ⟨fun p => .of_eq (player_of traffic.playerA traffic.playerB p), ?_⟩
    rw [publishTo, State.CueRests, traffic.cue]
    exact rest

theorem publishes_becomes (f : State) (l : List Sink) : ∀ {s : State}, s.CueRests → ∀ p : PlayerId,
    (s.player p).Becomes ((l.foldl (publishTo f) s).player p) := by
  induction l with
  | nil => exact fun _ _ => .same
  | cons x l ih =>
    intro s rest p
    obtain ⟨players, rest'⟩ := publishTo_becomes f rest x
    exact (players p).trans (ih rest' p)

theorem takeArrived_none {p : PlayerId} {s : State} (h : (s.player p).arrived = none) : takeArrived p s = s := by
  unfold takeArrived
  rw [h]

theorem takeArrived_fault {p : PlayerId} {s : State} {n : Nat} (arrived : (s.player p).arrived = some n)
    (fetching : (s.player p).fetches = true) :
    takeArrived p s = playerFault p n (s.setPlayer p { s.player p with arrived := none }) := by
  unfold takeArrived
  rw [arrived]
  exact if_pos (by rw [setPlayer_player_same]; exact fetching)

theorem playerFault_other_arrived {p q : PlayerId} (other : q ≠ p) {s : State} (h : (s.player q).arrived = none) (n : Nat) :
    ((playerFault p n s).player q).arrived = none := by
  unfold playerFault
  rw [(playerNotice_library _ _).player]
  refine ((handBackWhere_follows _ _).players q).arrived ?_
  rwa [setPlayer_player_other _ p q _ other]

/-- There are two players. -/
theorem PlayerId.eq_of_ne {p q r : PlayerId} (h : q ≠ p) (k : r ≠ p) : q = r := by
  cases p <;> cases q <;> cases r <;> trivial

/-- The only player with an outcome to take takes it after the publication (R123). -/
theorem takeFaults_fault {p : PlayerId} {s : State} {n : Nat} (arrived : (s.player p).arrived = some n)
    (fetching : (s.player p).fetches = true) (others : ∀ q : PlayerId, q ≠ p → (s.player q).arrived = none) (o : PlayerOrder) :
    takeFaults o s = playerFault p n (s.setPlayer p { s.player p with arrived := none }) := by
  have after : ∀ q : PlayerId, q ≠ p →
      takeArrived q (playerFault p n (s.setPlayer p { s.player p with arrived := none })) =
        playerFault p n (s.setPlayer p { s.player p with arrived := none }) := fun q other =>
    takeArrived_none (playerFault_other_arrived other (by rw [setPlayer_player_other _ p q _ other]; exact others q other) n)
  unfold takeFaults
  by_cases first : firstAsked o = p
  · rw [first, takeArrived_fault arrived fetching]
    exact after _ (first ▸ secondAsked_ne o)
  · have second : secondAsked o = p := by
      exact PlayerId.eq_of_ne (secondAsked_ne o) (Ne.symm first)
    rw [takeArrived_none (others _ first), second, takeArrived_fault arrived fetching]

/-- The state that the accesses of a frame's first part leave, and the frame's demand for positions from it. -/
theorem asked_player {s : State} {order : PlayerOrder} {check : KeyCheck} (p : PlayerId) :
    let u := frameAccesses [check] { s with timer := s.timer.expire }
    (s.asked { order := order, accesses := [check] }).1.player p = (u.player p).requested (u.boundRate (u.player p)) := by
  intro u
  have both : ∀ q q' : PlayerId, q' ≠ q → ∀ r : PlayerId, (positionRequest q' (positionRequest q u)).player r =
      (u.player r).requested (u.boundRate (u.player r)) := fun q q' other r => by
    by_cases last : r = q'
    · rw [last, positionRequest_player_same, positionRequest_player_other other,
        boundRate_congr (positionRequest_players q u).stick]
    · have own : r = q := PlayerId.eq_of_ne last (Ne.symm other)
      rw [positionRequest_player_other last, own, positionRequest_player_same]
  exact both _ _ (secondAsked_ne order) p

end Sys2Proof.Machine
end

section
/-! What the completion of a fetch leaves at its player, in each of its cases, and obligation O47. -/

namespace Sys2Proof.Machine

theorem asking_true {r : Player} (h : r.asks = true) : r.asking.outstanding = true := by rw [Player.asking, if_pos h]

/-! ### Outside an output frame -/

section

variable {s : State} {p : PlayerId} {m : MoveIx} {index b slot : Nat}

/-- RELEASING, FAULTED and IDLE discard the outcome (R109). -/
theorem discarded_outcome (check : KeyCheck) (port : s.port = .fetching p m index b slot) (wf : s.lib.wf = true)
    (idle : (s.player p).fetches = false) :
    let t := completeAccess false check s
    t.player p = { s.player p with outstanding := false } ∧ t.port = KeyPort.idle ∧ t.axes = s.axes := by
  intro t
  have discarded : t = _ := completeAccess_discarded check port wf false idle
  rw [discarded]
  exact ⟨setPlayer_player_same _ _ _, (setPlayer_port _ _ _).trans (fetched_port port check),
    (setPlayer_axes _ _ _).trans (fetched_aside s p m index b slot check).axes⟩

/-- A DAMAGED key makes its player FAULTED, and the axes that follow it are handed back (R123, R43). -/
theorem faulted_outcome (check : KeyCheck) (port : s.port = .fetching p m index b slot) (wf : s.lib.wf = true)
    (fetching : (s.player p).fetches = true) (damaged : s.readOutcome b slot check = .damaged) :
    let t := completeAccess false check s
    t.player p = (s.player p).damagedAt index ∧ t.port = KeyPort.idle ∧
    (∀ i : Fin 8, (s.axis i).state = .active → (s.axis i).blend.names p.source = true → (t.axis i).blend.toSrc = .live) ∧
    (∀ i : Fin 8, (s.axis i).state ≠ .active ∨ (s.axis i).blend.names p.source = false → t.axis i = s.axis i) ∧
    (t.noticeSlot .player).detail = some {
      frame := s.timer.number, detail := .player p .faulted (s.player p).source? ((s.player p).time / 256) (some index) } := by
  intro t
  have faulted : t = _ := completeAccess_faulted check port wf fetching damaged
  have aside := fetched_aside s p m index b slot check
  have axis : ∀ i : Fin 8, (s.fetched p m index b slot check).axis i = s.axis i := axis_of_axes aside.axes
  rw [faulted]
  refine ⟨?_, playerFault_port_idle (fetched_port port check) p index, fun i active named => ?_, fun i other => ?_, ?_⟩
  · rw [playerFault_player, aside.player]
  · rw [playerFault_axis, axis, if_pos ⟨active, named⟩]
    exact handBack_toSrc _ _ _
  · rw [playerFault_axis, axis]
    refine if_neg fun ⟨active, named⟩ => other.elim (absurd active) fun unnamed => ?_
    exact Bool.noConfusion (unnamed.symm.trans named)
  · rw [playerFault_notice, aside.player, aside.timer]

/-- A key that is not DAMAGED is placed, and then the player asks for the next (R107, R108). -/
theorem placed_outcome (check : KeyCheck) (port : s.port = .fetching p m index b slot) (wf : s.lib.wf = true)
    (fetching : (s.player p).fetches = true) (sound : s.readOutcome b slot check ≠ .damaged) :
    let t := completeAccess false check s
    let r := (s.player p).place index (s.slot b slot).key (s.following b slot)
    t.axes = s.axes ∧ t.player p = r.asking ∧
    (r.asks = false → r.asking.outstanding = false ∧ t.port = KeyPort.idle) ∧
    ∀ (m2 : MoveIx) (c : Cursor), r.move = some m2 → r.cursor = some c → r.asks = true →
      r.asking.outstanding = true ∧ t.port = .fetching p m2 c.index c.block c.slot := by
  intro t r
  have placed : t = fetchIfRoom p ((s.fetched p m index b slot check).setPlayer p r) :=
    completeAccess_placed check port wf false fetching sound
  have own : ((s.fetched p m index b slot check).setPlayer p r).player p = r := setPlayer_player_same _ _ _
  have free : ((s.fetched p m index b slot check).setPlayer p r).port = KeyPort.idle :=
    (setPlayer_port _ _ _).trans (fetched_port port check)
  rw [placed]
  refine ⟨?_, ?_, fun silent => ?_, fun m2 c move cursor asks => ?_⟩
  · rw [(fetchIfRoom_players p _).axes, setPlayer_axes, (fetched_aside s p m index b slot check).axes]
  · rw [fetchIfRoom_player_same, own]
  · rw [fetchIfRoom_silent (own.symm ▸ silent), free, asking_asks_false silent]
    exact ⟨place_outstanding _ _ _ _, rfl⟩
  · exact ⟨asking_true asks, fetchIfRoom_port free (own.symm ▸ move) (own.symm ▸ cursor) (own.symm ▸ asks)⟩

end

/-! ### Whether the next fetch begins (R107) -/

theorem asks_false_of_cursor {r : Player} (h : r.cursor = none) : r.asks = false := by simp [Player.asks, h]

theorem asks_false_of_full {r : Player} (start : r.startKey ≠ none) (stop : r.endKey ≠ none) (full : 8 ≤ r.fifo.length) :
    r.asks = false := by
  have noRoom : r.hasRoom = false := by
    simp only [Player.hasRoom, Config.fifoDepth, Bool.or_eq_false_iff, Option.isNone_eq_false_iff, Option.isSome_iff_ne_none]
    exact ⟨⟨start, stop⟩, decide_eq_false (by omega)⟩
  simp [Player.asks, noRoom]

theorem asks_of_next {r : Player} {m : MoveIx} {c : Cursor} {n : Nat} (move : r.move = some m) (cursor : r.cursor = some c)
    (count : r.keyCount = some n) (more : c.index < n) (fetching : r.fetches = true) (free : r.outstanding = false)
    (room : r.fifo.length < 8) : r.asks = true :=
  asks_iff.mpr ⟨m, c, move, cursor, fetching, free, by simp [Player.keysRemain, cursor, count, more],
    by simp [Player.hasRoom, Config.fifoDepth, room]⟩

/-! ### Within an output frame -/

theorem player_timer (s : State) (t : FrameTimer) (p : PlayerId) : ({ s with timer := t } : State).player p = s.player p := by
  cases p <;> rfl

theorem setPlayer_noticeSlot (s : State) (p : PlayerId) (r : Player) (c : NoticeClass) :
    (s.setPlayer p r).noticeSlot c = s.noticeSlot c := by cases p <;> rfl

/-- The next fetch, at a FREE port, leaves the library's tables and the notices as they are. -/
theorem fetchIfRoom_idle_kept {s : State} (h : s.port = KeyPort.idle) (p : PlayerId) :
    (fetchIfRoom p s).lib = s.lib ∧ (fetchIfRoom p s).noticeSlot .player = s.noticeSlot .player := by
  obtain ⟨o, q, same⟩ := fetchIfRoom_idle h p
  rw [same, setPlayer_lib, setPlayer_noticeSlot]
  exact ⟨rfl, rfl⟩

theorem entry_of_lib {s t : State} (h : t.lib = s.lib) (m : MoveIx) : t.entry m = s.entry m := by
  rw [State.entry, h, ← State.entry]

theorem block_of_lib {s t : State} (h : t.lib = s.lib) (b : Nat) : t.block b = s.block b := by
  rw [State.block, h, ← State.block]

/-- What stands between the completion of a DAMAGED fetch within a frame and the publication: the library has reported it, and
its player keeps the outcome (R85, R123). -/
structure Deferred (s : State) (p : PlayerId) (m : MoveIx) (index b : Nat) (u : State) : Prop where
  player : ∃ o : Bool, u.player p = { s.player p with outstanding := o, arrived := some index }
  others : ∀ q : PlayerId, q ≠ p → u.player q = s.player q
  flagged : (u.entry m).flags.damaged = true
  suspect : (u.block b).suspect = true
  axes : u.axes = s.axes
  stick : u.stick = s.stick
  notice : u.noticeSlot .player = s.noticeSlot .player

theorem deferred_outcome {s : State} {p : PlayerId} {m : MoveIx} {index b slot : Nat} (check : KeyCheck)
    (port : s.port = .fetching p m index b slot) (wf : s.lib.wf = true) (fetching : (s.player p).fetches = true)
    (damaged : s.readOutcome b slot check = .damaged) : Deferred s p m index b (completeAccess true check s) := by
  have aside := fetched_aside s p m index b slot check
  obtain ⟨_, _, _, noticed⟩ := finishRead_reads wf m index b slot (some p) check
  have reported := reportRead_damaged (setSlot_lib_wf b slot { s.slot b slot with health := .damaged } wf) m index b (some p)
  rw [completeAccess_deferred check port wf fetching damaged]
  generalize hw : (s.fetched p m index b slot check).setPlayer p { s.player p with arrived := some index } = w
  have free : w.port = KeyPort.idle := by rw [← hw, setPlayer_port, fetched_port port check]
  obtain ⟨lib, notice⟩ := fetchIfRoom_idle_kept free p
  have library := fetchIfRoom_players p w
  have finished : (fetchIfRoom p w).lib = (finishRead m index b slot (some p) check s).lib := by
    rw [lib, ← hw, setPlayer_lib]
    rfl
  rw [finishRead, damaged] at finished
  obtain ⟨flagged, suspect⟩ := reported
  exact {
    player := by
      obtain ⟨o, asked⟩ := asking_eq (w.player p)
      refine ⟨o, ?_⟩
      rw [fetchIfRoom_player_same, asked, ← hw, setPlayer_player_same]
    others := fun q other => by
      rw [fetchIfRoom_player_other other, ← hw, setPlayer_player_other _ p q _ other, aside.player]
    flagged := by rwa [entry_of_lib finished]
    suspect := by rwa [block_of_lib finished]
    axes := by rw [library.axes, ← hw, setPlayer_axes, aside.axes]
    stick := by rw [library.stick, ← hw, (setPlayer_players p _ _).stick, aside.stick]
    notice := by
      rw [notice, ← hw, setPlayer_noticeSlot]
      exact noticed }

theorem boundRate_with (s : State) (r : Player) (o : Bool) (a : Option Nat) :
    s.boundRate { r with outstanding := o, arrived := a } = s.boundRate r := rfl

section

variable {s : State} {p : PlayerId} {m : MoveIx} {index b : Nat} {check : KeyCheck}

/-- A player with an outcome to take answers its position request as it would without it. -/
theorem asked_deferred (order : PlayerOrder)
    (u : Deferred { s with timer := s.timer.expire } p m index b (completeAccess true check { s with timer := s.timer.expire })) :
    ∃ o : Bool, (s.asked { order := order, accesses := [check] }).1.player p =
      { (positionRequest p s).player p with outstanding := o, arrived := some index } := by
  obtain ⟨o, own⟩ := u.player
  rw [player_timer s s.timer.expire p] at own
  have stick : (completeAccess true check { s with timer := s.timer.expire }).stick = s.stick := u.stick
  have asked := asked_player (s := s) (order := order) (check := check) p
  simp only [frameAccesses, List.foldl_cons, List.foldl_nil, own, boundRate_congr stick, boundRate_with] at asked
  obtain ⟨o', answered⟩ := requested_with (s.player p) o (some index) (s.boundRate (s.player p))
  exact ⟨o', by rw [asked, answered, positionRequest_player_same]⟩

theorem asked_deferred_other (order : PlayerOrder) {q : PlayerId} (other : q ≠ p) (waits : (s.player q).arrived = none)
    (u : Deferred { s with timer := s.timer.expire } p m index b (completeAccess true check { s with timer := s.timer.expire })) :
    ((s.asked { order := order, accesses := [check] }).1.player q).arrived = none := by
  have own := u.others q other
  rw [player_timer s s.timer.expire q] at own
  have asked := asked_player (s := s) (order := order) (check := check) q
  simp only [frameAccesses, List.foldl_cons, List.foldl_nil, own] at asked
  rw [asked]
  exact requested_arrived waits _

end

/-- The stages of a frame give no player an outcome to take. -/
theorem frame_arrived {s : State} {turns : PlayerTurns} {q : PlayerId} (h : ((s.asked turns).1.player q).arrived = none) :
    ((blendAndLimit (s.asked turns).1).player q).arrived = none := by
  by_cases cleared : (s.player q).state = .releasing ∧ s.refCount q ≠ 0 ∧ (blendAndLimit (s.asked turns).1).refCount q = 0
  · obtain ⟨releasing, named, unnamed⟩ := cleared
    rw [frame_cleared releasing named unnamed]
    rfl
  · rw [frame_player_kept cleared, h]

/-- A frame in which one player, that fetches, has a DAMAGED outcome to take: it is FAULTED after the publication (R123). -/
theorem frame_faults {s : State} {turns : PlayerTurns} {p : PlayerId} {n : Nat} (rest : s.CueRests) (silent : (s.asked turns).2 = [])
    (fetching : ((s.asked turns).1.player p).fetches = true) (arrived : ((s.asked turns).1.player p).arrived = some n)
    (others : ∀ q : PlayerId, q ≠ p → ((s.asked turns).1.player q).arrived = none) (still : (s.player p).state ≠ .releasing)
    (order : List Sink) :
    let r := (s.asked turns).1.player p
    let f := outputFrame order turns s
    ∃ x : Player, f.player p = ({ x with arrived := none } : Player).damagedAt n ∧ x.time = r.time ∧ x.published = r.published ∧
      (f.noticeSlot .player).detail = some {
        frame := s.timer.expire.number, detail := .player p .faulted r.source? (r.time / 256) (some n) } := by
  intro r f
  obtain ⟨timer, _, _, _, _, _, _, cue⟩ := publication_tables s turns
  have rest' : (s.publication turns).CueRests := by rwa [State.CueRests, cue]
  have published : (s.publication turns).player p = r := by
    rw [publication_player, frame_player_kept fun ⟨releasing, _⟩ => still releasing]
  have framed : f = _ := outputFrame_eq order turns s
  rw [silent, List.foldl_nil] at framed
  have tables : SameTables _ _ :=
    (Publishes.foldl (publishTo_publishes (s.publication turns)) (sinkOrder order) (s.publication turns)).tables
  have becomes := publishes_becomes (s.publication turns) (sinkOrder order) rest'
  generalize (sinkOrder order).foldl (publishTo (s.publication turns)) (s.publication turns) = g at framed tables becomes
  obtain ⟨fetches, kept, time, positions, source⟩ := (published ▸ becomes p).fetching fetching
  have takes := takeFaults_fault (s := g) (kept.trans arrived) fetches (fun q other => (becomes q).arrived (by
    rw [publication_player]
    exact frame_arrived (others q other))) turns.faults
  rw [framed, takes]
  refine ⟨g.player p, ?_, time, positions, ?_⟩
  · rw [playerFault_player, setPlayer_player_same]
  · rw [playerFault_notice, setPlayer_player_same, setPlayer_timer, tables.timer, timer, ← time, ← source]
    rfl

/-- The frame of R123, in the terms of the state before it. -/
theorem damaged_frame {s : State} {p : PlayerId} {m : MoveIx} {index b : Nat} {check : KeyCheck} (asked : PlayerOrder)
    (u : Deferred { s with timer := s.timer.expire } p m index b (completeAccess true check { s with timer := s.timer.expire }))
    (fetching : (s.player p).fetches = true) (remain : (s.player p).state = .running → (s.player p).keysRemain = true)
    (waits : ∀ q : PlayerId, (s.player q).arrived = none) (rest : s.CueRests) (order : List Sink) :
    let f := outputFrame order { order := asked, accesses := [check] } s
    (f.player p).state = .faulted ∧ (f.player p).faultKey = some index ∧ (f.player p).fifo = [] ∧
    (f.player p).outstanding = false ∧ (f.player p).arrived = none ∧
    (f.player p).time = ((positionRequest p s).player p).time ∧
    (f.player p).published = ((positionRequest p s).player p).published ∧
    (f.noticeSlot .player).detail = some {
      frame := (s.timer.number + 1) % 4294967296,
      detail := .player p .faulted (s.player p).source? ((f.player p).time / 256) (some index) } := by
  intro f
  have answer := positionRequest_player_same p s
  have goesOn := requested_fetches fetching remain (s.boundRate (s.player p))
  have held := requested_source (s.player p) (s.boundRate (s.player p))
  rw [← answer] at goesOn held
  obtain ⟨o, request⟩ := asked_deferred asked u
  have still : (s.player p).state ≠ .releasing := fun e => by simp [Player.fetches, e] at fetching
  obtain ⟨x, faulted, time, positions, notice⟩ := frame_faults (turns := { order := asked, accesses := [check] }) rest rfl
    (by rw [request]; exact goesOn) (by rw [request]) (fun q other => asked_deferred_other asked other (waits q) u) still order
  rw [request] at time positions notice
  have risen : (f.player p).time = ((positionRequest p s).player p).time := by rw [faulted]; exact time
  refine ⟨?_, ?_, ?_, ?_, ?_, risen, ?_, ?_⟩
  iterate 5 rw [faulted]; rfl
  · rw [faulted]
    exact positions
  · rw [risen, notice, ← held]
    rfl

/-- Settles O47: outside a frame by the case of `completeAccess`, within one by what the frame makes of the deferred outcome. -/
theorem fetchedKeyIsPlaced : Obligations.FetchedKeyIsPlaced := by
  intro s p m index b slot check on wf port r found k fetching
  have fetches : fetching → r.fetches = true := fetches_iff.mpr
  refine ⟨completeAccess false check s, event_on on, fun quiet => ?_, fun active damaged => ?_, fun active sound => ?_,
    fun active damaged => ?_⟩
  · exact discarded_outcome check port wf (by
      rcases quiet with e | e | e <;> simp [Player.fetches, show (s.player p).state = _ from e])
  · exact faulted_outcome check port wf (fetches active) damaged
  · obtain ⟨axes, own, silent, asks⟩ := placed_outcome check port wf (fetches active) sound
    have goesOn := place_fetches (fetches active) index (s.slot b slot).key (s.following b slot)
    have free := place_outstanding (s.player p) index (s.slot b slot).key (s.following b slot)
    obtain ⟨time, rate, move, mask, count, fault⟩ := place_kept (s.player p) index (s.slot b slot).key (s.following b slot)
    obtain ⟨o, asking⟩ := asking_eq ((s.player p).place index (s.slot b slot).key (s.following b slot))
    rw [own]
    refine ⟨axes, ?_, ?_, ?_, ?_, ?_, ?_, fun start => ?_, fun started => ?_, fun started stop => ?_, fun started stopped => ?_,
      fun n keys last => ?_, fun n b2 slot2 keys more next => ?_⟩
    · rw [asking]; exact time
    · rw [asking]; exact rate
    · rw [asking]; exact move
    · rw [asking]; exact mask
    · rw [asking]; exact count
    · rw [asking]; exact fault
    · rw [asking]; exact place_start start _ _ _
    · rw [asking]; exact place_started started _ _ _
    · rw [asking]; exact place_end started stop _ _ _
    · rw [asking]; exact place_tail started stopped _ _ _
    · have atEnd := place_cursor_last keys last (s.slot b slot).key (s.following b slot)
      have noFetch := asks_false_of_cursor atEnd
      exact ⟨by rw [asking]; exact atEnd, silent noFetch⟩
    · have cursor := place_cursor_next (b := b2) (slot := slot2) keys more (s.slot b slot).key
      rw [← following_eq next] at cursor
      refine ⟨by rw [asking]; exact cursor, fun m2 source room => ?_, fun started stopped full => ?_⟩
      · rw [asking] at room
        have begins := asks_of_next (move.trans source) cursor (count.trans keys) more goesOn free room
        exact asks m2 _ (move.trans source) cursor begins
      · obtain ⟨stop, fifo, _⟩ := place_tail started stopped index (s.slot b slot).key (s.following b slot)
        obtain ⟨start, _⟩ := place_started started index (s.slot b slot).key (s.following b slot)
        have full' := Nat.add_le_add_right full 1
        exact silent (asks_false_of_full (start ▸ started) (stop ▸ stopped) (by rw [fifo, List.length_append]; exact full'))
  · have own := player_timer s s.timer.expire p
    have u := deferred_outcome (s := { s with timer := s.timer.expire }) check port wf (by rw [own]; exact fetches active) damaged
    obtain ⟨o, player⟩ := u.player
    refine ⟨?_, u.flagged, u.suspect, u.axes, u.notice, fun remain waits running waiting order asked => ?_⟩
    · show (completeAccess true check _).player p =
        { r with outstanding := ((completeAccess true check _).player p).outstanding, arrived := some index }
      rw [player, own]
    · exact ⟨_, exec_outputFrame on order _, damaged_frame asked u (fetches active) remain waits ⟨running, waiting⟩ order⟩

end Sys2Proof.Machine
end

section
/-! How the motion of the crane abates after the Limit Stage of a frame: no position changes, an axis at most leaves ACTIVE for
STOPPING or enters FAULT (R70, R183), the zones stay, and only an axis that enters FAULT raises an AXIS notice (R66, R183). -/

set_option Elab.async false

namespace Sys2Proof.Machine

/-! ### The relation -/

/-- The position is kept, and the state too, but that ACTIVE may become STOPPING, and ACTIVE, STOPPING and HELD may become FAULT. -/
structure Axis.Abates (a b : Axis) : Prop where
  out : b.out = a.out
  state : b.state = a.state ∨ (a.state = .active ∧ b.state = .stopping) ∨ (a.enabled = true ∧ b.state = .fault)

theorem Axis.Abates.refl (a : Axis) : a.Abates a := ⟨rfl, .inl rfl⟩

theorem Axis.Abates.enabled {a b : Axis} (h : a.Abates b) (k : b.enabled = true) : a.enabled = true := by
  rcases h.state with same | ⟨active, _⟩ | ⟨on, _⟩
  · rwa [enabled_of_state same] at k
  · exact enabled_iff.mpr (.inl active)
  · exact on

theorem Axis.Abates.trans {a b c : Axis} (h : a.Abates b) (k : b.Abates c) : a.Abates c := by
  refine ⟨k.out.trans h.out, ?_⟩
  rcases k.state with same | ⟨active, stopping⟩ | ⟨on, fault⟩
  · rw [same]
    exact h.state
  · rcases h.state with same | ⟨_, other⟩ | ⟨_, other⟩
    · exact .inr (.inl ⟨same ▸ active, stopping⟩)
    · cases active.symm.trans other
    · cases active.symm.trans other
  · exact .inr (.inr ⟨h.enabled on, fault⟩)

/-- FAULT stays FAULT. -/
theorem Axis.Abates.fault {a b : Axis} (h : a.Abates b) (k : a.state = .fault) : b.state = .fault := by
  rcases h.state with same | ⟨active, _⟩ | ⟨_, fault⟩
  · exact same.trans k
  · cases k.symm.trans active
  · exact fault

/-- An axis that is not ACTIVE keeps its state or is in FAULT. -/
theorem Axis.Abates.settled {a b : Axis} (h : a.Abates b) (k : a.state ≠ .active) (sound : b.state ≠ .fault) : b.state = a.state := by
  rcases h.state with same | ⟨active, _⟩ | ⟨_, fault⟩
  · exact same
  · exact absurd active k
  · exact absurd fault sound

theorem Axis.Abates.blend (a : Axis) (b : Blend) : a.Abates { a with blend := b } := ⟨rfl, .inl rfl⟩

theorem Axis.Abates.cascaded (a : Axis) : a.Abates a.cascaded := by
  unfold Axis.cascaded
  split
  · refine ⟨rfl, ?_⟩
    by_cases active : a.state = .active <;> simp [active]
  · exact .refl a

/-- Every axis abates and the zones stay. -/
structure State.Abates (s t : State) : Prop where
  axes : ∀ i : Fin 8, (s.axis i).Abates (t.axis i)
  zones : t.zones = s.zones

/-- Every axis abates, the zones stay, and with no axis newly in FAULT no AXIS notice is raised. -/
structure State.Subsides (s t : State) : Prop extends s.Abates t where
  told : (∀ i : Fin 8, (t.axis i).state = .fault → (s.axis i).state = .fault) →
    (t.noticeSlot .axis).detail = (s.noticeSlot .axis).detail

theorem State.Abates.trans {s t u : State} (h : s.Abates t) (k : t.Abates u) : s.Abates u :=
  ⟨fun i => (h.axes i).trans (k.axes i), k.zones.trans h.zones⟩

/-- A change that keeps the axes, the zones and the latest AXIS notice. -/
theorem State.Subsides.untouched {s t : State} (axes : t.axes = s.axes := by rfl) (zones : t.zones = s.zones := by rfl)
    (told : (t.noticeSlot .axis).detail = (s.noticeSlot .axis).detail := by rfl) : s.Subsides t :=
  ⟨⟨fun i => axis_of_axes axes i ▸ .refl _, zones⟩, fun _ => told⟩

theorem State.Subsides.refl (s : State) : s.Subsides s := .untouched

theorem State.Subsides.trans {s t u : State} (h : s.Subsides t) (k : t.Subsides u) : s.Subsides u where
  toAbates := h.toAbates.trans k.toAbates
  told := fun old => (k.told fun i fault => (h.axes i).fault (old i fault)).trans
    (h.told fun i fault => old i ((k.axes i).fault fault))

theorem State.Subsides.ite {s t u : State} {c : Prop} [Decidable c] (h : s.Subsides t) (k : s.Subsides u) :
    s.Subsides (if c then t else u) := by
  split
  · exact h
  · exact k

theorem State.Subsides.foldl {α : Type} {g : State → α → State} (h : ∀ (s : State) (x : α), s.Subsides (g s x)) (l : List α) :
    ∀ s : State, s.Subsides (l.foldl g s) := by
  induction l with
  | nil => exact .refl
  | cons x t ih => exact fun s => (h s x).trans (ih _)

theorem mapAxes_subsides {g : Fin 8 → Axis → Axis} {s : State} (h : ∀ i : Fin 8, (s.axis i).Abates (g i (s.axis i))) :
    s.Subsides (s.mapAxes g) :=
  ⟨⟨fun i => by rw [mapAxes_axis]; exact h i, rfl⟩, fun _ => rfl⟩

theorem setAxis_abates {i : Fin 8} {a : Axis} {s : State} (h : (s.axis i).Abates a) : s.Abates (s.setAxis i a) where
  axes := fun j => by
    by_cases same : j = i
    · rw [same, setAxis_axis_same]
      exact h
    · rw [setAxis_axis_other _ _ _ _ same]
      exact .refl _
  zones := rfl

theorem setAxis_subsides {i : Fin 8} {a : Axis} {s : State} (h : (s.axis i).Abates a) : s.Subsides (s.setAxis i a) :=
  ⟨setAxis_abates h, fun _ => rfl⟩

/-! ### Notices, the readiness order and the transmitter -/

theorem raise_subsides {d : Detail} (h : NoticeClass.axis ≠ d.cls := by nofun) (s : State) : s.Subsides (raise d s) :=
  .untouched (told := congrArg NoticeSlot.detail (raise_noticeSlot_other h s))

theorem faultReport_subsides (r : FaultRecord) (s : State) : s.Subsides (faultReport r s) :=
  .untouched (axes := (faultReport_traffic r s).axes) (zones := (faultReport_traffic r s).zones)
    (told := congrArg NoticeSlot.detail (faultReport_noticeSlot (by decide) r s))

theorem readyReply_subsides (v : Via) (l : List Byte) (s : State) : s.Subsides (readyReply v l s) := by
  cases v <;> exact .untouched

/-- An offer keeps the detail of every class (R188). -/
theorem offered_detail (s : State) (c k : NoticeClass) :
    ((s.setNoticeSlot c (s.noticeSlot c).offered).noticeSlot k).detail = (s.noticeSlot k).detail := by
  by_cases same : k = c
  · rw [same, setNoticeSlot_same]
    rfl
  · have differ : c.index.val ≠ k.index.val := fun e => same (NoticeClass.index_injective (Fin.ext e.symm))
    simp [State.noticeSlot, State.setNoticeSlot, Vector.getElem_set_ne, differ]

theorem pump_detail (s : State) (k : NoticeClass) : ((pump s).noticeSlot k).detail = (s.noticeSlot k).detail := by
  unfold pump chooseFrame
  split
  · rfl
  · split
    · rfl
    · split
      · exact offered_detail s _ k
      · split <;> rfl

theorem pump_subsides (s : State) : s.Subsides (pump s) :=
  .untouched (axes := (pump_traffic s).axes) (zones := (pump_traffic s).zones) (told := pump_detail s .axis)

theorem dividerCount_subsides (f s : State) : s.Subsides (dividerCount f s) := by
  have due : ∀ u : State, u.Subsides (statusDue f u) := fun u => .ite .untouched (.refl u)
  exact .ite .untouched (.trans .untouched (due _))

/-! ### The Move Library -/

theorem releaseBlocks_subsides (m : MoveIx) (bs : List Nat) (s : State) : s.Subsides (releaseBlocks m bs s) :=
  have released : s.Subsides (bs.foldl releaseBlock s) := .foldl (fun _ _ => .ite .untouched .untouched) bs s
  .ite released (released.trans (raise_subsides (s := _)))

theorem endTxn_subsides (c : Result) (s : State) : s.Subsides (endTxn c s) := by
  unfold endTxn
  split
  · exact .refl s
  · exact .trans .untouched (readyReply_subsides _ _ _)

theorem releaseServing_subsides (m : MoveIx) (s : State) : s.Subsides (releaseServing m s) := by
  unfold releaseServing
  split
  · exact .ite .untouched (.refl s)
  · exact .refl s

theorem abandonTxn_subsides (m : MoveIx) (s : State) : s.Subsides (abandonTxn m s) := by
  unfold abandonTxn
  split
  · exact .ite (.trans .untouched (endTxn_subsides _ _)) (.refl s)
  · exact .refl s

theorem emptyEntry_subsides (m : MoveIx) (s : State) : s.Subsides (emptyEntry m s) := by
  have emptied : ∀ u : State, u.Subsides (u.setEntry m Entry.blank) := fun _ => .untouched
  exact (releaseBlocks_subsides m _ s).trans ((emptied _).trans ((releaseServing_subsides m _).trans (abandonTxn_subsides m _)))

theorem closeTake_subsides (c : CloseCause) (s : State) : s.Subsides (closeTake c s) := by
  have closed : ∀ (m : MoveIx) (b : Bool), s.Subsides (closeEntry m b s) := fun m b => .ite .untouched (emptyEntry_subsides m s)
  unfold closeTake
  split
  · exact .refl s
  · exact (closed _ _).trans (.trans .untouched (raise_subsides (s := _)))

theorem allocate_subsides {m : MoveIx} {s t : State} (h : allocate? m s = some t) : s.Subsides t := by
  unfold allocate? appendBlock at h
  split at h
  · split at h
    · cases h
    · cases h
      simp only
      split <;> exact .untouched
  · cases h
    exact .refl s

theorem grant_subsides (a : Access) (s : State) : s.Subsides (grant a s) := by
  have served : ∀ u : State, u.Subsides (serve a u) := fun _ => .untouched
  cases a with
  | fetch | consoleRead => exact served s
  | recorderWrite m k =>
    rw [grant]
    split
    · next granted => exact (allocate_subsides granted).trans (served _)
    · exact closeTake_subsides _ s
  | consoleWrite m k =>
    rw [grant]
    split
    · next granted => exact (allocate_subsides granted).trans (served _)
    · exact endTxn_subsides _ s

theorem arbitrate_subsides (n : Nat) : ∀ s : State, s.Subsides (arbitrate n s) := by
  induction n with
  | zero => exact .refl
  | succ n ih =>
    intro s
    unfold arbitrate
    split
    · exact .refl s
    · split
      · exact .refl s
      · exact .trans .untouched ((grant_subsides _ _).trans (ih _))

theorem requestPort_subsides (a : Access) (s : State) : s.Subsides (requestPort a s) := by
  unfold requestPort
  split
  · exact .trans .untouched (arbitrate_subsides 5 _)
  · exact .untouched

/-! ### The Recorder -/

theorem recorderWrite_subsides (s : State) : s.Subsides (recorderWrite s) := by
  unfold recorderWrite
  split
  · exact .ite (.trans .untouched (requestPort_subsides _ _)) (.refl s)
  · exact .refl s

theorem recorderNext_subsides (s : State) : s.Subsides (recorderNext s) :=
  .ite (closeTake_subsides _ s) (recorderWrite_subsides s)

theorem dueKey_subsides (n : Nat) (s : State) : s.Subsides (dueKey n s) := by
  unfold dueKey
  simp only
  split
  · exact .ite .untouched .untouched
  · exact .refl s

theorem endTake_subsides (c : CloseCause) (s : State) : s.Subsides (endTake c s) := by
  have finalKey : s.Subsides (if s.recorder.lastQueued = some (s.recorder.frames.getD 0) then s
      else dueKey (s.recorder.frames.getD 0) s) := .ite (.refl s) (dueKey_subsides _ s)
  exact finalKey.trans (.trans .untouched (recorderNext_subsides _))

theorem recorderTimeLimit_subsides (s : State) : s.Subsides (recorderTimeLimit s) := .ite (endTake_subsides _ s) (.refl s)

theorem recorderPublication_subsides (s : State) : s.Subsides (recorderPublication s) := by
  have captured : ∀ u : State, u.Subsides (recorderCapture u) := fun u =>
    .ite (.ite (.trans .untouched ((dueKey_subsides _ _).trans (recorderWrite_subsides _))) .untouched) (.refl u)
  exact .trans .untouched ((captured (recorderTakes s)).trans (recorderTimeLimit_subsides _))

theorem recorderGo_subsides (s : State) : s.Subsides (recorderGo s) := by
  unfold recorderGo
  simp only
  split
  · split
    · exact .trans .untouched (raise_subsides (s := _))
    · exact .untouched
  · exact .refl s

theorem abortTake_subsides (s : State) : s.Subsides (abortTake s) := by
  unfold abortTake
  split
  · exact (emptyEntry_subsides _ s).trans .untouched
  · exact .untouched

theorem recordStartRequest_subsides (id : Nat) (name : List Nat) (mask d sh tr : Nat) (s : State) :
    s.Subsides (recordStartRequest id name mask d sh tr s).1 := by
  unfold recordStartRequest
  split
  · split
    · exact .refl s
    · split
      · exact .refl s
      · split
        · exact .refl s
        · exact .untouched
  · exact .refl s

theorem recordStopRequest_subsides (s : State) : s.Subsides (recordStopRequest s).1 := by
  unfold recordStopRequest
  split
  · exact .refl s
  · exact abortTake_subsides s
  · split
    · exact abortTake_subsides s
    · exact endTake_subsides _ s
  · exact .refl s

theorem endRecRequest_subsides (s : State) : s.Subsides (endRecRequest s).1 := by
  have hears : s.Subsides (recorderHears s) := .ite .untouched (.refl s)
  exact hears.trans (recordStopRequest_subsides _)

/-! ### The players -/

theorem setPlayer_subsides (p : PlayerId) (r : Player) (s : State) : s.Subsides (s.setPlayer p r) := by
  cases p <;> exact .untouched

theorem playerNotice_subsides (p : PlayerId) (s : State) : s.Subsides (playerNotice p s) := raise_subsides (s := s)

theorem fetchIfRoom_subsides (p : PlayerId) (s : State) : s.Subsides (fetchIfRoom p s) := by
  unfold fetchIfRoom
  simp only
  split
  · exact .ite ((setPlayer_subsides p _ s).trans (requestPort_subsides _ _)) (.refl s)
  · exact .refl s

theorem becomeIdle_subsides (p : PlayerId) (s : State) : s.Subsides (becomeIdle p s) := by
  have cleared : ∀ (u : State) (r : Player),
      u.Subsides ({ u with port := (u.port.withdraw p).disown p }.setPlayer p r) := fun u r =>
    .trans (t := { u with port := (u.port.withdraw p).disown p }) .untouched (setPlayer_subsides p r _)
  unfold becomeIdle
  simp only
  split
  · next m _ =>
    have returned : s.Subsides (s.setEntry m { s.entry m with users := (s.entry m).users - 1 }) := .untouched
    exact returned.trans (cleared _ _)
  · exact cleared s _

theorem clearIfGone_subsides (p : PlayerId) (n : Nat) (s : State) : s.Subsides (clearIfGone p n s) :=
  .ite (.ite (becomeIdle_subsides p s) (.refl s)) (.refl s)

theorem withClears_subsides (s u : State) : u.Subsides (withClears s u) :=
  (clearIfGone_subsides .a _ u).trans (clearIfGone_subsides .b _ _)

theorem runEffect_subsides (p : PlayerId) (s : State) : s.Subsides (runEffect p s) :=
  .ite ((setPlayer_subsides p _ s).trans (fetchIfRoom_subsides p _)) (fetchIfRoom_subsides p s)

theorem pausePlayers_subsides (s : State) : s.Subsides (pausePlayers s) := by
  have paused : ∀ (p : PlayerId) (u : State), u.Subsides (pauseEffect p u) := fun p u => .ite (setPlayer_subsides p _ u) (.refl u)
  exact (paused .a s).trans (paused .b _)

theorem loadRequest_subsides (c id r : Nat) (s : State) : s.Subsides (loadRequest c id r s).1 := by
  unfold loadRequest
  split
  · split
    · exact .refl s
    · split
      · exact .refl s
      · split
        · exact .refl s
        · exact .trans (t := s.setEntry _ _) .untouched ((setPlayer_subsides _ _ _).trans (fetchIfRoom_subsides _ _))
  · exact .refl s

theorem runRequest_subsides (c : Nat) (s : State) : s.Subsides (runRequest c s).1 := by
  unfold runRequest
  split
  · exact .refl s
  · split
    case h_5 | h_6 | h_7 | h_8 => exact .refl s
    all_goals exact runEffect_subsides _ s

theorem goToRequest_subsides (c k n : Nat) (s : State) : s.Subsides (goToRequest c k n s).1 := by
  unfold goToRequest
  split
  · split
    · exact .refl s
    · split
      · exact .refl s
      · split
        · exact .refl s
        · exact setPlayer_subsides _ _ s
  · exact .refl s

/-! ### The Blend Engine -/

/-- A change of blend records with its reference-clear arrivals. -/
theorem blends_subside {g : Fin 8 → Axis → Axis} {s : State} (h : ∀ i : Fin 8, (s.axis i).Abates (g i (s.axis i))) :
    s.Subsides (withClears s (s.mapAxes g)) := (mapAxes_subsides h).trans (withClears_subsides s _)

theorem Axis.Abates.ite {a b d : Axis} {c : Prop} [Decidable c] (h : a.Abates b) (k : a.Abates d) :
    a.Abates (if c then b else d) := by
  split
  · exact h
  · exact k

theorem handBackWhere_subsides (p : Blend → Bool) (s : State) : s.Subsides (handBackWhere p s) :=
  blends_subside fun _ => .ite (.blend _ _) (.refl _)

theorem takeOver_subsides (s : State) : s.Subsides (takeOver s) := handBackWhere_subsides _ s

theorem dropRequest_subsides (p : PlayerId) (s : State) : s.Subsides (dropRequest p s) :=
  blends_subside fun _ => .ite (.blend _ _) (.refl _)

theorem fadeRequest_subsides (m t l : Nat) (s : State) : s.Subsides (fadeRequest m t l s).1 := by
  unfold fadeRequest
  split
  · split
    · exact .refl s
    · split
      · exact .refl s
      · exact blends_subside fun _ => .ite (.blend _ _) (.refl _)
  · exact .refl s

theorem stopRequest_subsides (c : Nat) (s : State) : s.Subsides (stopRequest c s).1 := by
  have released : ∀ p : PlayerId, s.Subsides (enterReleasing p s) := fun p =>
    .trans (t := { s with port := s.port.withdraw p }) .untouched (setPlayer_subsides p _ _)
  have idle : ∀ (p : PlayerId) (u : State), u.Subsides (idleIfUnreferenced p u) := fun p u =>
    .ite (becomeIdle_subsides p u) (.refl u)
  unfold stopRequest
  split
  · exact .refl s
  · split
    case h_1 | h_2 => exact .refl s
    case h_3 => exact (dropRequest_subsides _ s).trans (becomeIdle_subsides _ _)
    all_goals exact (released _).trans ((handBackWhere_subsides _ _).trans (idle _ _))

/-! ### The cue and the trigger table -/

theorem cueRefused_subsides (c : Result) (ax : Option (Fin 8)) (s : State) : s.Subsides (cueRefused c ax s) :=
  .trans (t := s.setCue _) .untouched (raise_subsides (s := _))

theorem cueDone_subsides (s : State) : s.Subsides (cueDone s) := .trans (t := s.setCue _) .untouched (raise_subsides (s := _))

theorem cueAdvance_subsides (s : State) : s.Subsides (cueAdvance s) := by
  unfold cueAdvance
  split
  · exact .untouched
  · exact cueDone_subsides s

theorem cueResult_subsides {s : State} {r : State × Result × Option (Fin 8)} (h : s.Subsides r.1) : s.Subsides (cueResult r) :=
  .ite (h.trans (cueAdvance_subsides _)) (h.trans (cueRefused_subsides _ _ _))

theorem testEnd_subsides (p : PlayerId) (s : State) : s.Subsides (testEnd p s) := .ite (cueAdvance_subsides s) .untouched

theorem testAt_subsides (k : Fin 64) (w : Nat) (s : State) : s.Subsides (testAt k w s) := by
  unfold testAt
  split
  · exact cueRefused_subsides _ _ s
  · exact .ite (cueAdvance_subsides s) .untouched

theorem cueLoop_subsides (t : Fin 48) (n : Nat) (s : State) : s.Subsides (cueLoop t n s) :=
  .ite .untouched (.trans (t := s.setCue _) .untouched (cueAdvance_subsides _))

theorem cueExecute_subsides (s : State) : s.Subsides (cueExecute s) := by
  unfold cueExecute
  split
  · exact cueResult_subsides (loadRequest_subsides _ _ _ s)
  · exact cueResult_subsides (goToRequest_subsides _ _ _ s)
  · exact cueResult_subsides (runRequest_subsides _ s)
  · exact cueResult_subsides (fadeRequest_subsides _ _ _ s)
  · exact cueResult_subsides (stopRequest_subsides _ s)
  · exact cueResult_subsides (recordStartRequest_subsides _ _ _ _ _ _ s)
  · exact cueResult_subsides (endRecRequest_subsides s)
  · exact .untouched
  · exact .untouched
  · exact testEnd_subsides _ s
  · exact testAt_subsides _ _ s
  · exact cueLoop_subsides _ _ s
  · exact .trans (raise_subsides (s := s)) (cueAdvance_subsides _)
  · exact cueDone_subsides s

theorem cueRun_subsides (n : Nat) : ∀ s : State, s.Subsides (cueRun n s) := by
  induction n with
  | zero => exact .refl
  | succ n ih => exact fun s => .ite ((cueExecute_subsides s).trans (ih _)) (.refl s)

theorem waitFramesExpired_subsides (s : State) : s.Subsides (waitFramesExpired s) := by
  unfold waitFramesExpired
  split
  · exact .ite ((cueAdvance_subsides s).trans (cueRun_subsides _ _)) (.refl s)
  · exact .refl s

theorem cuePublication_subsides (s : State) : s.Subsides (cuePublication s) := by
  unfold cuePublication
  split
  · unfold cueWaiting
    split
    · exact .trans (t := s.setCue _) .untouched (waitFramesExpired_subsides _)
    · exact (testEnd_subsides _ s).trans (cueRun_subsides _ _)
    · exact (testAt_subsides _ _ s).trans (cueRun_subsides _ _)
    · exact .refl s
  · exact .trans (t := s.setCue _) .untouched (.ite (cueDone_subsides _) (cueRun_subsides _ _))
  all_goals exact .refl s

theorem cueGo_subsides (code : Nat) (s : State) : s.Subsides (cueGo code s) := by
  have met : s.Subsides (cueMet s) := by
    unfold cueMet
    split <;> exact .untouched
  refine .ite ?_ (.refl s)
  split
  · exact .ite met (.refl s)
  · exact .refl s

theorem triggerAct_subsides (a : TriggerAction) (code : Nat) (e : Fin 8) (s : State) : s.Subsides (triggerAct a code e s) := by
  have resumed : ∀ (p : PlayerId) (u : State), u.Subsides (resumePlayer p u) := fun p u => .ite (runEffect_subsides p u) (.refl u)
  cases a <;> unfold triggerAct
  case none => exact .refl s
  case cueGo => exact (cueGo_subsides code s).trans (recorderGo_subsides _)
  case pauseAll => exact pausePlayers_subsides s
  case resumePlay => exact .ite (.refl s) ((resumed .a s).trans (resumed .b _))
  case takeOver => exact takeOver_subsides s
  case report => exact raise_subsides (s := s)

theorem handOn_subsides (r : State × List Nat) : r.1.Subsides (handOn r) := by
  refine .foldl (fun u code => ?_) _ _
  unfold buttonCode
  split
  · exact triggerAct_subsides _ _ _ u
  · exact .refl u

/-! ### Axis Control and the Drive Line -/

theorem cascade_subsides (s : State) : s.Subsides (cascade s) := by
  have stopped : ∀ u : State, u.Subsides (cueStopped u) := fun u => .ite .untouched (.refl u)
  exact (blends_subside fun _ => .cascaded _).trans ((pausePlayers_subsides _).trans (stopped _))

theorem raise_abates (d : Detail) (s : State) : s.Abates (raise d s) := ⟨fun _ => .refl _, rfl⟩

theorem allHeldIf_abates (b : Bool) (s : State) : s.Abates (allHeldIf b s) := by
  unfold allHeldIf
  split
  · exact raise_abates _ s
  · exact (State.Subsides.refl s).toAbates

theorem faulted_abates {a : Axis} (h : a.enabled = true) (c : FaultCause) : a.Abates { a.left .fault with cause := some c } :=
  ⟨rfl, .inr (.inr ⟨h, rfl⟩)⟩

/-- An axis that enters FAULT abates, and so do the others in the cascade that follows (R183). -/
theorem enterFault_abates {i : Fin 8} {s : State} (h : (s.axis i).enabled = true) (c : FaultCause) (x : Int) (code : Option Nat) :
    s.Abates (enterFault i c x code s) ∧ ((enterFault i c x code s).axis i).state = .fault := by
  have faulted : s.Abates (s.setAxis i { (s.axis i).left .fault with cause := some c }) := setAxis_abates (faulted_abates h c)
  have after : (s.setAxis i { (s.axis i).left .fault with cause := some c }).Abates (enterFault i c x code s) := by
    unfold enterFault
    exact (withClears_subsides s _).toAbates.trans ((allHeldIf_abates _ _).trans ((faultReport_subsides _ _).toAbates.trans
      ((raise_abates _ _).trans (cascade_subsides _).toAbates)))
  exact ⟨faulted.trans after, (after.axes i).fault (by rw [setAxis_axis_same]; rfl)⟩

theorem enterFault_subsides {i : Fin 8} {s : State} (h : (s.axis i).enabled = true) (c : FaultCause) (x : Int)
    (code : Option Nat) : s.Subsides (enterFault i c x code s) := by
  obtain ⟨abates, fault⟩ := enterFault_abates h c x code
  refine ⟨abates, fun old => ?_⟩
  simp [Axis.enabled, old i fault] at h

theorem driveSilent_subsides (i : Fin 8) (s : State) : s.Subsides (driveSilent i s) := by
  unfold driveSilent
  split
  · next silent => exact enterFault_subsides (enabled_of_silent silent) _ _ _
  · exact .refl s

theorem drivePublication_subsides (f s : State) : s.Subsides (drivePublication f s) := by
  have closed : ∀ (i : Fin 8) (u : State), u.Subsides (closeWindow i u) := fun i u => by
    unfold closeWindow
    split
    · exact .ite (.refl u) ((setAxis_subsides (a := (u.axis i).missed) ⟨rfl, .inl rfl⟩).trans (driveSilent_subsides i _))
    · exact .refl u
  have sent : ∀ (u : State) (i : Fin 8), u.Subsides (driveAxis f u i) := fun u i =>
    .ite ((closed i u).trans (.trans (setAxis_subsides (i := i) (a := ((closeWindow i u).axis i).sent (f.axis i).out)
      ⟨rfl, .inl rfl⟩) .untouched)) (.refl u)
  exact .trans (t := { s with exchanges := [] }) .untouched (.foldl sent _ _)

/-! ### The frame from its publication on -/

theorem publish_subsides (order : List Sink) (s : State) : s.Subsides (publish order s) := by
  have taken : ∀ (u : State) (x : Sink), u.Subsides (publishTo s.published u x) := fun u x => by
    cases x with
    | driveLine => exact drivePublication_subsides _ u
    | recorder => exact recorderPublication_subsides u
    | cue => exact cuePublication_subsides u
    | noticeUnit => exact dividerCount_subsides _ u
  rw [publish_eq]
  exact .trans (t := s.published) .untouched (.foldl taken _ _)

theorem playerFault_subsides (p : PlayerId) (n : Nat) (s : State) : s.Subsides (playerFault p n s) :=
  (setPlayer_subsides p _ s).trans ((handBackWhere_subsides _ _).trans (playerNotice_subsides p _))

theorem takeArrived_subsides (p : PlayerId) (s : State) : s.Subsides (takeArrived p s) := by
  unfold takeArrived
  split
  · exact .refl s
  · exact (setPlayer_subsides p _ s).trans (.ite (playerFault_subsides p _ _) (setPlayer_subsides p _ _))

theorem publication_subsides (order : List Sink) (turns : PlayerTurns) (s : State) :
    (blendAndLimit (s.asked turns).1).Subsides (outputFrame order turns s) :=
  (publish_subsides order _).trans (((takeArrived_subsides _ _).trans (takeArrived_subsides _ _)).trans (handOn_subsides (_, _)))

end Sys2Proof.Machine
end

section
/-! The zones and the crane (R59, R62, R63, R176): where the out point lies after each change, and that no change makes an axis
ACTIVE but ENABLE_AXIS and RESUME_ALL (R68). -/

set_option Elab.async false

namespace Sys2Proof.Machine

/-! ### Zones and points -/

@[simp] theorem setZone_zone_same (s : State) (i : Fin 8) (z : Zone) : (s.setZone i z).zone i = z := by
  simp [State.zone, State.setZone]

theorem setZone_zone_other (s : State) {i j : Fin 8} (z : Zone) (h : j ≠ i) : (s.setZone i z).zone j = s.zone j := by
  have differ : i.val ≠ j.val := fun e => h (Fin.ext e.symm)
  simp [State.zone, State.setZone, Vector.getElem_set_ne, differ]

theorem inEnabledZone_iff {s : State} {q : Point} :
    s.inEnabledZone q = true ↔ ∃ i : Fin 8, (s.zone i).enabled = true ∧ (s.zone i).contains q = true := by
  simp only [State.inEnabledZone, List.any_eq_true, Vector.mem_toList_iff, Vector.mem_iff_getElem, Bool.and_eq_true]
  constructor
  · rintro ⟨z, ⟨i, low, rfl⟩, inside⟩
    exact ⟨⟨i, low⟩, inside⟩
  · rintro ⟨i, inside⟩
    exact ⟨s.zone i, ⟨i.val, i.isLt, rfl⟩, inside⟩

theorem inEnabledZone_congr {s t : State} (h : t.zones = s.zones) (q : Point) : t.inEnabledZone q = s.inEnabledZone q := by
  rw [State.inEnabledZone, h, ← State.inEnabledZone]

/-- A point in an enabled zone after a change of one zone. -/
theorem inEnabledZone_setZone {s : State} {i : Fin 8} {z : Zone} {q : Point} (h : (s.setZone i z).inEnabledZone q = true) :
    (z.enabled = true ∧ z.contains q = true) ∨ s.inEnabledZone q = true := by
  obtain ⟨j, inside⟩ := inEnabledZone_iff.mp h
  by_cases same : j = i
  · rw [same, setZone_zone_same] at inside
    exact .inl inside
  · rw [setZone_zone_other s z same] at inside
    exact .inr (inEnabledZone_iff.mpr ⟨j, inside⟩)

/-- A point depends on the geometric axes alone. -/
theorem pointOf_congr {f g : Fin 8 → Int} (h : ∀ i : Fin 8, geometric i = true → f i = g i) : pointOf f = pointOf g := by
  simp only [pointOf, h swing rfl, h lift rfl, h reach rfl, h track rfl]

theorem geoOut_configured {s : State} {i : Fin 8} (h : (s.axis i).configured = true) : s.geoOut i = (s.axis i).out := if_pos h

theorem geoOut_unconfigured {s : State} {i : Fin 8} (h : (s.axis i).configured = false) : s.geoOut i = 0 := by
  simp [State.geoOut, h]

theorem configured_of_enabled {a : Axis} (h : a.enabled = true) : a.configured = true := by
  rcases enabled_iff.mp h with e | e | e <;> simp [Axis.configured, e]

theorem enabled_of_moving {a : Axis} (h : a.moving = true) : a.enabled = true := by
  have state : a.state = .active ∨ a.state = .stopping := by simpa [Axis.moving] using h
  exact enabled_iff.mpr (by tauto)

/-! ### The law of the zones -/

/-- At least one geometric axis is configured, and every configured one is ACTIVE, STOPPING or HELD. -/
structure State.ArmEnabled (s : State) : Prop where
  some : ∃ i : Fin 8, geometric i = true ∧ (s.axis i).configured = true
  all : ∀ i : Fin 8, geometric i = true → (s.axis i).configured = true → (s.axis i).enabled = true

theorem zonesLawful_iff {s : State} : s.zonesLawful = true ↔ (s.ArmEnabled → s.inEnabledZone s.outPoint = false) := by
  have arm : (allAxes.any (fun i => geometric i && (s.axis i).configured)
      && allAxes.all (fun i => !(geometric i && (s.axis i).configured) || (s.axis i).enabled)) = true ↔ s.ArmEnabled := by
    simp only [Bool.and_eq_true, List.any_eq_true, List.all_eq_true, mem_allAxes, true_and, forall_const, Bool.or_eq_true,
      Bool.not_eq_true', Bool.and_eq_false_iff]
    refine ⟨fun ⟨there, all⟩ => ⟨there, fun i g c => ?_⟩, fun ⟨there, all⟩ => ⟨there, fun i => ?_⟩⟩
    · simpa [g, c] using all i
    · by_cases h : geometric i = true ∧ (s.axis i).configured = true
      · exact .inr (all i h.1 h.2)
      · exact .inl ((not_and_or.mp h).imp Bool.eq_false_iff.mpr Bool.eq_false_iff.mpr)
  rw [State.zonesLawful, Bool.or_eq_true, Bool.not_eq_true', Bool.not_eq_true', ← arm]
  cases (allAxes.any (fun i => geometric i && (s.axis i).configured)
      && allAxes.all (fun i => !(geometric i && (s.axis i).configured) || (s.axis i).enabled)) <;> simp

/-- The axis is enabled only if it was, and then where it was, and is configured if it was. -/
structure Axis.Calms (a b : Axis) : Prop where
  enabled : b.enabled = true → a.enabled = true ∧ b.out = a.out
  configured : a.configured = true → b.configured = true

theorem Axis.Calms.refl (a : Axis) : a.Calms a := ⟨fun h => ⟨h, rfl⟩, id⟩

theorem Axis.Abates.calms {a b : Axis} (h : a.Abates b) : a.Calms b where
  enabled := fun k => ⟨h.enabled k, h.out⟩
  configured := fun k => by
    rcases h.state with same | ⟨_, stopping⟩ | ⟨_, fault⟩
    · simpa only [Axis.configured, same] using k
    · simp [Axis.configured, stopping]
    · simp [Axis.configured, fault]

/-- An axis that is DISABLED or in FAULT is no matter to the zones. -/
theorem Axis.Calms.off {a b : Axis} (h : b.state = .disabled ∨ b.state = .fault) : a.Calms b := by
  refine ⟨fun k => ?_, fun _ => ?_⟩
  · rcases h with e | e <;> simp [Axis.enabled, e] at k
  · rcases h with e | e <;> simp [Axis.configured, e]

/-- Geometric axes that calm, with no zone grown, keep the law of the zones. -/
theorem zonesLawful_of_calms {s t : State} (zones : ∀ q : Point, t.inEnabledZone q = true → s.inEnabledZone q = true)
    (axes : ∀ i : Fin 8, geometric i = true → (s.axis i).Calms (t.axis i)) (h : s.zonesLawful = true) : t.zonesLawful = true := by
  rw [zonesLawful_iff] at h ⊢
  rintro ⟨⟨i, gi, ci⟩, all⟩
  have before : s.ArmEnabled :=
    ⟨⟨i, gi, configured_of_enabled ((axes i gi).enabled (all i gi ci)).1⟩, fun j gj cj =>
      ((axes j gj).enabled (all j gj ((axes j gj).configured cj))).1⟩
  have point : t.outPoint = s.outPoint := pointOf_congr fun j gj => by
    by_cases cj : (t.axis j).configured = true
    · obtain ⟨on, out⟩ := (axes j gj).enabled (all j gj cj)
      rw [geoOut_configured cj, geoOut_configured (configured_of_enabled on), out]
    · rw [geoOut_unconfigured (Bool.eq_false_iff.mpr cj),
        geoOut_unconfigured (Bool.eq_false_iff.mpr fun k => cj ((axes j gj).configured k))]
  rw [point]
  exact Bool.eq_false_iff.mpr fun inside => Bool.eq_false_iff.mp (h before) (zones _ inside)

/-! ### Changes that keep the law and make no axis ACTIVE -/

/-- The law of the zones is kept, and no axis becomes ACTIVE. -/
structure KeepsArm (s t : State) : Prop where
  lawful : s.zonesLawful = true → t.zonesLawful = true
  active : ∀ i : Fin 8, (t.axis i).state = .active → (s.axis i).state = .active

theorem KeepsArm.refl (s : State) : KeepsArm s s := ⟨id, fun _ => id⟩

theorem KeepsArm.trans {s t u : State} (h : KeepsArm s t) (k : KeepsArm t u) : KeepsArm s u :=
  ⟨k.lawful ∘ h.lawful, fun i => h.active i ∘ k.active i⟩

theorem KeepsArm.ite {s t u : State} {c : Prop} [Decidable c] (h : KeepsArm s t) (k : KeepsArm s u) :
    KeepsArm s (if c then t else u) := by
  split
  · exact h
  · exact k

theorem State.Abates.keepsArm {s t : State} (h : s.Abates t) : KeepsArm s t where
  lawful := zonesLawful_of_calms (fun q => (inEnabledZone_congr h.zones q ▸ id)) fun i _ => (h.axes i).calms
  active := fun i active => by
    rcases (h.axes i).state with same | ⟨_, stopping⟩ | ⟨_, fault⟩
    · exact same ▸ active
    · cases stopping.symm.trans active
    · cases fault.symm.trans active

theorem State.Subsides.keepsArm {s t : State} (h : s.Subsides t) : KeepsArm s t := h.toAbates.keepsArm

theorem State.Abates.of_same {s t : State} (axes : t.axes = s.axes) (zones : t.zones = s.zones) : s.Abates t :=
  ⟨fun i => axis_of_axes axes i ▸ .refl _, zones⟩

/-- A change of neither the axes nor the zones. -/
theorem KeepsArm.of_same {s t : State} (axes : t.axes = s.axes := by rfl) (zones : t.zones = s.zones := by rfl) : KeepsArm s t :=
  (State.Abates.of_same axes zones).keepsArm

theorem SameButPlayers.keepsArm {s t : State} (h : SameButPlayers s t) : KeepsArm s t := .of_same h.axes h.zones

theorem SameButStick.keepsArm {s t : State} (h : SameButStick s t) : KeepsArm s t := .of_same h.axes h.zones

theorem SameButTraffic.keepsArm {s t : State} (h : SameButTraffic s t) : KeepsArm s t := .of_same h.axes h.zones

/-- A change of one axis, made sure of at that axis. -/
theorem setAxis_keepsArm {i : Fin 8} {a : Axis} {s : State} (h : (s.axis i).Calms a) (k : a.state ≠ .active) :
    KeepsArm s (s.setAxis i a) where
  lawful := zonesLawful_of_calms (fun _ => id) fun j _ => by
    by_cases same : j = i
    · rw [same, setAxis_axis_same]
      exact h
    · rw [setAxis_axis_other _ _ _ _ same]
      exact .refl _
  active := fun j active => by
    by_cases same : j = i
    · rw [same, setAxis_axis_same] at active
      exact absurd active k
    · rwa [setAxis_axis_other _ _ _ _ same] at active

/-- With every axis UNCONFIGURED there is no crane to keep out of the zones. -/
theorem KeepsArm.of_reset {s t : State} (h : t.axes = State.reset.axes) : KeepsArm s t := by
  have axis : ∀ i : Fin 8, (t.axis i).state = .unconfigured := fun i => by
    rw [axis_of_axes h, reset_axis]
    rfl
  refine ⟨fun _ => zonesLawful_iff.mpr ?_, fun i active => nomatch (axis i).symm.trans active⟩
  rintro ⟨⟨i, _, configured⟩, _⟩
  simp [Axis.configured, axis i] at configured

/-! ### The zone check of a frame (R62, R63) -/

theorem settle_enabled (a : Axis) (p : Int) (f : ClampFlags) : (a.settle p f).enabled = a.enabled := by
  unfold Axis.settle
  by_cases rest : a.state = .stopping ∧ p = a.out
  · simp [Axis.enabled, rest.1, rest.2]
  · simp only [if_neg rest, Axis.enabled]

theorem limited_enabled (a : Axis) (hold : Bool) (q : Option Proposal) : (a.limited hold q).enabled = a.enabled := by
  unfold Axis.limited
  split
  · split <;> exact settle_enabled _ _ _
  · split <;> rfl

/-- The Limit Stage makes no axis ACTIVE (R51, R66). -/
theorem limited_active {a : Axis} {hold : Bool} {q : Option Proposal} (h : (a.limited hold q).state = .active) :
    a.state = .active := by
  have settled : ∀ (p : Int) (f : ClampFlags), (a.settle p f).state = .active → a.state = .active := fun p f h => by
    by_cases rest : a.state = .stopping ∧ p = a.out
    · simp [Axis.settle, rest] at h
    · simpa only [Axis.settle, if_neg rest] using h
  unfold Axis.limited at h
  split at h
  · split at h <;> exact settled _ _ h
  · split at h <;> exact h

theorem limitStage_zones (cand : Fin 8 → Int) (f : Fin 8 → ClampFlags) (s : State) : (limitStage cand f s).zones =
    Vector.ofFn fun i => (s.zone i).checked s.geometricMoving (s.checkPoint fun i => (s.axis i).propose (cand i) (f i)) :=
  (limitStage_library cand f s).zones

theorem limitStage_zone (cand : Fin 8 → Int) (f : Fin 8 → ClampFlags) (s : State) (j : Fin 8) : (limitStage cand f s).zone j =
    (s.zone j).checked s.geometricMoving (s.checkPoint fun i => (s.axis i).propose (cand i) (f i)) := by
  simp [State.zone, limitStage_zones]

theorem limitStage_inEnabledZone (cand : Fin 8 → Int) (f : Fin 8 → ClampFlags) (s : State) (q : Point) :
    (limitStage cand f s).inEnabledZone q = s.inEnabledZone q := by
  rw [Bool.eq_iff_iff, inEnabledZone_iff, inEnabledZone_iff]
  simp only [limitStage_zone]
  exact .rfl

/-- The out point after the Limit Stage: the old one where the zone hold acts, and the point checked elsewhere (R63). -/
theorem limitStage_outPoint (cand : Fin 8 → Int) (f : Fin 8 → ClampFlags) (s : State) : (limitStage cand f s).outPoint =
    if s.holds cand f then s.outPoint else s.checkPoint fun i => (s.axis i).propose (cand i) (f i) := by
  have out : ∀ i : Fin 8, geometric i = true → (limitStage cand f s).geoOut i = if (s.axis i).configured then
      ((s.axis i).limited (s.holds cand f) ((s.axis i).propose (cand i) (f i))).out else 0 := fun i gi => by
    rw [State.geoOut, limitStage_axis, limited_configured, gi, Bool.and_true]
  have moved : ∀ (i : Fin 8) (x : Proposal), geometric i = true → (s.axis i).propose (cand i) (f i) = some x →
      (limitStage cand f s).geoOut i = if s.holds cand f then s.geoOut i else x.p := fun i x gi proposed => by
    have configured := configured_of_enabled (enabled_of_moving (propose_isSome proposed))
    rw [out i gi, if_pos configured, geoOut_configured configured, proposed, (limited_some _ _ _).1]
  have still : ∀ i : Fin 8, geometric i = true → (s.axis i).propose (cand i) (f i) = none →
      (limitStage cand f s).geoOut i = s.geoOut i := fun i gi resting => by
    rw [out i gi, resting, limited_none_out, State.geoOut]
  by_cases hold : s.holds cand f = true
  · rw [if_pos hold]
    refine pointOf_congr fun i gi => ?_
    cases proposed : (s.axis i).propose (cand i) (f i) with
    | some x => rw [moved i x gi proposed, if_pos hold]
    | none => exact still i gi proposed
  · rw [if_neg hold]
    refine pointOf_congr fun i gi => ?_
    split
    · next x proposed => rw [moved i x gi proposed, if_neg hold]
    · next resting => exact still i gi resting

/-- Where no geometric axis moves there is nothing to check. -/
theorem checkPoint_still {s : State} (h : s.geometricMoving = false) (cand : Fin 8 → Int) (f : Fin 8 → ClampFlags) :
    (s.checkPoint fun i => (s.axis i).propose (cand i) (f i)) = s.outPoint := by
  refine pointOf_congr fun i gi => ?_
  split
  · next x proposed =>
    have moves : s.geometricMoving = true :=
      List.any_eq_true.mpr ⟨i, mem_allAxes i, by simp [gi, propose_isSome proposed]⟩
    exact absurd h (by simp [moves])
  · rfl

/-- The zone hold keeps an arm that stands outside every enabled zone outside (R63). -/
theorem limitStage_outside {cand : Fin 8 → Int} {f : Fin 8 → ClampFlags} {s : State} (h : s.inEnabledZone s.outPoint = false) :
    (limitStage cand f s).inEnabledZone (limitStage cand f s).outPoint = false := by
  rw [limitStage_inEnabledZone, limitStage_outPoint]
  split
  · exact h
  · next free =>
    cases moving : s.geometricMoving with
    | false => rwa [checkPoint_still moving]
    | true => simpa [State.holds, moving] using free

theorem limitStage_keepsArm (cand : Fin 8 → Int) (f : Fin 8 → ClampFlags) (s : State) : KeepsArm s (limitStage cand f s) where
  lawful := fun h => by
    rw [zonesLawful_iff] at h ⊢
    rintro ⟨⟨i, gi, ci⟩, all⟩
    simp only [limitStage_axis, limited_configured, limited_enabled] at ci all
    exact limitStage_outside (h ⟨⟨i, gi, ci⟩, all⟩)
  active := fun i active => by
    rw [limitStage_axis] at active
    exact limited_active active

theorem blendAndLimit_keepsArm (s : State) : KeepsArm s (blendAndLimit s) := by
  have blended : KeepsArm s (blendStage s) := (blends_subside fun _ => .ite (.blend _ _) (.refl _)).keepsArm
  have tracked : ∀ u : State, KeepsArm u (trackStage u) := fun u =>
    (mapAxes_subsides fun _ => .ite (.blend _ _) (.refl _)).keepsArm
  exact blended.trans ((limitStage_keepsArm _ _ _).trans (tracked _))

theorem outputFrame_keepsArm (order : List Sink) (turns : PlayerTurns) (s : State) : KeepsArm s (outputFrame order turns s) := by
  have same := asked_same s turns
  have asked : KeepsArm s (s.asked turns).1 := .of_same (same.axes.trans rfl) (same.zones.trans rfl)
  exact asked.trans ((blendAndLimit_keepsArm _).trans (publication_subsides order turns s).keepsArm)

end Sys2Proof.Machine
end

section
/-! Every command and every step keep the law of the zones (R63), and only ENABLE_AXIS and RESUME_ALL make an axis ACTIVE
(R68). -/

set_option Elab.async false

namespace Sys2Proof.Machine

/-! ### The Console Link, the Stick Port and the key store port -/

theorem requestArrival_subsides (kind tag : Nat) (payload : List Byte) (s : State) :
    s.Subsides (requestArrival kind tag payload s) := .ite .untouched (.ite .untouched (raise_subsides (s := s)))

theorem discardFrame_subsides (c : LinkCause) (s : State) : s.Subsides (discardFrame c s) :=
  .trans (t := { s with link := { s.link with framer := none } }) .untouched (raise_subsides (s := _))

theorem completeFrame_subsides (kind tag : Nat) (payload : List Byte) (check : Nat) (s : State) :
    s.Subsides (completeFrame kind tag payload check s) :=
  .ite (discardFrame_subsides _ s) (.ite (discardFrame_subsides _ s) (.trans .untouched (requestArrival_subsides _ _ _ _)))

theorem consoleReceive_subsides (b : Byte) (e : Bool) (s : State) : s.Subsides (consoleReceive b e s) := by
  unfold consoleReceive
  split
  · exact .ite .untouched (.refl s)
  · exact .ite (discardFrame_subsides _ s) (.ite (discardFrame_subsides _ s) (.ite (completeFrame_subsides _ _ _ _ s) .untouched))

theorem consoleGap_subsides (s : State) : s.Subsides (consoleGap s) := by
  unfold consoleGap
  split
  · exact discardFrame_subsides _ s
  · exact .refl s

theorem panelReceive_keepsArm (b : Byte) (e : Bool) (s : State) : KeepsArm s (panelReceive b e s) := by
  have hunted : KeepsArm s (panelHunt s) := .of_same
  unfold panelReceive
  split
  · exact .ite .of_same (.refl s)
  · refine .ite hunted (.ite hunted (.ite ?_ .of_same))
    exact hunted.trans ((portComplete_stick _ _ _ _ _).keepsArm.trans (handOn_subsides _).keepsArm)

theorem completeAccess_keepsArm (c : KeyCheck) (s : State) : KeepsArm s (completeAccess false c s) := by
  have fetched : ∀ (p : PlayerId) (i : Nat) (r : Bool) (c : KeyCheck) (k : Key) (n : Option (Nat × Nat)) (u : State),
      KeepsArm u (deliverFetch false p i r c k n u) := fun p i r c k n u =>
    .ite (setPlayer_subsides p _ u).keepsArm (.ite (playerFault_subsides p i u).keepsArm (setPlayer_subsides p _ u).keepsArm)
  have delivered : ∀ (v : Serving) (u : State), KeepsArm u (deliverOutcome false v c u) := fun v u => by
    unfold deliverOutcome
    split
    · exact .ite (fetched _ _ _ _ _ _ u) (.refl u)
    · exact (deliverRecorder_library u).sameButPlayers.keepsArm
    · exact (deliverConsoleWrite_library u).sameButPlayers.keepsArm
    · exact (deliverConsoleRead_library _ _ _ u).sameButPlayers.keepsArm
  unfold completeAccess
  split
  · exact .refl s
  · exact (finishAccess_library _ c s).sameButPlayers.keepsArm.trans ((delivered _ _).trans
      ((freePort_library _).sameButPlayers.keepsArm.trans (nextRequest_players _ _).keepsArm))

/-! ### Axis Control and the Drive Line -/

theorem replyAct_keepsArm (i : Fin 8) (x : Int) (st : DriveStatus) (s : State) : KeepsArm s (replyAct i x st s) := by
  have state := answeredBy_state (s.axis i) x st
  have calms : (s.axis i).Calms ((s.axis i).answeredBy x st) := by
    refine ⟨fun on => ?_, fun c => by simpa only [Axis.configured, state] using c⟩
    have on' : (s.axis i).enabled = true := enabled_of_state state ▸ on
    exact ⟨on', by simp only [Axis.answeredBy, on', if_true]⟩
  have recorded : KeepsArm s (s.setAxis i ((s.axis i).answeredBy x st)) := by
    refine ⟨zonesLawful_of_calms (fun _ => id) fun j _ => ?_, fun j active => ?_⟩
    · by_cases same : j = i
      · rwa [same, setAxis_axis_same]
      · rw [setAxis_axis_other _ _ _ _ same]
        exact .refl _
    · by_cases same : j = i
      · rw [same, setAxis_axis_same, state] at active
        exact same ▸ active
      · rwa [setAxis_axis_other _ _ _ _ same] at active
  unfold replyAct
  simp only
  split
  · next on =>
    have fault : ∀ (c : FaultCause) (y : Int) (code : Option Nat),
        KeepsArm s (enterFault i c y code (s.setAxis i ((s.axis i).answeredBy x st))) := fun c y code => by
      refine recorded.trans (enterFault_subsides ?_ c y code).keepsArm
      rwa [setAxis_axis_same, enabled_of_state state]
    split
    · exact fault _ _ _
    all_goals
      split
      · exact fault _ _ _
      · exact recorded
  · exact recorded

theorem driveReply_keepsArm (ad sq : Nat) (x : Int) (st co ch : Nat) (s : State) :
    KeepsArm s (driveReply ad sq x st co ch s) := by
  unfold driveReply
  split
  · exact .ite (replyAct_keepsArm _ _ _ s) (.refl s)
  · exact .refl s

/-! ### Power -/

theorem trimChain_library (m : MoveIx) (s : State) : SameButLibrary s (trimChain m s) := by
  unfold trimChain
  simp only
  refine (releaseBlocks_library m ((s.chain (s.entry m)).drop (blocksFor (s.entry m).keys)) s).trans ?_
  split <;> constructor <;> rfl

theorem recoverEntry_library (s : State) (m : MoveIx) : SameButLibrary s (recoverEntry s m) := by
  unfold recoverEntry
  simp only
  split
  · split
    · exact (trimChain_library m s).trans (setEntry_library _ _ _)
    · exact (trimChain_library m s).trans (emptyEntry_library _ _)
  · exact .refl s

theorem recover_library (s : State) : SameButLibrary s (recover s) := by
  have all : ∀ (l : List MoveIx) (u : State), SameButLibrary u (l.foldl recoverEntry u) := fun l => by
    induction l with
    | nil => exact .refl
    | cons m t ih => exact fun u => (recoverEntry_library u m).trans (ih _)
  exact all _ s

theorem resetVolatile_keepsArm (line : StopLine) (s t : State) : KeepsArm s (resetVolatile line t) := .of_reset rfl

theorem recovered_keepsArm (line : StopLine) (s t : State) : KeepsArm s (recover (resetVolatile line t)) :=
  (resetVolatile_keepsArm line s t).trans (recover_library _).sameButPlayers.keepsArm

theorem transmitDone_keepsArm (loop : LoopCurrent) (c : KeyCheck) (s : State) : KeepsArm s (transmitDone loop c s) := by
  unfold transmitDone
  split
  · exact .refl s
  · exact .ite (recovered_keepsArm _ _ _) .of_same

/-! ### Outcomes -/

/-- What the outcome leaves keeps the arm out of the zones and makes no axis ACTIVE. -/
def ArmKept (s : State) (o : Host.Outcome State Fault Refusal) : Prop := ∀ t : State, o = .next t → KeepsArm s t

theorem ArmKept.next {s t : State} (h : KeepsArm s t) : ArmKept s (.next t) := fun _ e => by
  cases e
  exact h

theorem event_armKept {g : State → State} {s : State} (h : KeepsArm s (g s)) : ArmKept s (event g s) := by
  unfold event
  split
  · exact .next (h.trans (pump_subsides _).keepsArm)
  · exact .next (.refl s)

theorem request_armKept {i : Instr} {act : Via → State → State × Option Reply} {s : State}
    (h : KeepsArm s (act (s.via i) s).1) : ArmKept s (request i act s) := by
  unfold request
  split
  · split
    · next acted =>
      rw [acted] at h
      exact .next (h.trans ((readyReply_subsides _ _ _).trans (pump_subsides _)).keepsArm)
    · next acted =>
      rw [acted] at h
      exact .next (h.trans (pump_subsides _).keepsArm)
  · exact .next (.refl s)

theorem answered_armKept {i : Instr} {act : State → State × Reply} {s : State} (h : KeepsArm s (act s).1) :
    ArmKept s (answered i act s) := request_armKept h

theorem query_armKept (i : Instr) (fields : State → List Byte) (s : State) : ArmKept s (query i fields s) :=
  answered_armKept (.refl s)

/-! ### Requests at the axes -/

theorem execSetAxis_armKept (n : Nat) (w : WireAxis) (s : State) : ArmKept s (execSetAxis n w s) := by
  refine answered_armKept ?_
  simp only
  split
  · exact .refl s
  · next i _ =>
    split
    · exact .refl s
    · next free =>
      split
      · exact .refl s
      · have disabled : ((s.axis i).configure (configOf w)).state = .disabled := by
          rcases not_not.mp free with e | e
          · rw [configure_unconfigured e]
          · rw [configure_disabled e]
            exact e
        have centred : ∀ (ch : Option (Fin 8)) (u : State), KeepsArm u (centreChannel ch u) := fun ch u => by
          cases ch <;> exact .of_same
        exact (setAxis_keepsArm (.off (.inl disabled)) (by simp [disabled])).trans
          ((centred _ _).trans (withClears_subsides s _).keepsArm)

/-- RELEASE_AXIS leaves the crane at the point it has checked, its axis at 0 (R174). -/
theorem released_lawful {s : State} {i : Fin 8}
    (free : (geometric i && s.inEnabledZone (pointOf fun j => if j = i then 0 else s.geoOut j)) = false)
    (h : s.zonesLawful = true) : (s.setAxis i (s.axis i).unconfigure).zonesLawful = true := by
  by_cases gi : geometric i = true
  · refine zonesLawful_iff.mpr fun _ => ?_
    have point : (s.setAxis i (s.axis i).unconfigure).outPoint = pointOf fun j => if j = i then 0 else s.geoOut j :=
      pointOf_congr fun j _ => by
        by_cases same : j = i
        · rw [if_pos same, same]
          exact geoOut_unconfigured (by rw [setAxis_axis_same]; rfl)
        · rw [if_neg same, State.geoOut, setAxis_axis_other _ _ _ _ same, ← State.geoOut]
    rw [point]
    exact (inEnabledZone_congr (s := s) rfl _).trans (by simpa [gi] using free)
  · refine zonesLawful_of_calms (s := s) (fun _ => id) (fun j gj => ?_) h
    have other : j ≠ i := fun same => gi (same ▸ gj)
    rw [setAxis_axis_other _ _ _ _ other]
    exact .refl _

theorem execReleaseAxis_armKept (n : Nat) (s : State) : ArmKept s (execReleaseAxis n s) := by
  refine answered_armKept ?_
  split
  · exact .refl s
  · next i _ =>
    split
    · exact .refl s
    · split
      · exact .refl s
      · next free =>
        have released : KeepsArm s (s.setAxis i (s.axis i).unconfigure) := by
          refine ⟨released_lawful (Bool.eq_false_iff.mpr free), fun j active => ?_⟩
          by_cases same : j = i
          · rw [same, setAxis_axis_same] at active
            cases active
          · rwa [setAxis_axis_other _ _ _ _ same] at active
        exact released.trans (withClears_subsides s _).keepsArm

theorem execDisableAxis_armKept (n : Nat) (s : State) : ArmKept s (execDisableAxis n s) := by
  refine answered_armKept ?_
  split
  · exact .refl s
  · next m _ =>
    split
    · exact .refl s
    · have left : KeepsArm s (s.mapAxes fun i a => if Mask.has m i then a.left .disabled else a) := by
        refine ⟨zonesLawful_of_calms (fun _ => id) fun i _ => ?_, fun i active => ?_⟩
        · rw [mapAxes_axis]
          split
          · exact .off (.inl rfl)
          · exact .refl _
        · rw [mapAxes_axis] at active
          split at active
          · cases active
          · exact active
      exact left.trans ((withClears_subsides s _).toAbates.trans (allHeldIf_abates _ _)).keepsArm

theorem execClearFault_armKept (n : Nat) (s : State) : ArmKept s (execClearFault n s) := by
  refine answered_armKept ?_
  split
  · exact .refl s
  · split
    · exact .refl s
    · split
      · exact .refl s
      · exact setAxis_keepsArm (.off (.inl rfl)) nofun

/-! ### Requests at the zones and others -/

/-- A zone that is not enabled, or only one that does not hold the out point, joins the table. -/
theorem setZone_keepsArm {s : State} {i : Fin 8} {z : Zone} (h : z.enabled = true → z.contains s.outPoint = false) :
    KeepsArm s (s.setZone i z) where
  lawful := fun lawful => by
    rw [zonesLawful_iff] at lawful ⊢
    rintro ⟨some, all⟩
    refine Bool.eq_false_iff.mpr fun inside => ?_
    rcases inEnabledZone_setZone inside with ⟨on, contains⟩ | before
    · exact Bool.eq_false_iff.mp (h on) contains
    · exact Bool.eq_false_iff.mp (lawful ⟨some, all⟩) before
  active := fun _ => id

theorem execSetZone_armKept (n : Nat) (a b c d : WireBound) (s : State) : ArmKept s (execSetZone n a b c d s) := by
  refine answered_armKept ?_
  simp only
  split
  · exact .refl s
  · split
    · exact .refl s
    · next off =>
      split
      · exact setZone_keepsArm fun on => absurd on off
      · exact .refl s

theorem execClearZone_armKept (n : Nat) (s : State) : ArmKept s (execClearZone n s) := by
  refine answered_armKept ?_
  split
  · exact .refl s
  · split
    · exact .refl s
    · next off => exact setZone_keepsArm fun on => absurd on off

theorem execZoneOn_armKept (n : Nat) (s : State) : ArmKept s (execZoneOn n s) := by
  refine answered_armKept ?_
  split
  · exact .refl s
  · split
    · exact .refl s
    · split
      · exact .refl s
      · split
        · exact .refl s
        · next outside => exact setZone_keepsArm fun _ => Bool.eq_false_iff.mpr outside

theorem execZoneOff_armKept (n : Nat) (s : State) : ArmKept s (execZoneOff n s) := by
  refine answered_armKept ?_
  split
  · exact .refl s
  · exact setZone_keepsArm nofun

theorem beginTxn_players (v : Via) (m : MoveIx) (w : TxnWork) (s : State) : SameButPlayers s (beginTxn v m w s) := by
  have begun : SameButPlayers (holdPlace v s) { holdPlace v s with txn := some { via := v, move := m, work := w } } := by
    constructor <;> rfl
  have held : SameButPlayers s (holdPlace v s) := by cases v <;> constructor <;> rfl
  exact held.trans (begun.trans (consoleStep_library _).sameButPlayers)

theorem execPutKeys_armKept (n : Nat) (keys : List WireKey) (s : State) : ArmKept s (execPutKeys n keys s) := by
  refine request_armKept ?_
  unfold putKeysRequest
  split
  · exact .refl s
  · split
    · exact .refl s
    · split
      · exact .refl s
      · split
        · exact .refl s
        · split
          · exact .refl s
          · exact (beginTxn_players _ _ _ s).keepsArm

theorem execReadKeys_armKept (n first count : Nat) (s : State) : ArmKept s (execReadKeys n first count s) := by
  refine request_armKept ?_
  unfold readKeysRequest
  simp only
  split
  · exact .refl s
  · next m _ =>
    have begun := (beginTxn_players (s.via (.readKeys n first count)) m (.read first count []) s).keepsArm
    split
    · exact .refl s
    · split
      · exact .refl s
      · split
        · exact .refl s
        · split
          · exact .refl s
          · exact begun

theorem execDeleteMove_armKept (n : Nat) (s : State) : ArmKept s (execDeleteMove n s) := by
  refine answered_armKept ?_
  split
  · exact .refl s
  · split
    · exact (emptyEntry_subsides _ s).keepsArm
    · exact .refl s

end Sys2Proof.Machine
end

section
/-! The law of the zones over every step (R63), and the commands that make an axis ACTIVE (R68, R71, R176, R177). -/

set_option Elab.async false

namespace Sys2Proof.Machine

/-! ### The commands that enable -/

/-- Every command but RESUME_ALL and ENABLE_AXIS keeps the law and makes no axis ACTIVE. -/
theorem exec_armKept {c : Instr} (resume : c ≠ .resumeAll) (enable : ∀ m : Nat, c ≠ .enableAxis m) (s : State) :
    ArmKept s (exec c s) := by
  cases c <;> rw [exec]
  case resumeAll => exact absurd rfl resume
  case enableAxis => exact absurd rfl (enable _)
  case powerOn =>
    unfold execPowerOn
    split
    · exact .next (.refl s)
    · exact .next ((recovered_keepsArm _ _ _).trans (pump_subsides _).keepsArm)
  case mainPowerLoss =>
    unfold execMainPowerLoss
    split
    · exact .next (resetVolatile_keepsArm _ _ _)
    · exact .next (.refl s)
  case retentionSupplyLoss => exact .next (.trans (t := powerLost (initialiseRetained s)) (resetVolatile_keepsArm _ _ _) .of_same)
  case panelFrame => exact event_armKept ((portFrame_stick _ _ _ _ s).keepsArm.trans (handOn_subsides _).keepsArm)
  case panelByte => exact event_armKept (panelReceive_keepsArm _ _ s)
  case panelGapTimeout => exact event_armKept .of_same
  case staleTimeout => exact event_armKept (staleExpire_stick s).keepsArm
  case outputFrame => exact event_armKept (outputFrame_keepsArm _ _ s)
  case recorderTimeLimit => exact event_armKept (recorderTimeLimit_subsides s).keepsArm
  case waitFramesExpired => exact event_armKept (waitFramesExpired_subsides s).keepsArm
  case statusReportDue => exact event_armKept (statusDue_traffic s s).keepsArm
  case keyAccessComplete => exact event_armKept (completeAccess_keepsArm _ s)
  case driveReply => exact event_armKept (driveReply_keepsArm _ _ _ _ _ _ s)
  case consoleByte => exact event_armKept (consoleReceive_subsides _ _ s).keepsArm
  case consoleGapTimeout => exact event_armKept (consoleGap_subsides s).keepsArm
  case requestFrame =>
    exact event_armKept (.ite (discardFrame_subsides _ s).keepsArm (completeFrame_subsides _ _ _ _ s).keepsArm)
  case transmitDone => exact event_armKept (transmitDone_keepsArm _ _ s)
  case stopLineAssert =>
    refine event_armKept (.ite (.trans (t := { s with stopLine := .asserted }) .of_same ?_) (.refl s))
    exact (raise_abates _ _).keepsArm.trans (cascade_subsides _).keepsArm
  case stopLineRelease =>
    exact event_armKept (.ite (.trans (t := { s with stopLine := .released }) .of_same (raise_abates _ _).keepsArm) (.refl s))
  case fadeComplete =>
    refine event_armKept ?_
    split
    · exact ((setAxis_subsides (.blend _ _)).trans (withClears_subsides s _)).keepsArm
    · exact .refl s
  case driveSilent =>
    refine event_armKept ?_
    split
    · exact (driveSilent_subsides _ s).keepsArm
    · exact .refl s
  case setPanel n =>
    refine answered_armKept ?_
    split
    · exact .refl s
    · have set : KeepsArm s { s with stick := { s.stick with timeout := n } } := .of_same
      exact .ite (set.trans (staleExpire_stick _).keepsArm) set
  case setRate =>
    refine answered_armKept ?_
    split
    · split
      · exact .refl s
      · exact (setPlayer_subsides _ _ s).keepsArm
    · exact .refl s
  case setAxis => exact execSetAxis_armKept _ _ s
  case releaseAxis => exact execReleaseAxis_armKept _ s
  case disableAxis => exact execDisableAxis_armKept _ s
  case clearFault => exact execClearFault_armKept _ s
  case setZone => exact execSetZone_armKept _ _ _ _ _ s
  case clearZone => exact execClearZone_armKept _ s
  case zoneOn => exact execZoneOn_armKept _ s
  case zoneOff => exact execZoneOff_armKept _ s
  case stopAll => exact answered_armKept ((raise_abates _ s).keepsArm.trans (cascade_subsides _).keepsArm)
  case fade => exact answered_armKept (fadeRequest_subsides _ _ _ s).keepsArm
  case takeOver => exact answered_armKept (takeOver_subsides s).keepsArm
  case putKeys => exact execPutKeys_armKept _ _ s
  case readKeys => exact execReadKeys_armKept _ _ _ s
  case deleteMove => exact execDeleteMove_armKept _ s
  case load => exact answered_armKept (loadRequest_subsides _ _ _ s).keepsArm
  case run => exact answered_armKept (runRequest_subsides _ s).keepsArm
  case pause => exact answered_armKept (pauseRequest_players _ s).keepsArm
  case stop => exact answered_armKept (stopRequest_subsides _ s).keepsArm
  case goTo => exact answered_armKept (goToRequest_subsides _ _ _ s).keepsArm
  case recordStart => exact answered_armKept (recordStartRequest_subsides _ _ _ _ _ _ s).keepsArm
  case recordStop => exact answered_armKept (recordStopRequest_subsides s).keepsArm
  case ident | getPanel | getFrame | getGeometry | listMoves | getRecorder | getCue | getTriggers | getNotices | readLog
      | getStatus => exact query_armKept _ _ s
  case setGeometry | protectMove =>
    refine answered_armKept ?_
    dsimp only
    (repeat' split) <;> exact .of_same
  all_goals
    refine answered_armKept ?_
    (repeat' split) <;> exact .of_same

/-! ### RESUME_ALL and ENABLE_AXIS -/

theorem resumed_calms (a : Axis) : a.Calms a.resumed := by
  unfold Axis.resumed
  split
  · next held => exact ⟨fun _ => ⟨enabled_iff.mpr (.inr (.inr held)), rfl⟩, fun _ => rfl⟩
  · exact .refl a

/-- The state that RESUME_ALL leaves (R71). -/
theorem execResumeAll_cases {s t : State} (h : exec .resumeAll s = .next t) : ∃ u : State, u.Subsides t ∧
    (u = s ∨ (s.stopLine = .released ∧ u = s.mapAxes fun _ a => a.resumed)) := by
  have replied : ∀ (v : Via) (l : List Byte) (u : State), u.Subsides (pump (readyReply v l u)) := fun v l u =>
    (readyReply_subsides v l u).trans (pump_subsides _)
  rw [exec, execResumeAll, answered, request] at h
  simp only at h
  split at h
  · cases h
    refine ⟨_, replied _ _ _, ?_⟩
    cases line : s.stopLine with
    | asserted => exact .inl rfl
    | released => exact .inr ⟨rfl, rfl⟩
  · cases h
    exact ⟨s, .refl s, .inl rfl⟩

/-- What an ENABLE_AXIS of mask `m` has checked, and the state it leaves (R176, R177). -/
structure Seats (m : Mask) (s u : State) : Prop where
  line : s.stopLine = .released
  checked : ∀ i ∈ Mask.axes m, enableCheck s i = .ok
  outside : ((Mask.axes m).any geometric && s.inEnabledZone (s.enablePoint m)) = false
  seated : u = s.mapAxes fun i a => if Mask.has m i then a.seated else a

/-- The state that ENABLE_AXIS leaves (R176, R177). -/
theorem execEnableAxis_cases {n : Nat} {s t : State} (h : exec (.enableAxis n) s = .next t) :
    ∃ u : State, u.Subsides t ∧ (u = s ∨ ∃ m : Mask, maskOf? n = some m ∧ Seats m s u) := by
  have replied : ∀ (v : Via) (l : List Byte) (u : State), u.Subsides (pump (readyReply v l u)) := fun v l u =>
    (readyReply_subsides v l u).trans (pump_subsides _)
  have kept : ∀ {v : Via} {l : List Byte},
      (.next (pump (readyReply v l s)) : Host.Outcome State Fault Refusal) = .next t → s.Subsides t := fun e => by
    cases e
    exact replied _ _ _
  cases delivers : s.delivers with
  | false =>
    rw [exec, execEnableAxis, answered, request_idle delivers] at h
    cases h
    exact ⟨s, .refl s, .inl rfl⟩
  | true =>
    rw [exec, execEnableAxis, answered_delivers delivers, delivered, happened] at h
    cases mask : maskOf? n with
    | none =>
      rw [mask] at h
      exact ⟨s, kept h, .inl rfl⟩
    | some m =>
      simp only [mask] at h
      split at h
      · exact ⟨s, kept h, .inl rfl⟩
      · next line =>
        split at h
        · exact ⟨s, kept h, .inl rfl⟩
        · next pass =>
          split at h
          · exact ⟨s, kept h, .inl rfl⟩
          · next outside =>
            cases h
            refine ⟨_, (withClears_subsides s _).trans (replied _ _ _), .inr ⟨m, rfl, ?_, firstFailing_none pass,
              Bool.eq_false_iff.mpr outside, rfl⟩⟩
            cases state : s.stopLine with
            | asserted => exact absurd state line
            | released => rfl

end Sys2Proof.Machine
end

section
/-! No step takes an enabled arm into an enabled zone (R63), and no axis becomes ACTIVE but through ENABLE_AXIS and RESUME_ALL
(R68): obligations O32 and O35. -/

set_option Elab.async false

namespace Sys2Proof.Machine

/-! ### What ENABLE_AXIS seats -/

/-- An axis that passes the checks is DISABLED (R176). -/
theorem enableCheck_disabled {s : State} {i : Fin 8} (h : enableCheck s i = .ok) : (s.axis i).state = .disabled := by
  by_contra other
  simp [enableCheck, other] at h

theorem Seats.axis {m : Mask} {s u : State} (h : Seats m s u) (i : Fin 8) :
    u.axis i = if Mask.has m i then (s.axis i).seated else s.axis i := by
  rw [h.seated, mapAxes_axis]

/-- The crane stands, seated, at the point that ENABLE_AXIS has checked (R176, check 4). -/
theorem Seats.outPoint {m : Mask} {s u : State} (h : Seats m s u) : u.outPoint = s.enablePoint m :=
  pointOf_congr fun i _ => by
    rw [State.geoOut, h.axis]
    by_cases named : Mask.has m i = true
    · rw [if_pos named, if_pos named]
      rfl
    · rw [if_neg named, if_neg named]
      rfl

theorem Seats.lawful {m : Mask} {s u : State} (h : Seats m s u) (lawful : s.zonesLawful = true) : u.zonesLawful = true := by
  have zones : u.zones = s.zones := by rw [h.seated, mapAxes_zones]
  cases some : (Mask.axes m).any geometric with
  | true =>
    refine zonesLawful_iff.mpr fun _ => ?_
    rw [h.outPoint, inEnabledZone_congr zones]
    simpa [some] using h.outside
  | false =>
    refine zonesLawful_of_calms (fun q => inEnabledZone_congr zones q ▸ id) (fun i gi => ?_) lawful
    have unnamed : ¬ Mask.has m i = true := fun named =>
      Bool.eq_false_iff.mp some (List.any_eq_true.mpr ⟨i, mem_maskAxes.mpr named, gi⟩)
    rw [h.axis, if_neg unnamed]
    exact .refl _

/-! ### Every command, every step -/

theorem exec_zonesLawful {c : Instr} {s t : State} (h : exec c s = .next t) (lawful : s.zonesLawful = true) :
    t.zonesLawful = true := by
  by_cases resume : c = .resumeAll
  · subst resume
    obtain ⟨u, subsides, rfl | ⟨_, rfl⟩⟩ := execResumeAll_cases h
    · exact subsides.keepsArm.lawful lawful
    · refine subsides.keepsArm.lawful (zonesLawful_of_calms (s := s) (fun _ => id) (fun i _ => ?_) lawful)
      rw [mapAxes_axis]
      exact resumed_calms _
  · by_cases enable : ∃ m : Nat, c = .enableAxis m
    · obtain ⟨m, rfl⟩ := enable
      obtain ⟨u, subsides, rfl | ⟨_, _, seats⟩⟩ := execEnableAxis_cases h
      · exact subsides.keepsArm.lawful lawful
      · exact subsides.keepsArm.lawful (seats.lawful lawful)
    · exact (exec_armKept resume (not_exists.mp enable) s t h).lawful lawful

theorem millisecond_keepsArm (s : State) : KeepsArm s (millisecond s) := by
  have hunted : KeepsArm s (panelHunt s) := .of_same
  have stick : ∀ u : State, KeepsArm u (stickMillisecond u) := fun u =>
    have counted : KeepsArm u { u with stick := { u.stick with elapsed := u.stick.elapsed + 1 } } := .of_same
    .ite (.ite (counted.trans (staleExpire_stick _).keepsArm) counted) (.refl u)
  have frame : ∀ u : State, KeepsArm u (frameMillisecond u) := fun u =>
    have counted : KeepsArm u { u with timer := { u.timer with elapsed := u.timer.elapsed + 1 } } := .of_same
    .ite (counted.trans (outputFrame_keepsArm _ _ _)) counted
  exact hunted.trans ((consoleGap_subsides _).keepsArm.trans ((stick _).trans (frame _)))

theorem idle_zonesLawful {s t : State} (h : idle s = .next t) (lawful : s.zonesLawful = true) : t.zonesLawful = true := by
  have undelivered : ∀ (p : Place) (c : Result), KeepsArm s (answerUndelivered p c s) := fun p c =>
    ((readyReply_subsides _ _ s).trans (pump_subsides _)).keepsArm
  unfold idle at h
  split at h
  · split at h
    · exact exec_zonesLawful h lawful
    · cases h
      exact (undelivered _ _).lawful lawful
    · cases h
      exact (undelivered _ _).lawful lawful
    · cases h
      exact ((millisecond_keepsArm s).trans (pump_subsides _).keepsArm).lawful lawful
  · cases h
    exact lawful

/-- Settles O32: no command breaks the law of the zones, nor does a delivery or a millisecond on an empty queue. -/
theorem stepKeepsArmOutsideZones : Obligations.StepKeepsArmOutsideZones := fun s t lawful stepped => by
  unfold step at stepped
  split at stepped
  · next rest _ =>
    have queued : KeepsArm s { s with pending := rest } := .of_same
    exact exec_zonesLawful stepped (queued.lawful lawful)
  · exact idle_zonesLawful stepped lawful

theorem maskOf?_testBit {n : Nat} {m : Mask} (h : maskOf? n = some m) {i : Fin 8} (named : Mask.has m i = true) :
    n.testBit i.val = true := by
  unfold maskOf? at h
  split at h
  · next range =>
    cases h
    rw [Mask.has, BitVec.getLsbD_ofNat, Bool.and_eq_true] at named
    exact named.2
  · cases h

/-- Settles O35: a command other than the two makes no axis ACTIVE; these act on a RELEASED line alone, on HELD axes the one and
on DISABLED axes of its mask the other. -/
theorem onlyEnableOrResumeActivates : Obligations.OnlyEnableOrResumeActivates := fun c s t i next still active => by
  by_cases resume : c = .resumeAll
  · subst resume
    obtain ⟨u, subsides, rfl | ⟨line, rfl⟩⟩ := execResumeAll_cases next
    · exact absurd (subsides.keepsArm.active i active) still
    · have resumed := subsides.keepsArm.active i active
      rw [mapAxes_axis, Axis.resumed] at resumed
      split at resumed
      · next held => exact ⟨line, .inl ⟨rfl, held⟩⟩
      · exact absurd resumed still
  · by_cases enable : ∃ m : Nat, c = .enableAxis m
    · obtain ⟨n, rfl⟩ := enable
      obtain ⟨u, subsides, rfl | ⟨m, mask, seats⟩⟩ := execEnableAxis_cases next
      · exact absurd (subsides.keepsArm.active i active) still
      · have seated := subsides.keepsArm.active i active
        rw [seats.axis] at seated
        split at seated
        · next named =>
          exact ⟨seats.line, .inr ⟨n, rfl, maskOf?_testBit mask named,
            enableCheck_disabled (seats.checked i (mem_maskAxes.mpr named))⟩⟩
        · exact absurd seated still
    · exact absurd ((exec_armKept resume (not_exists.mp enable) s t next).active i active) still

end Sys2Proof.Machine
end

section
/-! The limit chain and the stop ramp at one axis (R50, R52 to R54, R65), and what an output frame makes of each axis (R49, R52,
R55, R65, R66): obligations O29 and O30. -/

set_option Elab.async false

namespace Sys2Proof.Machine

/-! ### The steps of the chain -/

theorem accelStep_eq (c : AxisConfig) (v vc : Int) : accelStep c v vc = max (v - c.amax) (min (v + c.amax) vc) :=
  sat_eq_max_min (by omega) vc

theorem speedStep_eq (c : AxisConfig) (vc : Int) : speedStep c vc = max (-(c.vmax : Int)) (min c.vmax vc) :=
  sat_eq_max_min (by omega) vc

theorem bandStep_eq (c : AxisConfig) (out vc : Int) : bandStep c out vc =
    if 0 < c.band ∧ 0 < vc ∧ c.softMax - out < c.band then min vc (c.vmax * (c.softMax - out) / c.band)
    else if 0 < c.band ∧ vc < 0 ∧ out - c.softMin < c.band then max vc (-(c.vmax * (out - c.softMin) / c.band))
    else vc := by
  simp only [bandStep, floorDiv, Int.fdiv_eq_ediv_of_nonneg _ (Int.natCast_nonneg c.band)]
  by_cases none : c.band = 0
  · simp [none]
  · simp [none, Nat.pos_of_ne_zero none]

theorem softStep_p {c : AxisConfig} (h : c.softMin < c.softMax) (out vc : Int) (f : ClampFlags) :
    (softStep c out vc f).p = max c.softMin (min c.softMax (out + vc)) := sat_eq_max_min h.le _

/-- The change of velocity is limited exactly when it exceeds amax (R52). -/
theorem accelStep_ne_iff {c : AxisConfig} {v vc : Int} : accelStep c v vc ≠ vc ↔ (vc - v).natAbs > c.amax := by
  rw [accelStep_eq]
  omega

theorem accelStep_natAbs (c : AxisConfig) (v vc : Int) : (accelStep c v vc).natAbs ≤ v.natAbs + c.amax := by
  rw [accelStep_eq]
  omega

theorem speedStep_natAbs_le (c : AxisConfig) (vc : Int) : (speedStep c vc).natAbs ≤ vc.natAbs := by
  rw [speedStep_eq]
  omega

/-- The band turns no move, and slows one that runs into it (R53). -/
theorem bandStep_up {c : AxisConfig} {out vc : Int} (inside : c.inLimits out = true) (h : 0 < bandStep c out vc)
    (near : c.softMax - out < c.band) : bandStep c out vc ≤ c.vmax * (c.softMax - out) / c.band := by
  obtain ⟨low, high⟩ := inLimits_iff.mp inside
  rw [bandStep_eq] at h ⊢
  split
  · exact min_le_right _ _
  · next free =>
    have forward : ¬ 0 < vc := fun k => free ⟨by omega, k, near⟩
    have below : 0 ≤ c.vmax * (out - c.softMin) / c.band :=
      Int.ediv_nonneg (Int.mul_nonneg (by omega) (by omega)) (by omega)
    rw [if_neg free] at h
    split at h <;> omega

theorem bandStep_down {c : AxisConfig} {out vc : Int} (inside : c.inLimits out = true) (h : bandStep c out vc < 0)
    (near : out - c.softMin < c.band) : -(c.vmax * (out - c.softMin) / c.band) ≤ bandStep c out vc := by
  obtain ⟨low, high⟩ := inLimits_iff.mp inside
  have above : 0 ≤ c.vmax * (c.softMax - out) / c.band :=
    Int.ediv_nonneg (Int.mul_nonneg (by omega) (by omega)) (by omega)
  rw [bandStep_eq] at h ⊢
  split
  · next forward =>
    rw [if_pos forward] at h
    omega
  · next free =>
    rw [if_neg free] at h
    split
    · exact le_max_right _ _
    · next free' =>
      rw [if_neg free'] at h
      exact absurd ⟨by omega, h, near⟩ free'

/-! ### The chain -/

/-- The chain as its steps, one after the other (R50). -/
theorem limitChain_eq (c : AxisConfig) (out v cand : Int) (f : ClampFlags) : limitChain c out v cand f =
    softStep c out (bandStep c out (speedStep c (accelStep c v (cand - out)))) { f with
      accel := decide (accelStep c v (cand - out) ≠ cand - out),
      velocity := decide (speedStep c (accelStep c v (cand - out)) ≠ accelStep c v (cand - out)),
      band := decide (bandStep c out (speedStep c (accelStep c v (cand - out))) ≠
        speedStep c (accelStep c v (cand - out))) } := rfl

/-- A limited move stays within the limits, within vmax, and within amax of the last move (R52, R54). -/
theorem limitChain_bounds {c : AxisConfig} {out : Int} (order : c.softMin < c.softMax) (inside : c.inLimits out = true)
    (v cand : Int) (f : ClampFlags) : c.inLimits (limitChain c out v cand f).p = true ∧
    ((limitChain c out v cand f).p - out).natAbs ≤ c.vmax ∧
    ((limitChain c out v cand f).p - out).natAbs ≤ v.natAbs + c.amax := by
  rw [limitChain_eq]
  obtain ⟨limits, move⟩ := softStep_bounds order inside (bandStep c out (speedStep c (accelStep c v (cand - out)))) { f with
      accel := decide (accelStep c v (cand - out) ≠ cand - out),
      velocity := decide (speedStep c (accelStep c v (cand - out)) ≠ accelStep c v (cand - out)),
      band := decide (bandStep c out (speedStep c (accelStep c v (cand - out))) ≠
        speedStep c (accelStep c v (cand - out))) }
  have band := bandStep_natAbs inside (speedStep c (accelStep c v (cand - out)))
  have speed := speedStep_natAbs c (accelStep c v (cand - out))
  have slower := speedStep_natAbs_le c (accelStep c v (cand - out))
  have accel := accelStep_natAbs c v (cand - out)
  exact ⟨limits, by omega, by omega⟩

/-- A move within the slowing band is in proportion to the way left (R53). -/
theorem softStep_band {c : AxisConfig} {out vc : Int} {f : ClampFlags} (order : c.softMin < c.softMax)
    (inside : c.inLimits out = true) (some : 0 < c.band) :
    ((softStep c out (bandStep c out vc) f).p > out →
      ((softStep c out (bandStep c out vc) f).p - out) * c.band ≤ c.vmax * (c.softMax - out) ∨ (c.band : Int) ≤ c.softMax - out) ∧
    ((softStep c out (bandStep c out vc) f).p < out →
      (out - (softStep c out (bandStep c out vc) f).p) * c.band ≤ c.vmax * (out - c.softMin) ∨ (c.band : Int) ≤ out - c.softMin) := by
  obtain ⟨low, high⟩ := inLimits_iff.mp inside
  have positive : (c.band : Int) ≠ 0 := by omega
  have share : ∀ {x q : Int}, x ≤ q / c.band → x * c.band ≤ q := fun h =>
    (Int.mul_le_mul_of_nonneg_right h (Int.natCast_nonneg _)).trans (Int.ediv_mul_le _ positive)
  rw [softStep_p order]
  refine ⟨fun up => ?_, fun down => ?_⟩
  · by_cases far : (c.band : Int) ≤ c.softMax - out
    · exact .inr far
    · have slow := bandStep_up (vc := vc) inside (by omega) (by omega)
      exact .inl (share (by omega))
  · by_cases far : (c.band : Int) ≤ out - c.softMin
    · exact .inr far
    · have slow := bandStep_down (vc := vc) inside (by omega) (by omega)
      exact .inl (share (by omega))

/-! ### The stop ramp -/

theorem rampStep_eq (c : AxisConfig) (v : Int) : (rampStep c v).natAbs = v.natAbs - 2 * c.amax ∧
    (0 ≤ v → 0 ≤ rampStep c v) ∧ (v ≤ 0 → rampStep c v ≤ 0) := by
  unfold rampStep
  split
  · omega
  · split <;> omega

theorem ramp_iterate (c : AxisConfig) (v : Int) (n : Nat) : ((rampStep c)^[n] v).natAbs = v.natAbs - n * (2 * c.amax) ∧
    (0 ≤ v → 0 ≤ (rampStep c)^[n] v) ∧ (v ≤ 0 → (rampStep c)^[n] v ≤ 0) := by
  induction n with
  | zero => simp
  | succ n ih =>
    obtain ⟨size, up, down⟩ := ih
    obtain ⟨size', up', down'⟩ := rampStep_eq c ((rampStep c)^[n] v)
    rw [Function.iterate_succ_apply']
    exact ⟨by rw [size', size, Nat.sub_sub, Nat.add_one_mul n], up' ∘ up, down' ∘ down⟩

/-- Settles O29, step by step of the chain, and by induction on the frames of the ramp. -/
theorem limitChainAndRampBoundTheMove : Obligations.LimitChainAndRampBoundTheMove := by
  refine ⟨fun c out v cand f order low high => ?_, fun c v n positive => ?_⟩
  · have inside := inLimits_iff.mpr ⟨low, high⟩
    intro x v2 v3 v4
    have chain : x = softStep c out v4 { f with
        accel := decide (v2 ≠ cand - out), velocity := decide (v3 ≠ v2), band := decide (v4 ≠ v3) } := by
      simp only [x, v4, v3, v2, limitChain_eq, accelStep_eq, speedStep_eq, bandStep_eq]
    obtain ⟨limits, speed, accel⟩ := limitChain_bounds order inside v cand f
    obtain ⟨above, below⟩ := inLimits_iff.mp limits
    have position : x.p = max c.softMin (min c.softMax (out + v4)) := by rw [chain, softStep_p order]
    have accelerated : x.flags.accel = decide ((cand - out - v).natAbs > c.amax) := by
      rw [chain, show v2 = accelStep c v (cand - out) from (accelStep_eq c v _).symm]
      exact decide_eq_decide.mpr accelStep_ne_iff
    have banded : v4 = bandStep c out v3 := (bandStep_eq c out v3).symm
    refine ⟨position, by rw [chain]; rfl, by rw [chain]; rfl, by rw [chain]; rfl, above, below, speed, accel, accelerated,
      by rw [chain]; rfl, by rw [chain]; rfl, by rw [chain]; rfl, by rw [chain]; rfl, ?_, fun some => ?_, fun some => ?_⟩
    · intro noAccel noVelocity noBand noSoft
      rw [chain] at noAccel noVelocity noBand noSoft ⊢
      simp only [softStep, ne_eq, decide_not, Bool.not_eq_false', decide_eq_true_eq] at noAccel noVelocity noBand noSoft ⊢
      omega
    · rw [chain, banded]
      exact (softStep_band order inside some).1
    · rw [chain, banded]
      exact (softStep_band order inside some).2
  · obtain ⟨size, up, down⟩ := ramp_iterate c v n
    refine ⟨size, up, down, ?_⟩
    rw [← Int.natAbs_eq_zero, size, Nat.sub_eq_zero_iff_le, Nat.div_le_iff_le_mul_add_pred (by omega), Nat.mul_comm n]
    omega

end Sys2Proof.Machine
end

section
/-! The notices of the Limit Stage (R64, R66), its zone hold (R63), and what a whole output frame makes of each axis (R49, R52,
R55, R65, R66): obligations O31 and O30. -/

set_option Elab.async false

namespace Sys2Proof.Machine

/-! ### The ZONE notices (R64) -/

theorem limitStage_eq (cand : Fin 8 → Int) (f : Fin 8 → ClampFlags) (s : State) : limitStage cand f s =
    allHeldIf (allAxes.any fun i =>
        decide ((s.axis i).state = .stopping) && decide (((s.settled cand f).axis i).state = .held))
      (zoneNotices s (s.checkPoint fun i => (s.axis i).propose (cand i) (f i)) (s.settled cand f)) := rfl

/-- The ZONE notices of a list of zones, one after the other. -/
def zoneRaises (q : Point) (l : List (Fin 8)) (s : State) : State :=
  l.foldl (fun t i => raise (.zone i q.swing q.lift q.reach q.track) t) s

theorem zoneNotices_eq (s : State) (q : Point) (t : State) : zoneNotices s q t =
    zoneRaises q (allAxes.filter fun i => !(s.zone i).holding && (t.zone i).holding) t := rfl

theorem zoneRaises_append (q : Point) (l : List (Fin 8)) (i : Fin 8) (s : State) : zoneRaises q (l ++ [i]) s =
    raise (.zone i q.swing q.lift q.reach q.track) (zoneRaises q l s) := by
  simp [zoneRaises]

theorem zoneRaises_library (q : Point) (l : List (Fin 8)) (s : State) : SameButLibrary s (zoneRaises q l s) := by
  induction l using List.reverseRecOn with
  | nil => exact .refl s
  | append_singleton l i ih =>
    rw [zoneRaises_append]
    exact ih.trans (raise_library _ _)

theorem zoneRaises_other {c : NoticeClass} (h : c ≠ .zone) (q : Point) (l : List (Fin 8)) (s : State) :
    (zoneRaises q l s).noticeSlot c = s.noticeSlot c := by
  induction l using List.reverseRecOn with
  | nil => rfl
  | append_singleton l i ih => rw [zoneRaises_append, raise_noticeSlot_other h, ih]

/-- The last zone's detail is left, and more than one zone coalesces the class (R64, R187). -/
theorem zoneRaises_zone {q : Point} {l : List (Fin 8)} {j : Fin 8} (last : l.getLast? = some j) (s : State) :
    (zoneRaises q l s).noticeSlot .zone = { s.noticeSlot .zone with
      pending := true,
      coalesced := (s.noticeSlot .zone).coalesced || (s.noticeSlot .zone).pending || decide (1 < l.length),
      detail := some { frame := s.timer.number, detail := .zone j q.swing q.lift q.reach q.track } } := by
  induction l using List.reverseRecOn generalizing j with
  | nil => cases last
  | append_singleton l i ih =>
    obtain rfl : i = j := by simpa using last
    have raised := raise_noticeSlot_same (.zone i q.swing q.lift q.reach q.track) (zoneRaises q l s)
    rw [(zoneRaises_library q l s).timer] at raised
    rw [zoneRaises_append]
    refine raised.trans ?_
    change ((zoneRaises q l s).noticeSlot .zone).raised _ = _
    cases before : l.getLast? with
    | none =>
      obtain rfl := List.getLast?_eq_none_iff.mp before
      simp [zoneRaises, NoticeSlot.raised]
    | some k =>
      have nonempty : 0 < l.length := List.length_pos_iff.mpr fun e => by simp [e] at before
      simp [ih before, NoticeSlot.raised, nonempty]

/-- The zones whose HOLDING a check sets anew (R64). -/
def State.freshZones (s t : State) : List (Fin 8) := allAxes.filter fun j => !(s.zone j).holding && (t.zone j).holding

theorem allHeldIf_other {c : NoticeClass} (h : c ≠ .axis) (b : Bool) (s : State) :
    (allHeldIf b s).noticeSlot c = s.noticeSlot c := by
  unfold allHeldIf
  split
  · exact raise_noticeSlot_other h s
  · rfl

theorem limitStage_zoneNotice (cand : Fin 8 → Int) (f : Fin 8 → ClampFlags) (s : State) :
    (limitStage cand f s).noticeSlot .zone =
      (zoneRaises (s.checkPoint fun i => (s.axis i).propose (cand i) (f i)) (s.freshZones (limitStage cand f s))
        (s.settled cand f)).noticeSlot .zone := by
  have zone : (limitStage cand f s).zone = (s.settled cand f).zone := funext fun j => by
    rw [State.zone, (limitStage_library cand f s).zones, ← State.zone]
  rw [State.freshZones, zone, limitStage_eq, allHeldIf_other (by decide), zoneNotices_eq]

theorem settled_noticeSlot (cand : Fin 8 → Int) (f : Fin 8 → ClampFlags) (s : State) (c : NoticeClass) :
    (s.settled cand f).noticeSlot c = s.noticeSlot c := rfl

/-! ### The AXIS notice ALL_HELD (R66) -/

/-- From `s` to `t` an axis has come to rest, and none is STOPPING after it. -/
def State.ComesToRest (s t : State) : Prop :=
  (∃ i : Fin 8, (s.axis i).state = .stopping ∧ (t.axis i).state = .held) ∧ ∀ i : Fin 8, (t.axis i).state ≠ .stopping

theorem anyStopping_iff {s : State} : s.anyStopping = true ↔ ∃ i : Fin 8, (s.axis i).state = .stopping := by
  simp [State.anyStopping, anyAxis_iff]

theorem anyHeld_iff {s : State} : s.anyHeld = true ↔ ∃ i : Fin 8, (s.axis i).state = .held := by
  simp [State.anyHeld, anyAxis_iff]

theorem comesToRest_congr {s t u : State} (axis : t.axis = u.axis) : s.ComesToRest t ↔ s.ComesToRest u := by
  simp only [State.ComesToRest, axis]

theorem allHeldIf_comesToRest {s u : State} (rests : s.ComesToRest u) :
    allHeldIf (allAxes.any fun i => decide ((s.axis i).state = .stopping) && decide ((u.axis i).state = .held)) u =
      raise (.axis .allHeld none none) u := by
  obtain ⟨⟨i, stopping, held⟩, still⟩ := rests
  refine if_pos ?_
  simp only [Bool.and_eq_true, Bool.not_eq_true', ← Bool.not_eq_true, anyStopping_iff, anyHeld_iff, List.any_eq_true,
    mem_allAxes, true_and, decide_eq_true_eq, not_exists]
  exact ⟨⟨⟨i, stopping, held⟩, still⟩, i, held⟩

theorem allHeldIf_not_comesToRest {s u : State} (moves : ¬ s.ComesToRest u) :
    allHeldIf (allAxes.any fun i => decide ((s.axis i).state = .stopping) && decide ((u.axis i).state = .held)) u = u := by
  refine if_neg fun rests => moves ?_
  simp only [Bool.and_eq_true, Bool.not_eq_true', ← Bool.not_eq_true, anyStopping_iff, anyHeld_iff, List.any_eq_true,
    mem_allAxes, true_and, decide_eq_true_eq, not_exists] at rests
  exact rests.1

/-- The state after the ZONE notices, before ALL_HELD. -/
def State.zonesTold (s : State) (cand : Fin 8 → Int) (f : Fin 8 → ClampFlags) : State :=
  zoneNotices s (s.checkPoint fun i => (s.axis i).propose (cand i) (f i)) (s.settled cand f)

theorem zonesTold_library (cand : Fin 8 → Int) (f : Fin 8 → ClampFlags) (s : State) :
    SameButLibrary (s.settled cand f) (s.zonesTold cand f) := zoneNotices_library s _ _

theorem zonesTold_noticeSlot (cand : Fin 8 → Int) (f : Fin 8 → ClampFlags) (s : State) {c : NoticeClass} (h : c ≠ .zone) :
    (s.zonesTold cand f).noticeSlot c = s.noticeSlot c := by
  rw [State.zonesTold, zoneNotices_eq, zoneRaises_other h, settled_noticeSlot]

theorem limitStage_zonesTold (cand : Fin 8 → Int) (f : Fin 8 → ClampFlags) (s : State) : limitStage cand f s =
    allHeldIf (allAxes.any fun i => decide ((s.axis i).state = .stopping) && decide (((s.zonesTold cand f).axis i).state = .held))
      (s.zonesTold cand f) := by
  have axis : (s.zonesTold cand f).axis = (s.settled cand f).axis := funext (axis_of_axes (zonesTold_library cand f s).axes)
  rw [axis, limitStage_eq, State.zonesTold]

theorem limitStage_axis_zonesTold (cand : Fin 8 → Int) (f : Fin 8 → ClampFlags) (s : State) :
    (limitStage cand f s).axis = (s.zonesTold cand f).axis := by
  rw [limitStage_zonesTold]
  exact funext (axis_of_axes (allHeldIf_library _ _).axes)

/-- ALL_HELD, and nothing else, is raised for the AXIS class by the Limit Stage (R66). -/
theorem limitStage_allHeld {cand : Fin 8 → Int} {f : Fin 8 → ClampFlags} {s : State} (rests : s.ComesToRest (limitStage cand f s)) :
    (limitStage cand f s).noticeSlot .axis =
      (s.noticeSlot .axis).raised { frame := s.timer.number, detail := .axis .allHeld none none } := by
  rw [comesToRest_congr (limitStage_axis_zonesTold cand f s)] at rests
  have raised := raise_noticeSlot_same (.axis .allHeld none none) (s.zonesTold cand f)
  rw [(zonesTold_library cand f s).timer] at raised
  rw [limitStage_zonesTold, allHeldIf_comesToRest rests, ← zonesTold_noticeSlot cand f s (by decide : NoticeClass.axis ≠ .zone)]
  exact raised

theorem limitStage_not_allHeld {cand : Fin 8 → Int} {f : Fin 8 → ClampFlags} {s : State}
    (moves : ¬ s.ComesToRest (limitStage cand f s)) : (limitStage cand f s).noticeSlot .axis = s.noticeSlot .axis := by
  rw [comesToRest_congr (limitStage_axis_zonesTold cand f s)] at moves
  rw [limitStage_zonesTold, allHeldIf_not_comesToRest moves, zonesTold_noticeSlot cand f s (by decide)]

/-! ### Obligation O31 -/

/-- Settles O31: the last zone raised leaves its detail, ALL_HELD is raised when the crane comes to rest, and each axis takes the
proposal or is held by the zone check. -/
theorem zoneHoldStopsTheArm : Obligations.ZoneHoldStopsTheArm := by
  refine ⟨fun cand f s => ⟨fun fresh => ?_, fun j last => ?_⟩, fun cand f s => ⟨limitStage_allHeld, limitStage_not_allHeld⟩,
    fun cand f s i x proposed => ?_⟩
  · rw [limitStage_zoneNotice, State.freshZones, fresh]
    rfl
  · rw [limitStage_zoneNotice]
    exact zoneRaises_zone last _
  · have axis := limitStage_axis cand f s i
    rw [proposed] at axis
    obtain ⟨out, velocity, flags⟩ := limited_some (s.axis i) (s.holds cand f && geometric i) x
    rw [← axis] at out velocity flags
    refine ⟨fun geo moving inside => ?_, fun free => ?_, fun j => ?_, limitStage_outside⟩
    · have hold : (s.holds cand f && geometric i) = true := by simp [State.holds, geo, moving, inside]
      rw [hold, if_pos rfl] at out flags
      exact ⟨out, by rw [velocity, out, sub_self], flags⟩
    · have hold : (s.holds cand f && geometric i) = false := by
        rcases free with other | outside
        · simp [other]
        · simp [State.holds, outside]
      rw [hold] at out flags
      exact ⟨out, by rw [velocity, out]; rfl, flags⟩
    · rw [limitStage_zone, Zone.checked]

/-! ### What a frame makes of an axis -/

/-- A proposal never moves an axis by more than amax beyond the last move (R52, R65). -/
theorem propose_growth {a : Axis} {c : AxisConfig} {cand : Int} {f : ClampFlags} {x : Proposal} (u : a.Under c) (cfg : a.cfg = some c)
    (h : a.propose cand f = some x) : (x.p - a.out).natAbs ≤ a.vPrev.natAbs + c.amax := by
  have moving := propose_isSome h
  have inside := u.out (enabled_of_moving moving)
  have order := softMin_lt u.ok
  have state : a.state = .active ∨ a.state = .stopping := by simpa [Axis.moving] using moving
  rcases state with active | stopping
  · rw [propose_active cfg active] at h
    cases h
    exact (limitChain_bounds order inside a.vPrev cand f).2.2
  · rw [propose_stopping cfg stopping] at h
    cases h
    have ramped := (softStep_bounds order inside (rampStep c a.vPrev) { ClampFlags.none with stop := true }).2
    exact ramped.trans ((rampStep_natAbs c a.vPrev).trans (Nat.le_add_right _ _))

theorem propose_of_moving {a : Axis} {c : AxisConfig} (cfg : a.cfg = some c) (h : a.moving = true) (cand : Int) (f : ClampFlags) :
    ∃ x : Proposal, a.propose cand f = some x := by
  have state : a.state = .active ∨ a.state = .stopping := by simpa [Axis.moving] using h
  rcases state with active | stopping
  · exact ⟨_, propose_active cfg active cand f⟩
  · exact ⟨_, propose_stopping cfg stopping cand f⟩

theorem limited_none_state (a : Axis) (hold : Bool) : (a.limited hold none).state = a.state := by
  unfold Axis.limited
  simp only
  split <;> rfl

/-- An axis on its ramp is HELD exactly when it did not move (R66). -/
theorem limited_stopping {a : Axis} (h : a.state = .stopping) (hold : Bool) (x : Proposal) :
    (a.limited hold (some x)).state = if (a.limited hold (some x)).out = a.out then .held else .stopping := by
  cases hold <;> simp [Axis.limited, Axis.settle, h]

theorem blendAndLimit_state (s : State) (i : Fin 8) : ((blendAndLimit s).axis i).state =
    (({ s.axis i with blend := s.blended i } : Axis).limited (s.heldAt i)
      ((s.axis i).propose (s.candidate i) (s.handedFlags i))).state := by
  rw [blendAndLimit_axis]
  split <;> rfl

theorem blendAndLimit_state_still {s : State} {i : Fin 8} (h : (s.axis i).moving = false) :
    ((blendAndLimit s).axis i).state = (s.axis i).state := by
  have resting : (s.axis i).propose (s.candidate i) (s.handedFlags i) = none := by
    cases proposed : (s.axis i).propose (s.candidate i) (s.handedFlags i) with
    | none => rfl
    | some x => rw [propose_isSome proposed] at h; cases h
  rw [blendAndLimit_state, resting, limited_none_state]

theorem blendAndLimit_stopping {s : State} {i : Fin 8} {c : AxisConfig} (cfg : (s.axis i).cfg = some c)
    (h : (s.axis i).state = .stopping) : ((blendAndLimit s).axis i).state =
      if ((blendAndLimit s).axis i).out = (s.axis i).out then .held else .stopping := by
  rw [blendAndLimit_state, blendAndLimit_out, propose_stopping cfg h]
  exact limited_stopping (a := { s.axis i with blend := s.blended i }) h _ _

/-- The moves of a frame: vmax, and amax beyond the last move (R52, R54, R65). -/
theorem frame_move_bounds (order : List Sink) (turns : PlayerTurns) {s : State} {i : Fin 8} {c : AxisConfig} (laws : (s.axis i).Laws)
    (cfg : (s.axis i).cfg = some c) (moving : (s.axis i).moving = true) :
    (((outputFrame order turns s).axis i).out - (s.axis i).out).natAbs ≤ c.vmax ∧
    (((outputFrame order turns s).axis i).out - (s.axis i).out).natAbs ≤ (s.axis i).vPrev.natAbs + c.amax := by
  have under := laws.under c cfg
  obtain ⟨x, proposed⟩ := propose_of_moving cfg moving ((s.asked turns).1.candidate i) ((s.asked turns).1.handedFlags i)
  obtain ⟨held, free, _⟩ := frame_moved order proposed
  by_cases hold : geometric i = true ∧ s.inEnabledZone (s.checkPoint fun j =>
      (s.axis j).propose ((s.asked turns).1.candidate j) ((s.asked turns).1.handedFlags j)) = true
  · rw [held hold, sub_self]
    exact ⟨Nat.zero_le _, Nat.zero_le _⟩
  · rw [free hold]
    exact ⟨(propose_bounds under cfg proposed).2.2, propose_growth under cfg proposed⟩

/-- An axis on its ramp carries STOP, and is HELD exactly when the frame left it where it was (R65, R66). -/
theorem frame_stopping (order : List Sink) (turns : PlayerTurns) {s : State} {i : Fin 8} {c : AxisConfig}
    (cfg : (s.axis i).cfg = some c) (stopping : (s.axis i).state = .stopping)
    (sound : ((outputFrame order turns s).axis i).state ≠ .fault) :
    (((outputFrame order turns s).axis i).state = .held ↔ ((outputFrame order turns s).axis i).out = (s.axis i).out) ∧
    ((outputFrame order turns s).axis i).flags.stop = true := by
  have rests := (publication_subsides order turns s).axes i
  have limited := blendAndLimit_stopping (s := (s.asked turns).1) (by rw [asked_axis, cfg]) ((asked_axis s turns i).symm ▸ stopping)
  rw [asked_axis, ← rests.out] at limited
  have state : ((outputFrame order turns s).axis i).state = ((blendAndLimit (s.asked turns).1).axis i).state :=
    rests.settled (by rw [limited]; split <;> decide) sound
  refine ⟨by rw [state, limited]; split <;> simp [*], ?_⟩
  obtain ⟨_, _, moved⟩ := frame_moved (turns := turns) order
    (propose_stopping cfg stopping ((s.asked turns).1.candidate i) ((s.asked turns).1.handedFlags i))
  obtain ⟨_, held, free⟩ := moved sound
  by_cases hold : geometric i = true ∧ s.inEnabledZone (s.checkPoint fun j =>
      (s.axis j).propose ((s.asked turns).1.candidate j) ((s.asked turns).1.handedFlags j)) = true
  · rw [held hold]
    rfl
  · rw [free hold]
    rfl

/-! ### The ALL_HELD notice of a frame (R66) -/

theorem trackStage_state (s : State) (i : Fin 8) : ((trackStage s).axis i).state = (s.axis i).state := by
  rw [trackStage_axis]
  split <;> rfl

theorem trackStage_noticeSlot (s : State) (c : NoticeClass) : (trackStage s).noticeSlot c = s.noticeSlot c := rfl

/-- The frame that brings the last STOPPING axis to rest, up to its publication. -/
theorem blendAndLimit_allHeld {s : State} (rests : s.ComesToRest (blendAndLimit s)) :
    ((blendAndLimit s).noticeSlot .axis).detail = some { frame := s.timer.number, detail := .axis .allHeld none none } := by
  obtain ⟨⟨i, stopping, held⟩, still⟩ := rests
  have before (j : Fin 8) : ((blendStage s).axis j).state = (s.axis j).state := by rw [blendStage_axis]
  rw [blendAndLimit, trackStage_state] at held
  have limited : (blendStage s).ComesToRest (limitStage s.candidate s.handedFlags (blendStage s)) :=
    ⟨⟨i, (before i).trans stopping, held⟩, fun j => trackStage_state _ j ▸ still j⟩
  rw [blendAndLimit, trackStage_noticeSlot, limitStage_allHeld limited, (blendStage_players s).1.timer]
  rfl

/-- Without a drive fault in the frame, it comes to rest before its publication if it does at all (R66, R183). -/
theorem frame_comesToRest {order : List Sink} {turns : PlayerTurns} {s : State} (rests : s.ComesToRest (outputFrame order turns s))
    (faults : ∀ j : Fin 8, ((outputFrame order turns s).axis j).state = .fault → (s.axis j).state = .fault) :
    (s.asked turns).1.ComesToRest (blendAndLimit (s.asked turns).1) := by
  have abates := (publication_subsides order turns s).axes
  obtain ⟨⟨i, stopping, held⟩, still⟩ := rests
  refine ⟨⟨i, (asked_axis s turns i).symm ▸ stopping, ?_⟩, fun j moving => ?_⟩
  · rcases (abates i).state with same | ⟨_, other⟩ | ⟨_, other⟩
    · rw [← same, held]
    · cases held.symm.trans other
    · cases held.symm.trans other
  · by_cases sound : ((outputFrame order turns s).axis j).state = .fault
    · have fault : ((s.asked turns).1.axis j).state = .fault := by rw [asked_axis, faults j sound]
      rw [blendAndLimit_state_still (by simp [Axis.moving, fault]), fault] at moving
      cases moving
    · exact still j (((abates j).settled (by simp [moving]) sound).trans moving)

theorem frame_allHeld {order : List Sink} {turns : PlayerTurns} {s : State} (rests : s.ComesToRest (outputFrame order turns s))
    (faults : ∀ j : Fin 8, ((outputFrame order turns s).axis j).state = .fault → (s.axis j).state = .fault) :
    ((outputFrame order turns s).noticeSlot .axis).detail =
      some { frame := (s.timer.number + 1) % 4294967296, detail := .axis .allHeld none none } := by
  have old (j : Fin 8) (fault : ((outputFrame order turns s).axis j).state = .fault) :
      ((blendAndLimit (s.asked turns).1).axis j).state = .fault := by
    have before : ((s.asked turns).1.axis j).state = .fault := by rw [asked_axis, faults j fault]
    rw [blendAndLimit_state_still (by simp [Axis.moving, before]), before]
  rw [(publication_subsides order turns s).told old, blendAndLimit_allHeld (frame_comesToRest rests faults),
    (asked_same s turns).timer]
  rfl

/-! ### Obligation O30 -/

/-- Settles O30: the bounds of a frame's move, the rest of an axis on its ramp, and the notice of the frame that holds the crane. -/
theorem outputFrameNeverJumps : Obligations.OutputFrameNeverJumps := by
  intro order turns s t i on lawful ran
  rw [exec_outputFrame on] at ran
  obtain rfl : pump (outputFrame order turns s) = t := by injection ran
  have axis := axis_of_axes (pump_traffic (outputFrame order turns s)).axes
  have laws := (axesLawful_iff.mp lawful).2
  simp only [axis, pump_detail]
  refine ⟨fun c cfg => frame_move_bounds order turns (laws i) cfg, frame_out_still order turns, fun stopping => ?_,
    fun stopping held still => frame_allHeld ⟨⟨i, stopping, held⟩, still⟩⟩
  obtain ⟨c, cfg⟩ := (laws i).cfg_of_enabled (enabled_iff.mpr (.inr (.inl stopping)))
  exact frame_stopping order turns cfg stopping

end Sys2Proof.Machine
end

section
/-! The stop cascade (R70): obligation O34. -/

set_option Elab.async false

namespace Sys2Proof.Machine

/-! ### PAUSE at both players -/

theorem pauseEffect_player_same (p : PlayerId) (s : State) : (pauseEffect p s).player p =
    if (s.player p).state = .running ∨ (s.player p).state = .starved then { s.player p with state := .paused } else s.player p := by
  unfold pauseEffect
  simp only
  split
  · exact setPlayer_player_same s p _
  · rfl

theorem pauseEffect_player_other {p q : PlayerId} (h : q ≠ p) (s : State) : (pauseEffect p s).player q = s.player q := by
  unfold pauseEffect
  simp only
  split
  · exact setPlayer_player_other s p q _ h
  · rfl

theorem pausePlayers_player (p : PlayerId) (s : State) : (pausePlayers s).player p =
    if (s.player p).state = .running ∨ (s.player p).state = .starved then { s.player p with state := .paused } else s.player p := by
  unfold pausePlayers
  cases p with
  | a => rw [pauseEffect_player_other (by decide), pauseEffect_player_same]
  | b => rw [pauseEffect_player_same, pauseEffect_player_other (by decide)]

theorem pauseEffect_elsewhere (p : PlayerId) (s : State) : SameElsewhere s (pauseEffect p s) := by
  unfold pauseEffect
  simp only
  split
  · cases p <;> exact {}
  · exact {}

theorem cueStopped_elsewhere (s : State) : SameElsewhere s (cueStopped s) := by
  unfold cueStopped
  split <;> exact {}

/-! ### The cascade -/

/-- The blend records cut, with the arrivals that sends: steps 1 and 2 of the cascade (R70). -/
def State.cut (s : State) : State := withClears s (s.mapAxes fun _ a => a.cascaded)

theorem cascade_eq (s : State) : cascade s = cueStopped (pausePlayers s.cut) := rfl

theorem cascade_axes (s : State) : (cascade s).axes = s.cut.axes :=
  (cueStopped_aside _).axes.trans (pausePlayers_players _).axes

theorem cascade_axis (s : State) (i : Fin 8) : (cascade s).axis i = (s.axis i).cascaded := by
  rw [axis_of_axes (cascade_axes s), State.cut, withClears_axis, mapAxes_axis]

theorem cascade_player (s : State) (p : PlayerId) : (cascade s).player p =
    if (s.cut.player p).state = .running ∨ (s.cut.player p).state = .starved then { s.cut.player p with state := .paused }
    else s.cut.player p := by
  rw [cascade_eq, ← pausePlayers_player]
  exact player_of (cueStopped_aside _).playerA (cueStopped_aside _).playerB p

theorem cut_player_kept {s : State} {p : PlayerId} (h : (s.player p).state ≠ .releasing) : s.cut.player p = s.player p :=
  (withClears_arrivals (mapAxes_player _ s p)).2 (.inl h)

theorem cut_player_cleared {s : State} {p : PlayerId} (releasing : (s.player p).state = .releasing) (named : s.refCount p ≠ 0)
    (unnamed : s.cut.refCount p = 0) : (s.cut.player p).state = .idle :=
  (withClears_arrivals (mapAxes_player _ s p)).1 releasing named unnamed

theorem cascade_cue (s : State) : (cascade s).cue = if s.cue.state = .running ∨ s.cue.state = .waiting then
    { s.cue with
      state := .halted, haltCause := some .stopped, haltCode := none, haltAxis := none, remaining := none,
      triggerMet := false, pastEnd := false }
    else s.cue := by
  have before : (pausePlayers s.cut).cue = s.cue := (pausePlayers_players _).cue.trans (withClears_players s _).cue
  rw [cascade_eq, cueStopped, before]
  split
  · rfl
  · exact before

theorem cascade_elsewhere (s : State) : SameElsewhere s (cascade s) := by
  have mapped : SameElsewhere s (s.mapAxes fun _ a => a.cascaded) := {}
  exact mapped.trans ((withClears_elsewhere s _).trans ((pauseEffect_elsewhere .a _).trans ((pauseEffect_elsewhere .b _).trans
    (cueStopped_elsewhere _))))

/-- Settles O34: the axes are cut, the arrivals that sends clear the players, and then the players and the cue stop. -/
theorem cascadeStopsTheCrane : Obligations.CascadeStopsTheCrane := by
  intro s
  have elsewhere := cascade_elsewhere s
  have motion := cascade_motion s
  refine ⟨fun i => ?_, fun p still => ?_, fun p releasing named unnamed => ?_, cascade_cue s, elsewhere.recorder, motion.stick,
    motion.timer, motion.zones, motion.stopLine, motion.marks, elsewhere.notices, elsewhere.log, elsewhere.link⟩
  · rw [cascade_axis]
    by_cases configured : (s.axis i).state = .unconfigured
    · simp [Axis.cascaded, Axis.configured, configured]
    · simp [Axis.cascaded, Axis.configured, configured, Blend.leaveActive, Blend.steadyOn]
  · rw [cascade_player, cut_player_kept still]
  · rw [refCount_of_axes (cascade_axes s)] at unnamed
    have idle := cut_player_cleared releasing named unnamed
    rw [cascade_player, idle]
    exact idle

end Sys2Proof.Machine
end

section
/-! The requests for the zones (R57 to R61), STOP_ALL, RESUME_ALL and the STOP line (R68, R69, R71): obligation O33. -/

set_option Elab.async false

namespace Sys2Proof.Machine

/-! ### Bounds of a zone (R57) -/

theorem boundOk_iff {x : WireBound} :
    boundOk x = true ↔ ∀ lo hi : Int, x = some (lo, hi) → lo ≤ hi ∧ posMin ≤ lo ∧ hi ≤ posMax := by
  rcases x with _ | ⟨lo, hi⟩
  · simp [boundOk]
  · simp only [boundOk, inPosRange, Bool.and_eq_true, decide_eq_true_eq, Option.some.injEq, Prod.mk.injEq]
    constructor
    · rintro ⟨⟨order, low, _⟩, _, high⟩ _ _ ⟨rfl, rfl⟩
      exact ⟨order, low, high⟩
    · intro h
      obtain ⟨order, low, high⟩ := h lo hi ⟨rfl, rfl⟩
      exact ⟨⟨order, low, order.trans high⟩, low.trans order, high⟩

theorem isDefined_iff {z : Zone} :
    z.isDefined = true ↔ z.swing ≠ none ∨ z.lift ≠ none ∨ z.reach ≠ none ∨ z.track ≠ none := by
  simp only [Zone.isDefined, Bool.or_eq_true, Option.isSome_iff_ne_none, or_assoc]

/-- The bounds of SET_ZONE pass (R57). -/
def zoneBoundsOk (z : Zone) (a b c d : WireBound) : Bool :=
  ({ z with swing := a, lift := b, reach := c, track := d } : Zone).isDefined && boundOk a && boundOk b && boundOk c && boundOk d

theorem zoneBoundsOk_iff {z : Zone} {a b c d : WireBound} : zoneBoundsOk z a b c d = true ↔
    (a ≠ none ∨ b ≠ none ∨ c ≠ none ∨ d ≠ none) ∧ ∀ x ∈ [a, b, c, d], boundOk x = true := by
  simp [zoneBoundsOk, isDefined_iff, and_assoc]

/-! ### The requests for a zone -/

section
variable {s : State} {i : Fin 8} {a b c d : WireBound} {n : Nat}

theorem exec_setZone_accepted (h : s.delivers = true) (off : (s.zone i).enabled = false) (ok : zoneBoundsOk (s.zone i) a b c d = true) :
    exec (.setZone i.val a b c d) s = accepted (.setZone i.val a b c d) s
      (s.setZone i { s.zone i with swing := a, lift := b, reach := c, track := d }) := by
  rw [exec, execSetZone]
  exact answered_accept h (by rw [indexOf?_val]; exact (if_neg (by simp [off])).trans (if_pos ok))

theorem exec_setZone_enabled (h : s.delivers = true) (on : (s.zone i).enabled = true) :
    exec (.setZone i.val a b c d) s = turnedAway (.setZone i.val a b c d) s .wrongState := by
  rw [exec, execSetZone]
  exact answered_refuse h (by simp [on])

theorem exec_setZone_bad (h : s.delivers = true) (off : (s.zone i).enabled = false) (bad : ¬ zoneBoundsOk (s.zone i) a b c d = true) :
    exec (.setZone i.val a b c d) s = turnedAway (.setZone i.val a b c d) s .badValue := by
  rw [exec, execSetZone]
  exact answered_refuse h (by rw [indexOf?_val]; exact (if_neg (by simp [off])).trans (if_neg bad))

theorem exec_clearZone_accepted (h : s.delivers = true) (off : (s.zone i).enabled = false) :
    exec (.clearZone i.val) s = accepted (.clearZone i.val) s
      (s.setZone i { s.zone i with swing := none, lift := none, reach := none, track := none }) := by
  rw [exec, execClearZone]
  exact answered_accept h (by simp [off])

theorem exec_clearZone_enabled (h : s.delivers = true) (on : (s.zone i).enabled = true) :
    exec (.clearZone i.val) s = turnedAway (.clearZone i.val) s .wrongState := by
  rw [exec, execClearZone]
  exact answered_refuse h (by simp [on])

theorem exec_zoneOn_undefined (h : s.delivers = true) (undefined : (s.zone i).isDefined = false) :
    exec (.zoneOn i.val) s = turnedAway (.zoneOn i.val) s .wrongState := by
  rw [exec, execZoneOn]
  exact answered_refuse h (by simp [undefined])

theorem exec_zoneOn_again (h : s.delivers = true) (defined : (s.zone i).isDefined = true) (on : (s.zone i).enabled = true) :
    exec (.zoneOn i.val) s = accepted (.zoneOn i.val) s s := by
  rw [exec, execZoneOn]
  exact answered_accept h (by simp [defined, on])

theorem exec_zoneOn_conflict (h : s.delivers = true) (defined : (s.zone i).isDefined = true) (off : (s.zone i).enabled = false)
    (inside : (s.zone i).contains s.outPoint = true) : exec (.zoneOn i.val) s = turnedAway (.zoneOn i.val) s .zoneConflict := by
  rw [exec, execZoneOn]
  exact answered_refuse h (by simp [defined, off, inside])

theorem exec_zoneOn_accepted (h : s.delivers = true) (defined : (s.zone i).isDefined = true) (off : (s.zone i).enabled = false)
    (outside : (s.zone i).contains s.outPoint = false) : exec (.zoneOn i.val) s =
      accepted (.zoneOn i.val) s (s.setZone i { s.zone i with enabled := true, holding := false }) := by
  rw [exec, execZoneOn]
  exact answered_accept h (by simp [defined, off, outside])

theorem exec_zoneOff (h : s.delivers = true) : exec (.zoneOff i.val) s =
    accepted (.zoneOff i.val) s (s.setZone i { s.zone i with enabled := false, holding := false }) := by
  rw [exec, execZoneOff]
  exact answered_accept h (by simp)

theorem exec_getZone (h : s.delivers = true) : exec (.getZone i.val) s = told (.getZone i.val) s (zoneFields (s.zone i)) := by
  rw [exec, execGetZone]
  exact answered_eq h (by simp)

/-- No zone has an index of 8 or more (R57). -/
theorem exec_zone_badIndex (h : s.delivers = true) (big : 8 ≤ n) :
    exec (.setZone n a b c d) s = turnedAway (.setZone n a b c d) s .badValue ∧
    exec (.clearZone n) s = turnedAway (.clearZone n) s .badValue ∧
    exec (.zoneOn n) s = turnedAway (.zoneOn n) s .badValue ∧ exec (.zoneOff n) s = turnedAway (.zoneOff n) s .badValue ∧
    exec (.getZone n) s = turnedAway (.getZone n) s .badValue := by
  have outside := indexOf?_none big
  rw [exec, execSetZone, exec, execClearZone, exec, execZoneOn, exec, execZoneOff, exec, execGetZone]
  exact ⟨answered_refuse h (by rw [outside]), answered_refuse h (by rw [outside]), answered_refuse h (by rw [outside]),
    answered_refuse h (by rw [outside]), answered_refuse h (by rw [outside])⟩

/-! ### STOP_ALL, RESUME_ALL and the STOP line -/

theorem exec_stopAll (h : s.delivers = true) : exec .stopAll s =
    delivered .stopAll s (cascade (raise (.axis .stopAll none none) s)) { code := .ok, fields := u8 s.stopLine.code } := by
  rw [exec, execStopAll]
  exact answered_delivers h

theorem exec_resumeAll_asserted (h : s.delivers = true) (line : s.stopLine = .asserted) : exec .resumeAll s =
    delivered .resumeAll s s { code := .wrongState, fields := [0#8, 0#8] } := by
  have fields : u8 StopLine.asserted.code ++ u8 0 = [0#8, 0#8] := by decide
  rw [exec, execResumeAll]
  exact answered_eq h (by rw [if_pos line, line, fields])

theorem exec_resumeAll_released (h : s.delivers = true) (line : s.stopLine = .released) : exec .resumeAll s =
    delivered .resumeAll s (s.mapAxes fun _ a => a.resumed) { code := .ok, fields := [1#8] ++ u8 s.heldCount } := by
  have code : u8 StopLine.released.code = [1#8] := by decide
  rw [exec, execResumeAll]
  exact answered_eq h (by rw [line, if_neg (by decide), code])

theorem exec_stopLineAssert_change (on : s.power.on = true) (line : s.stopLine = .released) : exec .stopLineAssert s =
    happened (cascade (raise (.axis .stopLineAsserted none none) { s with stopLine := .asserted })) := by
  rw [exec, execStopLineAssert]
  exact (event_on on).trans (congrArg happened (if_pos line))

theorem exec_stopLineAssert_same (on : s.power.on = true) (line : s.stopLine = .asserted) : exec .stopLineAssert s = happened s := by
  rw [exec, execStopLineAssert]
  exact (event_on on).trans (congrArg happened (if_neg (by rw [line]; decide)))

theorem exec_stopLineRelease_change (on : s.power.on = true) (line : s.stopLine = .asserted) : exec .stopLineRelease s =
    happened (raise (.axis .stopLineReleased none none) { s with stopLine := .released }) := by
  rw [exec, execStopLineRelease]
  exact (event_on on).trans (congrArg happened (if_pos line))

theorem exec_stopLineRelease_same (on : s.power.on = true) (line : s.stopLine = .released) : exec .stopLineRelease s = happened s := by
  rw [exec, execStopLineRelease]
  exact (event_on on).trans (congrArg happened (if_neg (by rw [line]; decide)))

end

/-- Settles O33: each request in its accepted and its refused forms. -/
theorem zoneAndStopRequestsComplete : Obligations.ZoneAndStopRequestsComplete := by
  refine ⟨fun s i a b c d h => ⟨fun off given fits => ?_, exec_setZone_enabled h, fun off noSwing noLift noReach noTrack => ?_,
      fun off out => ?_, exec_clearZone_accepted h, exec_clearZone_enabled h, exec_zoneOn_undefined h, exec_zoneOn_again h,
      exec_zoneOn_conflict h, exec_zoneOn_accepted h, exec_zoneOff h, exec_getZone h, fun n => exec_zone_badIndex h⟩,
    fun s => ⟨fun h => ⟨exec_stopAll h, exec_resumeAll_asserted h, fun line => ?_⟩,
      fun on => ⟨exec_stopLineAssert_change on,
        fun line => ⟨exec_stopLineAssert_same on line, exec_stopLineRelease_change on line⟩, exec_stopLineRelease_same on⟩⟩⟩
  · exact exec_setZone_accepted h off (zoneBoundsOk_iff.mpr ⟨given, fun x mem => boundOk_iff.mpr (fits x mem)⟩)
  · exact exec_setZone_bad h off fun ok => by simp [noSwing, noLift, noReach, noTrack] at ok ⊢; simpa using (zoneBoundsOk_iff.mp ok).1
  · obtain ⟨lo, hi, mem, out⟩ := out
    refine exec_setZone_bad h off fun ok => ?_
    obtain ⟨order, low, high⟩ := boundOk_iff.mp ((zoneBoundsOk_iff.mp ok).2 _ mem) lo hi rfl
    omega
  · exact ⟨_, exec_resumeAll_released h line, rfl, fun i => mapAxes_axis s _ i⟩

end Sys2Proof.Machine
end

section
/-! Loss of power (R98, R99): obligation O14. -/

set_option Elab.async false

namespace Sys2Proof.Machine

/-! ### A part without main power -/

theorem delivers_off {s : State} (h : s.power.on = false) : s.delivers = false := by
  simp [State.delivers, h]

theorem answered_idle {i : Instr} {act : State → State × Reply} {s : State} (h : s.delivers = false) :
    answered i act s = .next s := request_idle h

theorem query_idle {i : Instr} {fields : State → List Byte} {s : State} (h : s.delivers = false) : query i fields s = .next s :=
  answered_idle h

/-- A part without main power takes no command but POWER_ON and RETENTION_SUPPLY_LOSS (R98; log 8). -/
theorem exec_off {c : Instr} {s : State} (off : s.power.on = false) (supply : c ≠ .retentionSupplyLoss)
    (power : ∀ loop, c ≠ .powerOn loop) : exec c s = .next s := by
  have idle := delivers_off off
  cases c <;> rw [exec]
  case powerOn loop => exact absurd rfl (power loop)
  case retentionSupplyLoss => exact absurd rfl supply
  case mainPowerLoss => exact if_neg (by rw [off]; decide)
  case panelFrame | panelByte | panelGapTimeout | staleTimeout | outputFrame | recorderTimeLimit | waitFramesExpired | statusReportDue
      | keyAccessComplete | driveReply | consoleByte | consoleGapTimeout | requestFrame | transmitDone | stopLineAssert | stopLineRelease
      | fadeComplete | driveSilent => exact event_off off
  case putKeys | readKeys => exact request_idle idle
  case ident | getPanel | getFrame | getGeometry | listMoves | getRecorder | getCue | getTriggers | getNotices | readLog
      | getStatus => exact query_idle idle
  all_goals exact answered_idle idle

/-! ### The tables after a loss -/

section
variable (line : StopLine) (s : State)

@[simp] theorem resetVolatile_entry (m : MoveIx) : (resetVolatile line s).entry m = { s.entry m with users := 0 } := by
  simp [State.entry, resetVolatile]

@[simp] theorem resetVolatile_zone (i : Fin 8) :
    (resetVolatile line s).zone i = { s.zone i with enabled := false, holding := false } := by
  simp [State.zone, resetVolatile]

/-- The entries of a library just initialised hold no user. -/
theorem resetVolatile_initial_lib : (resetVolatile line (initialiseRetained s)).lib = Library.initial := by
  simp [resetVolatile, initialiseRetained, Library.initial, Entry.blank]

end

/-- Settles O14: no command but two is taken without power, and each loss keeps what is retained through it. -/
theorem powerLossKeepsRetainedTables : Obligations.PowerLossKeepsRetainedTables := by
  refine ⟨fun c s off supply power => exec_off off supply power, fun s => ⟨fun on => ⟨powerLost s, ?_, rfl, rfl, rfl, rfl, rfl, rfl, rfl,
    rfl, resetVolatile_entry _ _, resetVolatile_zone _ _, rfl, rfl, rfl, rfl, rfl, rfl, rfl, rfl, rfl, rfl, rfl, rfl, rfl, rfl, rfl⟩,
    ⟨{ powerLost (initialiseRetained s) with power := { on := false, monitorLoss := true, retentionLost := s.power.retentionLost } },
      rfl, rfl, resetVolatile_initial_lib s.stopLine s, fun i => ?_, fun k => ?_, fun k => ?_, fun e => ?_,
      rfl, rfl, rfl, rfl, rfl, rfl, rfl, rfl, rfl, rfl, rfl, rfl, rfl, rfl, rfl⟩⟩⟩
  · rw [exec]
    exact if_pos on
  · refine (resetVolatile_zone s.stopLine (initialiseRetained s) i).trans ?_
    simp [State.zone, initialiseRetained, Zone.blank]
  · simp [powerLost, resetVolatile, initialiseRetained]
  · simp [powerLost, resetVolatile, initialiseRetained]
  · simp [powerLost, resetVolatile, initialiseRetained, Trigger.blank]

end Sys2Proof.Machine
end

section
/-! Power-on and recovery (R99, R100, R101): obligation O12. -/

set_option Elab.async false

namespace Sys2Proof.Machine

/-! ### What a recovery may change at all -/

/-- A STORE notice, where there is one, is pending and bears the number of the latest frame (R187). -/
def State.StoreStamped (s : State) : Prop :=
  ∀ d : Stamped, (s.noticeSlot .store).detail = some d → (s.noticeSlot .store).pending = true ∧ d.frame = s.timer.number

/-- Nothing but the library and the STORE notice changes; the key store is kept, the free list grows at its tail, the bad set grows. -/
structure State.Recovers (s t : State) : Prop where
  keyStore : t.lib.keyStore = s.lib.keyStore
  freeList : s.lib.freeList <+: t.lib.freeList
  badSet : s.lib.badSet ⊆ t.lib.badSet
  rest : t = { s with lib := t.lib, notices := t.notices }
  multi : t.notices.multi = s.notices.multi
  others : ∀ c : NoticeClass, c ≠ .store → t.noticeSlot c = s.noticeSlot c
  enabled : (t.noticeSlot .store).enabled = (s.noticeSlot .store).enabled
  stamped : s.StoreStamped → t.StoreStamped

theorem State.Recovers.of_lib {s t : State} (keyStore : t.lib.keyStore = s.lib.keyStore) (freeList : s.lib.freeList <+: t.lib.freeList)
    (badSet : s.lib.badSet ⊆ t.lib.badSet) (rest : t = { s with lib := t.lib }) : s.Recovers t where
  keyStore := keyStore
  freeList := freeList
  badSet := badSet
  rest := by rw [rest]
  multi := by rw [rest]
  others := fun c _ => by rw [rest]; rfl
  enabled := by rw [rest]; rfl
  stamped := fun h => by rw [rest]; exact h

theorem State.Recovers.refl (s : State) : s.Recovers s := .of_lib rfl (List.prefix_refl _) (List.Subset.refl _) rfl

theorem State.Recovers.trans {s t u : State} (h : s.Recovers t) (k : t.Recovers u) : s.Recovers u where
  keyStore := k.keyStore.trans h.keyStore
  freeList := h.freeList.trans k.freeList
  badSet := List.Subset.trans h.badSet k.badSet
  rest := k.rest.trans (congrArg (fun x : State => { x with lib := u.lib, notices := u.notices }) h.rest)
  multi := k.multi.trans h.multi
  others := fun c other => (k.others c other).trans (h.others c other)
  enabled := k.enabled.trans h.enabled
  stamped := fun stamped => k.stamped (h.stamped stamped)

theorem State.Recovers.foldl {β : Type} {f : State → β → State} (h : ∀ (s : State) (b : β), s.Recovers (f s b)) (l : List β)
    (s : State) : s.Recovers (l.foldl f s) := by
  induction l generalizing s with
  | nil => exact .refl s
  | cons b t ih => exact (h s b).trans (ih _)

theorem setBlock_recovers (b : Nat) (e : BlockEntry) (s : State) : s.Recovers (s.setBlock b e) :=
  .of_lib rfl (List.prefix_refl _) (List.Subset.refl _) rfl

theorem setEntry_recovers (m : MoveIx) (e : Entry) (s : State) : s.Recovers (s.setEntry m e) :=
  .of_lib rfl (List.prefix_refl _) (List.Subset.refl _) rfl

theorem subset_addBad (b : Nat) (l : List Nat) : l ⊆ addBad b l := by
  induction l with
  | nil => exact List.nil_subset _
  | cons x t ih =>
    unfold addBad
    split
    · exact List.subset_cons_self b _
    · split
      · exact List.Subset.refl _
      · exact List.cons_subset_cons x ih

theorem releaseBlock_recovers (s : State) (b : Nat) : s.Recovers (releaseBlock s b) := by
  unfold releaseBlock
  split
  · exact .of_lib rfl (List.prefix_refl _) (subset_addBad b _) rfl
  · exact .of_lib rfl (List.prefix_append _ _) (List.Subset.refl _) rfl

theorem raise_storeRetired_recovers (m : MoveIx) (n : Nat) (s : State) : s.Recovers (raise (.storeRetired m n) s) where
  keyStore := rfl
  freeList := List.prefix_refl _
  badSet := List.Subset.refl _
  rest := rfl
  multi := rfl
  others := fun _ other => raise_noticeSlot_other other s
  enabled := (congrArg NoticeSlot.enabled (raise_noticeSlot_same (.storeRetired m n) s)).trans rfl
  stamped := fun _ d detail => by
    have raised : (raise (.storeRetired m n) s).noticeSlot .store = _ := raise_noticeSlot_same (.storeRetired m n) s
    rw [raised] at detail ⊢
    cases detail
    exact ⟨rfl, rfl⟩

theorem releaseBlocks_recovers (m : MoveIx) (bs : List Nat) (s : State) : s.Recovers (releaseBlocks m bs s) := by
  have released := State.Recovers.foldl releaseBlock_recovers bs s
  unfold releaseBlocks
  simp only
  split
  · exact released
  · exact released.trans (raise_storeRetired_recovers _ _ _)

theorem trimChain_recovers (m : MoveIx) (s : State) : s.Recovers (trimChain m s) := by
  unfold trimChain
  simp only
  refine .trans ?_ (setEntry_recovers _ _ _)
  split
  · exact (releaseBlocks_recovers _ _ _).trans (setBlock_recovers _ _ _)
  · exact releaseBlocks_recovers _ _ _

/-! ### The recovery of one entry -/

/-- No access is in progress or waits, and no transaction is open: the values after reset (R101). -/
structure State.AtRest (s : State) : Prop where
  port : s.port = KeyPort.idle
  txn : s.txn = none

theorem State.Recovers.atRest {s t : State} (h : s.Recovers t) (k : s.AtRest) : t.AtRest :=
  ⟨(congrArg State.port h.rest).trans k.port, (congrArg State.txn h.rest).trans k.txn⟩

theorem releaseServing_idle {s : State} (h : s.port = KeyPort.idle) (m : MoveIx) : releaseServing m s = s := by
  simp [releaseServing, h, KeyPort.idle]

theorem abandonTxn_none {s : State} (h : s.txn = none) (m : MoveIx) : abandonTxn m s = s := by
  simp [abandonTxn, h]

theorem emptyEntry_atRest {s : State} (h : s.AtRest) (m : MoveIx) :
    emptyEntry m s = (releaseBlocks m (s.chain (s.entry m)) s).setEntry m Entry.blank := by
  have released := ((releaseBlocks_recovers m (s.chain (s.entry m)) s).trans (setEntry_recovers m Entry.blank _)).atRest h
  unfold emptyEntry
  simp only
  rw [releaseServing_idle released.port, abandonTxn_none released.txn]

theorem recoverEntry_still {s : State} {m : MoveIx} (h : (s.entry m).state ≠ .writing) : recoverEntry s m = s := if_neg h

/-- The entry as the recovery leaves it, its chain trimmed: closed with TRUNCATED (R100). -/
def Entry.truncate (e : Entry) : Entry := { e with state := .ready, writer := none, flags := { e.flags with truncated := true } }

theorem recoverEntry_writing {s : State} {m : MoveIx} (rest : s.AtRest) (h : (s.entry m).state = .writing) : recoverEntry s m =
    if 2 ≤ ((trimChain m s).entry m).keys then (trimChain m s).setEntry m ((trimChain m s).entry m).truncate
    else (releaseBlocks m ((trimChain m s).chain ((trimChain m s).entry m)) (trimChain m s)).setEntry m Entry.blank := by
  rw [← emptyEntry_atRest ((trimChain_recovers m s).atRest rest)]
  exact if_pos h

theorem recoverEntry_recovers {s : State} (rest : s.AtRest) (m : MoveIx) : s.Recovers (recoverEntry s m) := by
  by_cases writing : (s.entry m).state = .writing
  · rw [recoverEntry_writing rest writing]
    split
    · exact (trimChain_recovers m s).trans (setEntry_recovers _ _ _)
    · exact (trimChain_recovers m s).trans ((releaseBlocks_recovers _ _ _).trans (setEntry_recovers _ _ _))
  · rw [recoverEntry_still writing]
    exact .refl s

/-! ### The directory -/

theorem releaseBlock_dir (s : State) (b : Nat) : (releaseBlock s b).lib.dir = s.lib.dir := by
  unfold releaseBlock
  split <;> rfl

theorem releaseBlocks_dir (m : MoveIx) (bs : List Nat) (s : State) : (releaseBlocks m bs s).lib.dir = s.lib.dir := by
  have released : ∀ u : State, (bs.foldl releaseBlock u).lib.dir = u.lib.dir := by
    induction bs with
    | nil => exact fun _ => rfl
    | cons b t ih => exact fun u => (ih _).trans (releaseBlock_dir u b)
  unfold releaseBlocks
  simp only
  split
  · exact released s
  · exact released s

theorem entry_of_dir {s t : State} (h : t.lib.dir = s.lib.dir) (m : MoveIx) : t.entry m = s.entry m := by
  rw [State.entry, h, ← State.entry]

/-- A recovered entry's record: only the ends of its chain are set anew. -/
theorem trimChain_entry_same (m : MoveIx) (s : State) : ∃ first last : Option Nat,
    (trimChain m s).entry m = { s.entry m with first := first, last := last } := ⟨_, _, setEntry_entry_same _ m _⟩

theorem trimChain_entry_other {m n : MoveIx} (h : n ≠ m) (s : State) : (trimChain m s).entry n = s.entry n := by
  unfold trimChain
  simp only
  rw [setEntry_entry_other _ _ _ _ h]
  split
  · exact entry_of_dir (releaseBlocks_dir _ _ _) n
  · exact entry_of_dir (releaseBlocks_dir _ _ _) n

theorem recoverEntry_entry_other {s : State} (rest : s.AtRest) {m n : MoveIx} (h : n ≠ m) :
    (recoverEntry s m).entry n = s.entry n := by
  by_cases writing : (s.entry m).state = .writing
  · rw [recoverEntry_writing rest writing]
    split
    · rw [setEntry_entry_other _ _ _ _ h, trimChain_entry_other h]
    · rw [setEntry_entry_other _ _ _ _ h, entry_of_dir (releaseBlocks_dir _ _ _), trimChain_entry_other h]
  · rw [recoverEntry_still writing]

/-- A recovered entry is READY or EMPTY, and has no more users than before (R100). -/
theorem recoverEntry_entry_same {s : State} (rest : s.AtRest) (m : MoveIx) :
    ((recoverEntry s m).entry m).state ≠ .writing ∧ ((recoverEntry s m).entry m).users ≤ (s.entry m).users := by
  by_cases writing : (s.entry m).state = .writing
  · rw [recoverEntry_writing rest writing]
    split
    · obtain ⟨first, last, trimmed⟩ := trimChain_entry_same m s
      rw [setEntry_entry_same, trimmed]
      exact ⟨by simp [Entry.truncate], Nat.le_refl _⟩
    · rw [setEntry_entry_same]
      exact ⟨by decide, Nat.zero_le _⟩
  · rw [recoverEntry_still writing]
    exact ⟨writing, Nat.le_refl _⟩

/-- An entry that is not WRITING is kept by the recovery of every entry. -/
theorem recoverEntry_entry_kept {s : State} (rest : s.AtRest) {n : MoveIx} (h : (s.entry n).state ≠ .writing) (m : MoveIx) :
    (recoverEntry s m).entry n = s.entry n := by
  by_cases same : n = m
  · rw [recoverEntry_still (same ▸ h)]
  · exact recoverEntry_entry_other rest same

/-! ### Recovery -/

theorem foldl_recoverEntry_recovers (l : List MoveIx) {s : State} (rest : s.AtRest) : s.Recovers (l.foldl recoverEntry s) := by
  induction l generalizing s with
  | nil => exact .refl s
  | cons m t ih =>
    have one := recoverEntry_recovers rest m
    exact one.trans (ih (one.atRest rest))

theorem recover_recovers {s : State} (rest : s.AtRest) : s.Recovers (recover s) := foldl_recoverEntry_recovers allMoves rest

theorem foldl_recoverEntry_kept (l : List MoveIx) {s : State} (rest : s.AtRest) {n : MoveIx} (h : (s.entry n).state ≠ .writing) :
    (l.foldl recoverEntry s).entry n = s.entry n := by
  induction l generalizing s with
  | nil => rfl
  | cons m t ih =>
    have kept := recoverEntry_entry_kept rest h m
    exact (ih ((recoverEntry_recovers rest m).atRest rest) (kept ▸ h)).trans kept

theorem foldl_recoverEntry_closes (l : List MoveIx) {s : State} (rest : s.AtRest) {n : MoveIx} (mem : n ∈ l) :
    ((l.foldl recoverEntry s).entry n).state ≠ .writing := by
  induction l generalizing s with
  | nil => cases mem
  | cons m t ih =>
    have next := (recoverEntry_recovers rest m).atRest rest
    rcases List.mem_cons.mp mem with rfl | later
    · have closed := (recoverEntry_entry_same rest n).1
      rw [List.foldl_cons, foldl_recoverEntry_kept t next closed]
      exact closed
    · exact ih next later

theorem foldl_recoverEntry_users (l : List MoveIx) {s : State} (rest : s.AtRest) (n : MoveIx) :
    ((l.foldl recoverEntry s).entry n).users ≤ (s.entry n).users := by
  induction l generalizing s with
  | nil => exact Nat.le_refl _
  | cons m t ih =>
    refine (ih ((recoverEntry_recovers rest m).atRest rest)).trans ?_
    by_cases same : n = m
    · exact same ▸ (recoverEntry_entry_same rest n).2
    · rw [recoverEntry_entry_other rest same]

/-- With no entry WRITING there is nothing to recover (R100). -/
theorem recover_still {s : State} (h : ∀ m : MoveIx, (s.entry m).state ≠ .writing) : recover s = s := by
  have all : ∀ l : List MoveIx, l.foldl recoverEntry s = s := fun l => by
    induction l with
    | nil => rfl
    | cons m t ih => rw [List.foldl_cons, recoverEntry_still (h m), ih]
  exact all allMoves

/-! ### The blocks a recovery touches -/

/-- Only blocks of `l` change, and those lose their link. -/
def State.Trims (l : List Nat) (s t : State) : Prop := ∀ b : Nat, t.block b = s.block b ∨ (b ∈ l ∧ (t.block b).link = none)

theorem State.Trims.refl (l : List Nat) (s : State) : s.Trims l s := fun _ => .inl rfl

theorem State.Trims.trans {l : List Nat} {s t u : State} (h : s.Trims l t) (k : t.Trims l u) : s.Trims l u := fun b => by
  rcases k b with same | cut
  · rw [same]
    exact h b
  · exact .inr cut

theorem State.Trims.mono {l l' : List Nat} {s t : State} (h : s.Trims l t) (k : l ⊆ l') : s.Trims l' t := fun b =>
  (h b).imp_right fun cut => ⟨k cut.1, cut.2⟩

theorem State.Trims.setEntry {l : List Nat} {s t : State} (h : s.Trims l t) (m : MoveIx) (e : Entry) : s.Trims l (t.setEntry m e) :=
  fun b => h b

theorem setBlock_block {s : State} (wf : s.lib.wf = true) (b c : Nat) (e : BlockEntry) :
    (s.setBlock b e).block c = if c = b then e else s.block c := by
  obtain ⟨_, blocks⟩ := (Library.wf_iff _).mp wf
  simp only [sparseWf, Bool.and_eq_true] at blocks
  exact sparseGet_set blocks.1

theorem setBlock_trims {s : State} (wf : s.lib.wf = true) {b : Nat} {e : BlockEntry} (link : e.link = none) : s.Trims [b] (s.setBlock b e) :=
  fun c => by
    rw [setBlock_block wf]
    split
    · next same => exact .inr ⟨List.mem_singleton.mpr same, link⟩
    · exact .inl rfl

theorem releaseBlock_trims {s : State} (wf : s.lib.wf = true) (b : Nat) : s.Trims [b] (releaseBlock s b) := by
  unfold releaseBlock
  split
  · exact setBlock_trims (e := { cls := .bad, link := none, suspect := true }) wf rfl
  · exact setBlock_trims (e := BlockEntry.blank) wf rfl

theorem releaseBlocks_trims {s : State} (wf : s.lib.wf = true) (m : MoveIx) (bs : List Nat) : s.Trims bs (releaseBlocks m bs s) := by
  have released : ∀ (l : List Nat) (u : State), u.lib.wf = true → u.Trims l (l.foldl releaseBlock u) := fun l => by
    induction l with
    | nil => exact fun u _ => .refl _ u
    | cons b t ih =>
      intro u canonical
      exact ((releaseBlock_trims canonical b).mono (by simp)).trans
        ((ih _ (releaseBlock_lib_wf b canonical)).mono (List.subset_cons_self b t))
  unfold releaseBlocks
  simp only
  split
  · exact released bs s wf
  · exact released bs s wf

theorem trimChain_trims {s : State} (wf : s.lib.wf = true) (m : MoveIx) : s.Trims (s.chain (s.entry m)) (trimChain m s) := by
  have released := (releaseBlocks_trims wf m ((s.chain (s.entry m)).drop (blocksFor (s.entry m).keys))).mono (List.drop_subset _ _)
  unfold trimChain
  simp only
  split
  · next b last =>
    have mem := List.take_subset _ _ (List.mem_of_getLast? last)
    exact released.trans ((setBlock_trims (b := b) (releaseBlocks_lib_wf m _ wf) rfl).mono (by simpa using mem))
  · exact released

/-- A chain along links that are kept or cut is a part of the old one. -/
theorem chainFrom_subset {old new : List (Nat × BlockEntry)} (n : Nat) {x : Option Nat} (h : ∀ b ∈ chainFrom old n x,
    sparseGet BlockEntry.blank new b = sparseGet BlockEntry.blank old b ∨ (sparseGet BlockEntry.blank new b).link = none) :
    chainFrom new n x ⊆ chainFrom old n x := by
  induction n generalizing x with
  | zero => exact List.Subset.refl _
  | succ n ih =>
    cases x with
    | none => exact List.Subset.refl _
    | some b =>
      simp only [chainFrom, List.mem_cons, forall_eq_or_imp] at h ⊢
      obtain ⟨here, later⟩ := h
      refine List.cons_subset_cons b ?_
      rcases here with same | cut
      · rw [same]
        exact ih later
      · rw [cut]
        cases n <;> exact List.nil_subset _

/-- A chain whose blocks are kept is kept. -/
theorem chainFrom_congr {old new : List (Nat × BlockEntry)} (n : Nat) {x : Option Nat} (h : ∀ b ∈ chainFrom old n x,
    sparseGet BlockEntry.blank new b = sparseGet BlockEntry.blank old b) : chainFrom new n x = chainFrom old n x := by
  induction n generalizing x with
  | zero => rfl
  | succ n ih =>
    cases x with
    | none => rfl
    | some b =>
      simp only [chainFrom, List.mem_cons, forall_eq_or_imp] at h ⊢
      rw [h.1, ih h.2]

theorem chain_subset {s t : State} {d e : Entry} (first : e.first = d.first)
    (h : ∀ b : Nat, t.block b = s.block b ∨ (t.block b).link = none) : t.chain e ⊆ s.chain d := by
  unfold State.chain
  rw [first]
  exact chainFrom_subset Config.blocks fun b _ => h b

theorem chain_congr {s t : State} {d e : Entry} (first : e.first = d.first) (h : ∀ b ∈ s.chain d, t.block b = s.block b) :
    t.chain e = s.chain d := by
  unfold State.chain
  rw [first]
  exact chainFrom_congr Config.blocks h

theorem chain_of_no_first (s : State) {e : Entry} (h : e.first = none) : s.chain e = [] := by
  simp [State.chain, h, Config.blocks, chainFrom]

theorem chain_head (s : State) (e : Entry) : (s.chain e).head? = e.first := by
  cases first : e.first <;> simp [State.chain, first, Config.blocks, chainFrom]

/-- A trimmed entry begins where it did, or nowhere. -/
theorem trimChain_first (m : MoveIx) (s : State) :
    ((trimChain m s).entry m).first = none ∨ ((trimChain m s).entry m).first = (s.entry m).first := by
  have trimmed : ((trimChain m s).entry m).first = ((s.chain (s.entry m)).take (blocksFor (s.entry m).keys)).head? :=
    congrArg Entry.first (setEntry_entry_same _ m _)
  rw [trimmed, ← chain_head s (s.entry m), List.head?_take]
  split
  · exact .inl rfl
  · exact .inr rfl

theorem trimChain_chain_subset {s : State} (wf : s.lib.wf = true) (m : MoveIx) :
    (trimChain m s).chain ((trimChain m s).entry m) ⊆ s.chain (s.entry m) := by
  rcases trimChain_first m s with gone | same
  · rw [chain_of_no_first _ gone]
    exact List.nil_subset _
  · exact chain_subset same fun b => (trimChain_trims wf m b).imp_right And.right

theorem trimChain_lib_wf {s : State} (wf : s.lib.wf = true) (m : MoveIx) : (trimChain m s).lib.wf = true := by
  have released := releaseBlocks_lib_wf m ((s.chain (s.entry m)).drop (blocksFor (s.entry m).keys)) wf
  unfold trimChain
  simp only
  split
  · exact setEntry_lib_wf _ _ (setBlock_lib_wf _ _ released)
  · exact setEntry_lib_wf _ _ released

theorem recoverEntry_lib_wf {s : State} (rest : s.AtRest) (wf : s.lib.wf = true) (m : MoveIx) : (recoverEntry s m).lib.wf = true := by
  by_cases writing : (s.entry m).state = .writing
  · rw [recoverEntry_writing rest writing]
    split
    · exact setEntry_lib_wf _ _ (trimChain_lib_wf wf m)
    · exact setEntry_lib_wf _ _ (releaseBlocks_lib_wf m _ (trimChain_lib_wf wf m))
  · rwa [recoverEntry_still writing]

theorem recoverEntry_trims {s : State} (rest : s.AtRest) (wf : s.lib.wf = true) (m : MoveIx) :
    s.Trims (s.chain (s.entry m)) (recoverEntry s m) := by
  by_cases writing : (s.entry m).state = .writing
  · have trimmed := trimChain_trims wf m
    rw [recoverEntry_writing rest writing]
    split
    · exact trimmed.setEntry _ _
    · exact (trimmed.trans ((releaseBlocks_trims (trimChain_lib_wf wf m) m _).mono (trimChain_chain_subset wf m))).setEntry _ _
  · rw [recoverEntry_still writing]
    exact .refl _ s

/-! ### The chains that a recovery keeps -/

/-- The chains of two entries share no block. -/
def State.Apart (s : State) (m n : MoveIx) : Prop := List.Disjoint (s.chain (s.entry m)) (s.chain (s.entry n))

/-- An entry whose chain shares no block with the one recovered keeps its blocks, and its chain with them. -/
theorem recoverEntry_apart {s : State} (rest : s.AtRest) (wf : s.lib.wf = true) {m n : MoveIx} (h : n ≠ m) (apart : s.Apart m n) :
    (recoverEntry s m).chain ((recoverEntry s m).entry n) = s.chain (s.entry n) ∧
    ∀ b ∈ s.chain (s.entry n), (recoverEntry s m).block b = s.block b := by
  have blocks : ∀ b ∈ s.chain (s.entry n), (recoverEntry s m).block b = s.block b := fun b mem =>
    (recoverEntry_trims rest wf m b).resolve_right fun cut => apart cut.1 mem
  refine ⟨chain_congr ?_ blocks, blocks⟩
  rw [recoverEntry_entry_other rest h]

/-- A chain that no WRITING entry shares a block with, and those of the WRITING entries apart from one another: recovered one by
one, they leave the chain and its blocks alone (R100). -/
theorem foldl_recoverEntry_chain {l : List MoveIx} (once : l.Nodup) {s : State} (rest : s.AtRest) (wf : s.lib.wf = true) {n : MoveIx}
    (idle : (s.entry n).state ≠ .writing) (apart : ∀ m ∈ l, ∀ k : MoveIx, k ∈ l ∨ k = n → m ≠ k → s.Apart m k) :
    (l.foldl recoverEntry s).chain ((l.foldl recoverEntry s).entry n) = s.chain (s.entry n) ∧
    ∀ b ∈ s.chain (s.entry n), (l.foldl recoverEntry s).block b = s.block b := by
  induction l generalizing s with
  | nil => exact ⟨rfl, fun _ _ => rfl⟩
  | cons m t ih =>
    obtain ⟨fresh, once⟩ := List.nodup_cons.mp once
    by_cases writing : (s.entry m).state = .writing
    · have other : n ≠ m := fun same => idle (same ▸ writing)
      have kept (k : MoveIx) (mem : k ∈ t ∨ k = n) : k ≠ m ∧
          (recoverEntry s m).chain ((recoverEntry s m).entry k) = s.chain (s.entry k) := by
        have ne : k ≠ m := by
          rcases mem with mem | rfl
          · exact fun same => fresh (same ▸ mem)
          · exact other
        exact ⟨ne, (recoverEntry_apart rest wf ne (apart m List.mem_cons_self k (mem.imp_left (List.mem_cons_of_mem m)) ne.symm)).1⟩
      obtain ⟨chain, blocks⟩ := ih once ((recoverEntry_recovers rest m).atRest rest) (recoverEntry_lib_wf rest wf m)
        (recoverEntry_entry_kept rest idle m ▸ idle) fun k mem j mem' ne => by
          rw [State.Apart, (kept k (.inl mem)).2, (kept j mem').2]
          exact apart k (List.mem_cons_of_mem m mem) j (mem'.imp_left (List.mem_cons_of_mem m)) ne
      obtain ⟨chain', blocks'⟩ := recoverEntry_apart rest wf other (apart m List.mem_cons_self n (.inr rfl) other.symm)
      rw [chain'] at chain blocks
      exact ⟨chain, fun b mem => (blocks b mem).trans (blocks' b mem)⟩
    · rw [List.foldl_cons, recoverEntry_still writing]
      exact ih once rest wf idle fun k mem j mem' =>
        apart k (List.mem_cons_of_mem m mem) j (mem'.imp_left (List.mem_cons_of_mem m))

/-- The law of the library keeps the chains of two entries apart (R76). -/
theorem apart_of_blocksLawful {s : State} (h : s.BlocksLawful) {m n : MoveIx} (ne : m ≠ n) : s.Apart m n := by
  have nodup : s.chains.Nodup := (h.once.nodup_iff.mpr List.nodup_range).of_append_right
  obtain ⟨_, disjoint⟩ := List.nodup_flatMap.mp nodup
  have symmetric : Std.Symm (Function.onFun List.Disjoint fun m : MoveIx => s.chain (s.entry m)) := ⟨fun _ _ apart => apart.symm⟩
  exact disjoint.forall (List.mem_finRange m) (List.mem_finRange n) ne

end Sys2Proof.Machine
end

section
/-! POWER_ON (R99, R101): obligation O12. -/

set_option Elab.async false

namespace Sys2Proof.Machine

/-! ### The state in which a recovery begins -/

/-- Power is applied, the monitor examined, and every block reset; the library is still to recover (R99, R101). -/
def State.atPowerOn (loop : LoopCurrent) (s : State) : State :=
  resetVolatile (stopLineRead loop) { (if s.power.monitorLoss then initialiseRetained s else s) with
    power := { on := true, monitorLoss := false, retentionLost := s.power.monitorLoss } }

theorem powerOn_eq (loop : LoopCurrent) (s : State) : powerOn loop s = recover (s.atPowerOn loop) := rfl

theorem exec_powerOn {s : State} (off : s.power.on = false) (loop : LoopCurrent) :
    exec (.powerOn loop) s = happened (powerOn loop s) := by
  rw [exec]
  exact if_neg (by rw [off]; decide)

section
variable {loop : LoopCurrent} {s : State}

theorem atPowerOn_lost (h : s.power.monitorLoss = true) : s.atPowerOn loop = resetVolatile (stopLineRead loop)
    (initialiseRetained { s with power := { on := true, monitorLoss := false, retentionLost := true } }) := by
  rw [State.atPowerOn, h]
  rfl

theorem atPowerOn_kept (h : s.power.monitorLoss = false) : s.atPowerOn loop = resetVolatile (stopLineRead loop)
    { s with power := { on := true, monitorLoss := false, retentionLost := false } } := by
  rw [State.atPowerOn, h]
  rfl

theorem atPowerOn_atRest (loop : LoopCurrent) (s : State) : (s.atPowerOn loop).AtRest := ⟨rfl, rfl⟩

theorem powerOn_recovers (loop : LoopCurrent) (s : State) : (s.atPowerOn loop).Recovers (powerOn loop s) :=
  recover_recovers (atPowerOn_atRest loop s)

theorem powerOn_lib (loop : LoopCurrent) (s : State) : powerOn loop s =
    { s.atPowerOn loop with lib := (powerOn loop s).lib, notices := (powerOn loop s).notices } := (powerOn_recovers loop s).rest

theorem powerOn_zone (loop : LoopCurrent) (s : State) (i : Fin 8) : (powerOn loop s).zone i = (s.atPowerOn loop).zone i := by
  rw [State.zone, powerOn_eq, (recover_library _).zones, ← State.zone]

theorem atPowerOn_entry_users (loop : LoopCurrent) (s : State) (m : MoveIx) : ((s.atPowerOn loop).entry m).users = 0 := by
  rw [State.atPowerOn, resetVolatile_entry]

theorem atPowerOn_entry (h : s.power.monitorLoss = false) (m : MoveIx) :
    (s.atPowerOn loop).entry m = { s.entry m with users := 0 } := by
  rw [atPowerOn_kept h, resetVolatile_entry]
  rfl

theorem atPowerOn_lost_lib (h : s.power.monitorLoss = true) : (s.atPowerOn loop).lib = Library.initial := by
  rw [atPowerOn_lost h, resetVolatile_initial_lib]

/-- With nothing WRITING, or everything lost, there is nothing to recover. -/
theorem powerOn_still (h : s.power.monitorLoss = true ∨ ∀ m : MoveIx, (s.entry m).state ≠ .writing) :
    powerOn loop s = s.atPowerOn loop := by
  refine recover_still (s := s.atPowerOn loop) fun m => ?_
  cases lost : s.power.monitorLoss with
  | true =>
    have blank : (s.atPowerOn loop).entry m = Entry.blank := by
      rw [State.entry, atPowerOn_lost_lib lost]
      simp [Library.initial]
    rw [blank]
    decide
  | false =>
    rw [atPowerOn_entry lost]
    exact h.resolve_left (by simp [lost]) m

/-! ### The notices -/

theorem atPowerOn_noticeSlot (loop : LoopCurrent) (s : State) (c : NoticeClass) : (s.atPowerOn loop).noticeSlot c =
    { enabled := decide (c ≠ .button), pending := false, coalesced := false, detail := none } := reset_noticeSlot c

/-- The notices that a recovery leaves bear frame number 0 (R187, R194). -/
theorem powerOn_stamped (loop : LoopCurrent) (s : State) {d : Stamped} (h : ((powerOn loop s).noticeSlot .store).detail = some d) :
    ((powerOn loop s).noticeSlot .store).pending = true ∧ d.frame = 0 := by
  have quiet : (s.atPowerOn loop).StoreStamped := fun d told => by
    rw [atPowerOn_noticeSlot] at told
    cases told
  obtain ⟨pending, frame⟩ := (powerOn_recovers loop s).stamped quiet d h
  refine ⟨pending, frame.trans ?_⟩
  rw [powerOn_lib]
  rfl

/-! ### The chains kept -/

theorem atPowerOn_chain (h : s.power.monitorLoss = false) (m : MoveIx) :
    (s.atPowerOn loop).chain ((s.atPowerOn loop).entry m) = s.chain (s.entry m) :=
  chain_congr (by rw [atPowerOn_entry h]) fun b _ => by rw [atPowerOn_kept h]; rfl

theorem powerOn_chain (kept : s.power.monitorLoss = false) (lawful : s.LibraryLawful) {m : MoveIx}
    (idle : (s.entry m).state ≠ .writing) :
    (powerOn loop s).chain ((powerOn loop s).entry m) = s.chain (s.entry m) ∧
    ∀ b ∈ s.chain (s.entry m), (powerOn loop s).block b = s.block b := by
  have canonical : (s.atPowerOn loop).lib.wf = true := by
    rw [atPowerOn_kept kept]
    exact Library.wf_of_eq (l := s.lib) rfl rfl lawful.canonical
  have block (b : Nat) : (s.atPowerOn loop).block b = s.block b := by
    rw [atPowerOn_kept kept]
    rfl
  have apart (k n : MoveIx) (ne : k ≠ n) : (s.atPowerOn loop).Apart k n := by
    rw [State.Apart, atPowerOn_chain kept, atPowerOn_chain kept]
    exact apart_of_blocksLawful lawful.blocks ne
  obtain ⟨chain, blocks⟩ := foldl_recoverEntry_chain (List.nodup_finRange 32) (atPowerOn_atRest loop s) canonical (n := m)
    (by rwa [atPowerOn_entry kept]) fun k _ n _ ne => apart k n ne
  rw [atPowerOn_chain kept] at chain blocks
  exact ⟨chain, fun b mem => (blocks b mem).trans (block b)⟩

end

/-- Settles O12: the part is reset with its tables kept or initialised, and the recovery then touches WRITING entries alone. -/
theorem powerOnResetsAndRetains : Obligations.PowerOnResetsAndRetains := by
  intro loop s off
  have rest := atPowerOn_atRest loop s
  have recovers := powerOn_recovers loop s
  refine ⟨powerOn loop s, exec_powerOn off loop, ?_, fun lost => ?_, fun kept => ?_, ?_, ⟨recovers.multi, ?_, fun c other => ?_,
    fun d => powerOn_stamped loop s, fun still => ?_⟩, fun m => ⟨?_, ?_⟩⟩
  case refine_1 => exact congrArg State.power (powerOn_lib loop s)
  case refine_2 =>
    rw [powerOn_still (.inl lost)]
    refine ⟨atPowerOn_lost_lib lost, fun i => ?_, fun k => ?_, fun k => ?_, fun e => ?_⟩ <;> rw [atPowerOn_lost lost]
    · rw [resetVolatile_zone]
      simp [State.zone, initialiseRetained, Zone.blank]
    · simp [resetVolatile, initialiseRetained]
    · simp [resetVolatile, initialiseRetained]
    · simp [resetVolatile, initialiseRetained, Trigger.blank]
  case refine_3 =>
    have before := atPowerOn_kept (loop := loop) kept
    refine ⟨?_, ?_, ?_, fun i => ?_, fun m idle => ?_, ?_, ?_, ?_, fun still => ?_, fun lawful m => powerOn_chain kept lawful⟩
    · rw [powerOn_lib, before]
      rfl
    · rw [powerOn_lib, before]
      rfl
    · rw [powerOn_lib, before]
      rfl
    · rw [powerOn_zone, before, resetVolatile_zone]
      rfl
    · rw [← atPowerOn_entry (loop := loop) kept]
      exact foldl_recoverEntry_kept allMoves rest (by rwa [atPowerOn_entry kept])
    · exact recovers.keyStore.trans (by rw [before]; rfl)
    · exact (congrArg (· <+: (powerOn loop s).lib.freeList) (by rw [before]; rfl)).mp recovers.freeList
    · exact (congrArg (· ⊆ (powerOn loop s).lib.badSet) (by rw [before]; rfl)).mp recovers.badSet
    · rw [powerOn_still (.inr still), before]
      exact ⟨rfl, rfl, rfl⟩
  case refine_4 =>
    rw [powerOn_lib]
    exact ⟨rfl, rfl, rfl, rfl, rfl, rfl, rfl, rfl, rfl, rfl, rfl, rfl, rfl, rfl⟩
  case refine_5 => rw [recovers.enabled, atPowerOn_noticeSlot]; rfl
  case refine_6 => rw [recovers.others c other, atPowerOn_noticeSlot]
  case refine_7 => rw [powerOn_still still]; rfl
  case refine_8 => exact foldl_recoverEntry_closes allMoves rest (List.mem_finRange m)
  case refine_9 =>
    exact Nat.le_zero.mp ((foldl_recoverEntry_users allMoves rest m).trans (atPowerOn_entry_users loop s m).le)

end Sys2Proof.Machine
end

section
/-! The tables of the Move Library after the writes of chapter 4: blocks and slots (R74, R76), the chain that a release empties or
an allocation prolongs (R80, R81), the free list and the bad set. -/

namespace Sys2Proof.Machine

/-! ### Slots (R74) -/

theorem setSlot_slot_addr {s : State} (wf : s.lib.wf = true) (b n c k : Nat) (x : Slot) :
    (s.setSlot b n x).slot c k = if slotAddr c k = slotAddr b n then x else s.slot c k := by
  obtain ⟨keys, _⟩ := (Library.wf_iff _).mp wf
  simp only [sparseWf, Bool.and_eq_true] at keys
  exact sparseGet_set keys.1

theorem slotAddr_inj {b n c k : Nat} (hn : n < 16) (hk : k < 16) (h : slotAddr c k = slotAddr b n) : c = b ∧ k = n := by
  simp only [slotAddr, Config.slots] at h
  omega

theorem setSlot_slot_other {s : State} (wf : s.lib.wf = true) {b n c k : Nat} (hn : n < 16) (hk : k < 16) (h : c ≠ b ∨ k ≠ n)
    (x : Slot) : (s.setSlot b n x).slot c k = s.slot c k := by
  rw [setSlot_slot_addr wf, if_neg fun same => ?_]
  obtain ⟨block, slot⟩ := slotAddr_inj hn hk same
  exact h.elim (· block) (· slot)

/-! ### The release of blocks (R81) -/

/-- The block map entry of a block that has left its chain. -/
def BlockEntry.released (e : BlockEntry) : BlockEntry :=
  if e.suspect then { cls := .bad, link := none, suspect := true } else BlockEntry.blank

theorem releaseBlock_block {s : State} (wf : s.lib.wf = true) (b c : Nat) :
    (releaseBlock s b).block c = if c = b then (s.block b).released else s.block c := by
  unfold releaseBlock BlockEntry.released
  split
  · exact setBlock_block wf b c { cls := .bad, link := none, suspect := true }
  · exact setBlock_block wf b c BlockEntry.blank

theorem releaseBlock_freeList (s : State) (b : Nat) :
    (releaseBlock s b).lib.freeList = s.lib.freeList ++ [b].filter fun b => !(s.block b).suspect := by
  unfold releaseBlock
  cases h : (s.block b).suspect <;> simp [h]

theorem mem_addBad {b c : Nat} {l : List Nat} : c ∈ addBad b l ↔ c = b ∨ c ∈ l := by
  induction l with
  | nil => simp [addBad]
  | cons x t ih =>
    unfold addBad
    split
    · simp
    · split
      · next same => simp [same]
      · simp only [List.mem_cons, ih]
        exact or_left_comm

theorem addBad_perm {b : Nat} {l : List Nat} (h : b ∉ l) : (addBad b l).Perm (b :: l) := by
  induction l with
  | nil => exact .refl _
  | cons x t ih =>
    obtain ⟨differ, later⟩ := not_or.mp (List.mem_cons.not.mp h)
    unfold addBad
    rw [if_neg differ]
    split
    · exact .refl _
    · exact ((ih later).cons x).trans (.swap b x t)

theorem releaseBlock_badSet (s : State) (b : Nat) :
    (releaseBlock s b).lib.badSet = if (s.block b).suspect then addBad b s.lib.badSet else s.lib.badSet := by
  unfold releaseBlock
  cases (s.block b).suspect <;> rfl

/-- A release of blocks, each once: every one is released as it stood before. -/
theorem foldl_releaseBlock_block {bs : List Nat} (once : bs.Nodup) {s : State} (wf : s.lib.wf = true) (c : Nat) :
    (bs.foldl releaseBlock s).block c = if c ∈ bs then (s.block c).released else s.block c := by
  induction bs generalizing s with
  | nil => rfl
  | cons b t ih =>
    obtain ⟨fresh, once⟩ := List.nodup_cons.mp once
    rw [List.foldl_cons, ih once (releaseBlock_lib_wf b wf), releaseBlock_block wf]
    by_cases same : c = b
    · simp [same, fresh]
    · simp [same]

/-- The blocks of a list that are suspect or not, as they were before another block was released. -/
theorem filter_releaseBlock {s : State} (wf : s.lib.wf = true) {b : Nat} {t : List Nat} (fresh : b ∉ t) (p : BlockEntry → Bool) :
    (t.filter fun c => p ((releaseBlock s b).block c)) = t.filter fun c => p (s.block c) :=
  List.filter_congr fun c mem => by rw [releaseBlock_block wf, if_neg fun same : c = b => fresh (same ▸ mem)]

theorem foldl_releaseBlock_freeList {bs : List Nat} (once : bs.Nodup) {s : State} (wf : s.lib.wf = true) :
    (bs.foldl releaseBlock s).lib.freeList = s.lib.freeList ++ bs.filter fun b => !(s.block b).suspect := by
  induction bs generalizing s with
  | nil => simp
  | cons b t ih =>
    obtain ⟨fresh, once⟩ := List.nodup_cons.mp once
    rw [List.foldl_cons, ih once (releaseBlock_lib_wf b wf), releaseBlock_freeList,
      filter_releaseBlock wf fresh fun e => !e.suspect, List.append_assoc, ← List.filter_append, List.singleton_append]

theorem mem_foldl_releaseBlock_badSet {bs : List Nat} (once : bs.Nodup) {s : State} (wf : s.lib.wf = true) {c : Nat} :
    c ∈ (bs.foldl releaseBlock s).lib.badSet ↔ c ∈ s.lib.badSet ∨ (c ∈ bs ∧ (s.block c).suspect = true) := by
  induction bs generalizing s with
  | nil => simp
  | cons b t ih =>
    obtain ⟨fresh, once⟩ := List.nodup_cons.mp once
    rw [List.foldl_cons, ih once (releaseBlock_lib_wf b wf), releaseBlock_badSet, releaseBlock_block wf, List.mem_cons]
    by_cases same : c = b
    · subst same
      cases h : (s.block c).suspect <;> simp [fresh, mem_addBad]
    · cases h : (s.block b).suspect <;> simp [same, mem_addBad]

theorem foldl_releaseBlock_badSet_perm {bs : List Nat} (once : bs.Nodup) {s : State} (wf : s.lib.wf = true)
    (sound : ∀ b ∈ bs, b ∉ s.lib.badSet) :
    (bs.foldl releaseBlock s).lib.badSet.Perm (s.lib.badSet ++ bs.filter fun b => (s.block b).suspect) := by
  induction bs generalizing s with
  | nil => simp
  | cons b t ih =>
    obtain ⟨fresh, once⟩ := List.nodup_cons.mp once
    have here : b ∉ s.lib.badSet := sound b List.mem_cons_self
    have later : ∀ c ∈ t, c ∉ (releaseBlock s b).lib.badSet := fun c mem => by
      have kept := sound c (List.mem_cons_of_mem b mem)
      rw [releaseBlock_badSet]
      split
      · exact mem_addBad.not.mpr (not_or.mpr ⟨fun same => fresh (same ▸ mem), kept⟩)
      · exact kept
    refine (ih once (releaseBlock_lib_wf b wf) later).trans ?_
    rw [filter_releaseBlock wf fresh fun e => e.suspect, releaseBlock_badSet, List.filter_cons]
    split
    · exact ((addBad_perm here).append_right _).trans List.perm_middle.symm
    · exact .refl _

theorem releaseBlocks_lib (m : MoveIx) (bs : List Nat) (s : State) : (releaseBlocks m bs s).lib = (bs.foldl releaseBlock s).lib := by
  unfold releaseBlocks
  simp only
  split <;> rfl

theorem releaseBlock_keyStore (s : State) (b : Nat) : (releaseBlock s b).lib.keyStore = s.lib.keyStore := by
  unfold releaseBlock
  split <;> rfl

section
variable (m : MoveIx) {bs : List Nat} {s : State}

theorem releaseBlocks_keyStore : (releaseBlocks m bs s).lib.keyStore = s.lib.keyStore := by
  rw [releaseBlocks_lib]
  induction bs generalizing s with
  | nil => rfl
  | cons b t ih => exact (ih (s := releaseBlock s b)).trans (releaseBlock_keyStore s b)

theorem releaseBlocks_entry (n : MoveIx) : (releaseBlocks m bs s).entry n = s.entry n := entry_of_dir (releaseBlocks_dir m bs s) n

theorem releaseBlocks_block (once : bs.Nodup) (wf : s.lib.wf = true) (c : Nat) :
    (releaseBlocks m bs s).block c = if c ∈ bs then (s.block c).released else s.block c := by
  rw [← foldl_releaseBlock_block once wf, State.block, releaseBlocks_lib, ← State.block]

theorem releaseBlocks_freeList (once : bs.Nodup) (wf : s.lib.wf = true) :
    (releaseBlocks m bs s).lib.freeList = s.lib.freeList ++ bs.filter fun b => !(s.block b).suspect := by
  rw [releaseBlocks_lib, foldl_releaseBlock_freeList once wf]

theorem mem_releaseBlocks_badSet (once : bs.Nodup) (wf : s.lib.wf = true) {c : Nat} :
    c ∈ (releaseBlocks m bs s).lib.badSet ↔ c ∈ s.lib.badSet ∨ (c ∈ bs ∧ (s.block c).suspect = true) := by
  rw [releaseBlocks_lib, mem_foldl_releaseBlock_badSet once wf]

theorem releaseBlocks_badSet_perm (once : bs.Nodup) (wf : s.lib.wf = true) (sound : ∀ b ∈ bs, b ∉ s.lib.badSet) :
    (releaseBlocks m bs s).lib.badSet.Perm (s.lib.badSet ++ bs.filter fun b => (s.block b).suspect) := by
  rw [releaseBlocks_lib]
  exact foldl_releaseBlock_badSet_perm once wf sound

end

/-! ### Chains -/

/-- A chain goes by the links alone. -/
theorem chainFrom_of_links {old new : List (Nat × BlockEntry)}
    (h : ∀ b : Nat, (sparseGet BlockEntry.blank new b).link = (sparseGet BlockEntry.blank old b).link) (n : Nat) (x : Option Nat) :
    chainFrom new n x = chainFrom old n x := by
  induction n generalizing x with
  | zero => rfl
  | succ n ih =>
    cases x with
    | none => rfl
    | some b => rw [chainFrom, chainFrom, h, ih]

theorem chainFrom_none (m : List (Nat × BlockEntry)) (n : Nat) : chainFrom m n none = [] := by cases n <;> rfl

/-- The block map links the block to the next one. -/
def LinksTo (m : List (Nat × BlockEntry)) (b c : Nat) : Prop := (sparseGet BlockEntry.blank m b).link = some c

theorem length_chainFrom_le (m : List (Nat × BlockEntry)) (n : Nat) (x : Option Nat) : (chainFrom m n x).length ≤ n := by
  induction n generalizing x with
  | zero => exact Nat.le_refl _
  | succ n ih =>
    cases x with
    | none => exact Nat.zero_le _
    | some b => exact Nat.succ_le_succ (ih _)

theorem chainFrom_head (m : List (Nat × BlockEntry)) {n : Nat} {x : Option Nat} {b : Nat} (h : (chainFrom m n x).head? = some b) :
    x = some b := by
  cases n with
  | zero => cases h
  | succ n =>
    cases x with
    | none => cases h
    | some c => exact h

/-- Each block of a chain is linked to the next. -/
theorem chainFrom_linked (m : List (Nat × BlockEntry)) (n : Nat) (x : Option Nat) : (chainFrom m n x).IsChain (LinksTo m) := by
  induction n generalizing x with
  | zero => exact .nil
  | succ n ih =>
    cases x with
    | none => exact .nil
    | some b => exact List.isChain_cons.mpr ⟨fun c next => chainFrom_head m next, ih _⟩

/-- Blocks linked one to the next, the last of them to none, are the chain that begins at the first. -/
theorem chainFrom_of_linked {m : List (Nat × BlockEntry)} {l : List Nat} {n : Nat} (linked : l.IsChain (LinksTo m))
    (ends : ∀ b : Nat, l.getLast? = some b → (sparseGet BlockEntry.blank m b).link = none) (short : l.length ≤ n) :
    chainFrom m n l.head? = l := by
  induction l generalizing n with
  | nil => exact chainFrom_none m n
  | cons b t ih =>
    obtain ⟨n, rfl⟩ : ∃ k, n = k + 1 := ⟨n - 1, by simp at short; omega⟩
    rw [List.head?_cons, chainFrom]
    congr 1
    cases t with
    | nil => rw [ends b rfl, chainFrom_none]
    | cons c t =>
      obtain ⟨next, linked⟩ := List.isChain_cons_cons.mp linked
      rw [show (sparseGet BlockEntry.blank m b).link = some c from next]
      exact ih linked ends (Nat.le_of_succ_le_succ short)

/-- Links kept but for that of the last block. -/
theorem linked_congr {old new : List (Nat × BlockEntry)} {l : List Nat} (once : l.Nodup)
    (kept : ∀ b ∈ l, l.getLast? ≠ some b → (sparseGet BlockEntry.blank new b).link = (sparseGet BlockEntry.blank old b).link)
    (linked : l.IsChain (LinksTo old)) : l.IsChain (LinksTo new) := by
  induction l with
  | nil => exact .nil
  | cons b t ih =>
    cases t with
    | nil => exact .singleton b
    | cons c t =>
      obtain ⟨fresh, once⟩ := List.nodup_cons.mp once
      obtain ⟨next, linked⟩ := List.isChain_cons_cons.mp linked
      have last : (b :: c :: t).getLast? = (c :: t).getLast? := rfl
      rw [last] at kept
      have link := kept b List.mem_cons_self fun same => fresh (List.mem_of_getLast? same)
      exact List.isChain_cons_cons.mpr ⟨link.trans next, ih once (fun d mem => kept d (List.mem_cons_of_mem b mem)) linked⟩

/-- The first blocks of a chain, cut after the last of them. -/
theorem chainFrom_cut {old new : List (Nat × BlockEntry)} {n : Nat} {x : Option Nat} {keep rest : List Nat}
    (chain : chainFrom old n x = keep ++ rest) (once : keep.Nodup)
    (kept : ∀ b ∈ keep, keep.getLast? ≠ some b → (sparseGet BlockEntry.blank new b).link = (sparseGet BlockEntry.blank old b).link)
    (cut : ∀ b : Nat, keep.getLast? = some b → (sparseGet BlockEntry.blank new b).link = none) :
    chainFrom new n keep.head? = keep := by
  have linked := chainFrom_linked old n x
  have short := length_chainFrom_le old n x
  rw [chain] at linked short
  refine chainFrom_of_linked (linked_congr once kept linked.left_of_append) cut ?_
  rw [List.length_append] at short
  omega

/-- A block linked after the last of a chain prolongs it, where the walk goes that far. -/
theorem chainFrom_append {old new : List (Nat × BlockEntry)} {n : Nat} {x : Option Nat} {chain : List Nat} {b : Nat}
    (walked : chainFrom old n x = chain) (short : chain.length < n) (once : chain.Nodup)
    (kept : ∀ c ∈ chain, chain.getLast? ≠ some c → (sparseGet BlockEntry.blank new c).link = (sparseGet BlockEntry.blank old c).link)
    (linked : ∀ c : Nat, chain.getLast? = some c → LinksTo new c b)
    (ends : (sparseGet BlockEntry.blank new b).link = none) : chainFrom new n (chain ++ [b]).head? = chain ++ [b] := by
  have before := chainFrom_linked old n x
  rw [walked] at before
  have joined : (chain ++ [b]).IsChain (LinksTo new) := List.isChain_append.mpr ⟨linked_congr once kept before, .singleton b, by
    simpa using linked⟩
  exact chainFrom_of_linked joined (by simpa using ends) (by simpa using short)

end Sys2Proof.Machine
end

section
/-! The laws of the Move Library's tables (R76 to R80), and what keeps them: a change that touches neither chains nor key times, a
release of the end of a chain, an allocation, and the storing of a key. -/

namespace Sys2Proof.Machine

/-! ### The tables of a lawful library -/

/-- The times of the keys of entry `m`: the part of `State.KeysLawful` that does not speak of the port. -/
structure State.KeyTimes (s : State) (m : MoveIx) : Prop where
  endTime : (s.entry m).endTime =
    if (s.entry m).keys = 0 then none else some (s.keyTime (s.entry m) ((s.entry m).keys - 1))
  first : 0 < (s.entry m).keys → s.keyTime (s.entry m) 0 = 0
  rising : ∀ i : Nat, i + 1 < (s.entry m).keys → s.keyTime (s.entry m) i < s.keyTime (s.entry m) (i + 1)

/-- The laws of the retained tables, but for the length of the chains. -/
structure State.TablesLawful (s : State) : Prop where
  canonical : s.lib.wf = true
  blocks : s.BlocksLawful
  empty : ∀ m : MoveIx, (s.entry m).state = .empty → (s.entry m).keys = 0
  times : ∀ m : MoveIx, s.KeyTimes m

theorem State.LibraryLawful.tables {s : State} (h : s.LibraryLawful) : s.TablesLawful where
  canonical := h.canonical
  blocks := h.blocks
  empty := fun m => (h.keys m).empty
  times := fun m => ⟨(h.keys m).endTime, (h.keys m).first, (h.keys m).rising⟩

/-- The blocks of all chains but that of entry `m`. -/
def State.otherChains (s : State) (m : MoveIx) : List Nat := (allMoves.erase m).flatMap fun n => s.chain (s.entry n)

theorem mem_allMoves (m : MoveIx) : m ∈ allMoves := List.mem_finRange m

theorem chains_perm (s : State) (m : MoveIx) : s.chains.Perm (s.chain (s.entry m) ++ s.otherChains m) :=
  (List.perm_cons_erase (mem_allMoves m)).flatMap_right _

theorem mem_chains {s : State} {b : Nat} : b ∈ s.chains ↔ ∃ m : MoveIx, b ∈ s.chain (s.entry m) := by
  simp [State.chains, mem_allMoves]

theorem mem_chains_of {s : State} {m : MoveIx} {b : Nat} (h : b ∈ s.chain (s.entry m)) : b ∈ s.chains := mem_chains.mpr ⟨m, h⟩

/-- The other chains are kept where each of them is. -/
theorem otherChains_congr {s t : State} {m : MoveIx} (h : ∀ n : MoveIx, n ≠ m → t.chain (t.entry n) = s.chain (s.entry n)) :
    t.otherChains m = s.otherChains m := by
  have members : ∀ n ∈ allMoves.erase m, n ≠ m := fun n mem => (List.nodup_finRange 32).mem_erase_iff.mp mem |>.1
  unfold State.otherChains
  rw [List.flatMap_def, List.flatMap_def, List.map_congr_left fun n mem => h n (members n mem)]

section
variable {s : State} (h : s.BlocksLawful)
include h

theorem State.BlocksLawful.nodup : (s.lib.freeList ++ s.lib.badSet ++ s.chains).Nodup := h.once.nodup_iff.mpr List.nodup_range

theorem State.BlocksLawful.chain_nodup (m : MoveIx) : (s.chain (s.entry m)).Nodup :=
  ((chains_perm s m).nodup_iff.mp h.nodup.of_append_right).of_append_left

theorem State.BlocksLawful.free_not_chained {b : Nat} (free : b ∈ s.lib.freeList) (m : MoveIx) : b ∉ s.chain (s.entry m) :=
  fun mem => List.disjoint_of_nodup_append h.nodup (List.mem_append_left _ free) (mem_chains_of mem)

theorem State.BlocksLawful.bad_not_chained {b : Nat} (bad : b ∈ s.lib.badSet) (m : MoveIx) : b ∉ s.chain (s.entry m) :=
  fun mem => List.disjoint_of_nodup_append h.nodup (List.mem_append_right _ bad) (mem_chains_of mem)

theorem State.BlocksLawful.free_not_bad {b : Nat} (free : b ∈ s.lib.freeList) : b ∉ s.lib.badSet :=
  fun bad => List.disjoint_of_nodup_append h.nodup.of_append_left free bad

theorem State.BlocksLawful.chains_apart {m n : MoveIx} (ne : m ≠ n) {b : Nat} (mem : b ∈ s.chain (s.entry m)) :
    b ∉ s.chain (s.entry n) := apart_of_blocksLawful h ne mem

/-- While a block is free, no chain has them all. -/
theorem State.BlocksLawful.chain_short {b : Nat} (free : b ∈ s.lib.freeList) (m : MoveIx) :
    (s.chain (s.entry m)).length < Config.blocks := by
  have all := h.once.length_eq
  have mine := (chains_perm s m).length_eq
  have some := List.length_pos_of_mem free
  simp only [List.length_append, List.length_range] at all mine
  omega

end

theorem keyTime_congr {s t : State} {d e : Entry} (h : ∀ b n : Nat, (t.slot b n).key.time = (s.slot b n).key.time) {i : Nat}
    (block : (t.chain e).getD (i / Config.slots) 0 = (s.chain d).getD (i / Config.slots) 0) : t.keyTime e i = s.keyTime d i := by
  rw [State.keyTime, State.keyTime, block, h]

/-- Key times kept one by one. -/
theorem State.KeyTimes.congr {s t : State} {m : MoveIx} (h : s.KeyTimes m) (keys : (t.entry m).keys = (s.entry m).keys)
    (endTime : (t.entry m).endTime = (s.entry m).endTime)
    (same : ∀ i < (s.entry m).keys, t.keyTime (t.entry m) i = s.keyTime (s.entry m) i) : t.KeyTimes m where
  endTime := by
    rw [endTime, keys, h.endTime]
    by_cases none : (s.entry m).keys = 0
    · rw [if_pos none, if_pos none]
    · rw [if_neg none, if_neg none, same _ (by omega)]
  first := fun some => by
    rw [keys] at some
    rw [same 0 some, h.first some]
  rising := fun i below => by
    rw [keys] at below
    rw [same i (by omega), same (i + 1) below]
    exact h.rising i below

/-! ### Changes of neither chains nor key times -/

/-- The chains, the free list, the bad set, the key counts and the key times are the same; no entry has become EMPTY. -/
structure State.SameTables (s t : State) : Prop where
  canonical : s.lib.wf = true → t.lib.wf = true
  freeList : t.lib.freeList = s.lib.freeList
  badSet : t.lib.badSet = s.lib.badSet
  cls : ∀ b : Nat, (t.block b).cls = (s.block b).cls
  link : ∀ b : Nat, (t.block b).link = (s.block b).link
  suspect : ∀ b : Nat, (s.block b).suspect = true → (t.block b).suspect = true
  time : ∀ b n : Nat, (t.slot b n).key.time = (s.slot b n).key.time
  first : ∀ m : MoveIx, (t.entry m).first = (s.entry m).first
  last : ∀ m : MoveIx, (t.entry m).last = (s.entry m).last
  keys : ∀ m : MoveIx, (t.entry m).keys = (s.entry m).keys
  endTime : ∀ m : MoveIx, (t.entry m).endTime = (s.entry m).endTime
  empty : ∀ m : MoveIx, (t.entry m).state = .empty → (s.entry m).state = .empty

theorem State.SameTables.trans {s t u : State} (h : s.SameTables t) (k : t.SameTables u) : s.SameTables u where
  canonical := k.canonical ∘ h.canonical
  freeList := k.freeList.trans h.freeList
  badSet := k.badSet.trans h.badSet
  cls := fun b => (k.cls b).trans (h.cls b)
  link := fun b => (k.link b).trans (h.link b)
  suspect := fun b => k.suspect b ∘ h.suspect b
  time := fun b n => (k.time b n).trans (h.time b n)
  first := fun m => (k.first m).trans (h.first m)
  last := fun m => (k.last m).trans (h.last m)
  keys := fun m => (k.keys m).trans (h.keys m)
  endTime := fun m => (k.endTime m).trans (h.endTime m)
  empty := fun m => h.empty m ∘ k.empty m

theorem State.SameTables.of_lib {s t : State} (h : t.lib = s.lib) : s.SameTables t := by
  have entry : ∀ m : MoveIx, t.entry m = s.entry m := fun m => entry_of_dir (congrArg Library.dir h) m
  have block : ∀ b : Nat, t.block b = s.block b := fun b => by rw [State.block, h, ← State.block]
  have slot : ∀ b n : Nat, t.slot b n = s.slot b n := fun b n => by rw [State.slot, h, ← State.slot]
  constructor <;> intros <;> simp_all

/-- An entry whose chain, key count and end time are kept. -/
theorem setEntry_sameTables {s : State} {m : MoveIx} {e : Entry} (first : e.first = (s.entry m).first)
    (last : e.last = (s.entry m).last) (keys : e.keys = (s.entry m).keys) (endTime : e.endTime = (s.entry m).endTime)
    (empty : e.state = .empty → (s.entry m).state = .empty) : s.SameTables (s.setEntry m e) := by
  have one : ∀ {β : Type} (g : Entry → β), g e = g (s.entry m) → ∀ n : MoveIx, g ((s.setEntry m e).entry n) = g (s.entry n) :=
    fun g same n => by
      by_cases here : n = m
      · rw [here, setEntry_entry_same, same]
      · rw [setEntry_entry_other _ _ _ _ here]
  refine ⟨id, rfl, rfl, fun _ => rfl, fun _ => rfl, fun _ => id, fun _ _ => rfl, one _ first, one _ last, one _ keys,
    one _ endTime, fun n now => ?_⟩
  by_cases here : n = m
  · rw [here] at now ⊢
    rw [setEntry_entry_same] at now
    exact empty now
  · rwa [setEntry_entry_other _ _ _ _ here] at now

section
variable {s t : State} (h : s.SameTables t)
include h

theorem State.SameTables.chain (m : MoveIx) : t.chain (t.entry m) = s.chain (s.entry m) := by
  unfold State.chain
  rw [h.first]
  exact chainFrom_of_links h.link _ _

theorem State.SameTables.chains : t.chains = s.chains := by
  unfold State.chains
  rw [funext h.chain]

theorem State.SameTables.blocksLawful (k : s.BlocksLawful) : t.BlocksLawful where
  once := by
    rw [h.freeList, h.badSet, h.chains]
    exact k.once
  free := fun b mem => by
    rw [h.freeList] at mem
    rw [h.cls, h.link]
    exact k.free b mem
  bad := fun b mem => by
    rw [h.badSet] at mem
    obtain ⟨cls, link, suspect⟩ := k.bad b mem
    rw [h.cls, h.link]
    exact ⟨cls, link, h.suspect b suspect⟩
  chained := fun b mem => by
    rw [h.chains] at mem
    rw [h.cls]
    exact k.chained b mem
  last := fun m => by
    rw [h.last, h.chain]
    exact k.last m
  ends := fun m b last => by
    rw [h.last] at last
    rw [h.link]
    exact k.ends m b last
  empty := fun m state => by
    rw [h.first]
    exact k.empty m (h.empty m state)

theorem State.SameTables.tablesLawful (k : s.TablesLawful) : t.TablesLawful where
  canonical := h.canonical k.canonical
  blocks := h.blocksLawful k.blocks
  empty := fun m state => by
    rw [h.keys]
    exact k.empty m (h.empty m state)
  times := fun m => (k.times m).congr (h.keys m) (h.endTime m) fun i _ => keyTime_congr h.time (by rw [h.chain m])

end

/-! ### The release of the end of a chain (R81, R100) -/

/-- The chain of entry `m` is cut to `keep`, and the blocks of `rest` are released. -/
structure State.Shortens (m : MoveIx) (keep rest : List Nat) (s t : State) : Prop where
  canonical : s.lib.wf = true → t.lib.wf = true
  chain : s.chain (s.entry m) = keep ++ rest
  freeList : t.lib.freeList = s.lib.freeList ++ rest.filter fun b => !(s.block b).suspect
  badSet : t.lib.badSet.Perm (s.lib.badSet ++ rest.filter fun b => (s.block b).suspect)
  released : ∀ b ∈ rest, t.block b = (s.block b).released
  cut : ∀ b : Nat, keep.getLast? = some b → t.block b = { s.block b with link := none }
  others : ∀ b : Nat, b ∉ rest → keep.getLast? ≠ some b → t.block b = s.block b
  first : (t.entry m).first = keep.head?
  last : (t.entry m).last = keep.getLast?
  entries : ∀ n : MoveIx, n ≠ m → t.entry n = s.entry n
  slots : ∀ b n : Nat, t.slot b n = s.slot b n

section
variable {m : MoveIx} {keep rest : List Nat} {s t : State} (h : s.Shortens m keep rest t) (k : s.BlocksLawful)
include h

/-- A block outside the chain is left alone. -/
theorem State.Shortens.outside {b : Nat} (out : b ∉ s.chain (s.entry m)) : t.block b = s.block b := by
  rw [h.chain] at out
  exact h.others b (fun mem => out (List.mem_append_right _ mem))
    fun last => out (List.mem_append_left _ (List.mem_of_getLast? last))

include k

theorem State.Shortens.once : (keep ++ rest).Nodup := h.chain ▸ k.chain_nodup m

theorem State.Shortens.apart {b : Nat} (mem : b ∈ rest) : b ∉ keep := fun kept =>
  List.disjoint_of_nodup_append (h.once k) kept mem

theorem State.Shortens.chain_other {n : MoveIx} (ne : n ≠ m) : t.chain (t.entry n) = s.chain (s.entry n) :=
  chain_congr (by rw [h.entries n ne]) fun _ mem => h.outside (k.chains_apart ne mem)

theorem State.Shortens.chain_same : t.chain (t.entry m) = keep := by
  unfold State.chain
  rw [h.first]
  refine chainFrom_cut h.chain (h.once k).of_append_left (fun b mem inner => ?_) fun b last => ?_
  · exact congrArg BlockEntry.link (h.others b (fun out => h.apart k out mem) inner)
  · exact congrArg BlockEntry.link (h.cut b last)

theorem State.Shortens.once_each : (t.lib.freeList ++ t.lib.badSet ++ t.chains).Perm (List.range Config.blocks) := by
  refine List.Perm.trans (List.perm_iff_count.mpr fun b => ?_) k.once
  have before := (chains_perm s m).count_eq b
  have after := (chains_perm t m).count_eq b
  have bad := h.badSet.count_eq b
  have split := (List.filter_append_perm (fun b => (s.block b).suspect) rest).count_eq b
  rw [h.chain] at before
  rw [h.chain_same k, otherChains_congr fun n => h.chain_other k] at after
  rw [h.freeList]
  simp only [List.count_append] at *
  omega

theorem State.Shortens.blocksLawful (empty : (t.entry m).state = .empty → keep = []) : t.BlocksLawful := by
  have mem_chain : ∀ {b : Nat}, b ∈ rest → b ∈ s.chain (s.entry m) := fun mem => h.chain ▸ List.mem_append_right _ mem
  have mem_keep : ∀ {b : Nat}, b ∈ keep → b ∈ s.chain (s.entry m) := fun mem => h.chain ▸ List.mem_append_left _ mem
  constructor
  case once => exact h.once_each k
  case free =>
    intro b mem
    rw [h.freeList, List.mem_append, List.mem_filter] at mem
    rcases mem with free | ⟨left, sound⟩
    · rw [h.outside (k.free_not_chained free m)]
      exact k.free b free
    · rw [h.released b left, BlockEntry.released, if_neg (by simpa using sound)]
      exact ⟨rfl, rfl⟩
  case bad =>
    intro b mem
    rw [h.badSet.mem_iff, List.mem_append, List.mem_filter] at mem
    rcases mem with bad | ⟨left, suspect⟩
    · rw [h.outside (k.bad_not_chained bad m)]
      exact k.bad b bad
    · rw [h.released b left, BlockEntry.released, if_pos suspect]
      exact ⟨rfl, rfl, rfl⟩
  case chained =>
    intro b mem
    obtain ⟨n, mem⟩ := mem_chains.mp mem
    by_cases here : n = m
    · subst here
      rw [h.chain_same k] at mem
      have cls := k.chained b (mem_chains_of (mem_keep mem))
      by_cases last : keep.getLast? = some b
      · rw [h.cut b last]
        exact cls
      · rw [h.others b (fun out => h.apart k out mem) last]
        exact cls
    · rw [h.chain_other k here] at mem
      rw [h.outside (k.chains_apart here mem)]
      exact k.chained b (mem_chains_of mem)
  case last =>
    intro n
    by_cases here : n = m
    · rw [here, h.last, h.chain_same k]
    · rw [h.entries n here, ← h.entries n here, h.chain_other k here, h.entries n here]
      exact k.last n
  case ends =>
    intro n b last
    by_cases here : n = m
    · rw [here, h.last] at last
      rw [h.cut b last]
    · rw [h.entries n here] at last
      have mem : b ∈ s.chain (s.entry n) := List.mem_of_getLast? ((k.last n).symm.trans last)
      rw [h.outside (k.chains_apart here mem)]
      exact k.ends n b last
  case empty =>
    intro n state
    by_cases here : n = m
    · rw [here] at state ⊢
      rw [h.first, empty state]
      rfl
    · rw [h.entries n here] at state ⊢
      exact k.empty n state

theorem State.Shortens.times_other {n : MoveIx} (ne : n ≠ m) (times : s.KeyTimes n) : t.KeyTimes n := by
  refine times.congr (by rw [h.entries n ne]) (by rw [h.entries n ne]) fun i _ => keyTime_congr (fun b j => by rw [h.slots]) ?_
  rw [h.chain_other k ne]

/-- The keys whose blocks are kept keep their times. -/
theorem State.Shortens.times_same (keys : (t.entry m).keys = (s.entry m).keys) (endTime : (t.entry m).endTime = (s.entry m).endTime)
    (room : ∀ i < (s.entry m).keys, i / Config.slots < keep.length) (times : s.KeyTimes m) : t.KeyTimes m := by
  refine times.congr keys endTime fun i below => keyTime_congr (fun b j => by rw [h.slots]) ?_
  rw [h.chain_same k, h.chain, List.getD_append _ _ _ _ (room i below)]

end

/-! ### Allocation (R80) -/

/-- The block at the head of the free list is linked after the last of entry `m`'s chain. -/
structure State.Prolongs (m : MoveIx) (b : Nat) (s t : State) : Prop where
  canonical : s.lib.wf = true → t.lib.wf = true
  freeList : s.lib.freeList = b :: t.lib.freeList
  badSet : t.lib.badSet = s.lib.badSet
  fresh : t.block b = { cls := .chained, link := none, suspect := false }
  linked : ∀ l : Nat, (s.entry m).last = some l → t.block l = { s.block l with link := some b }
  others : ∀ c : Nat, c ≠ b → (s.entry m).last ≠ some c → t.block c = s.block c
  same : t.entry m = { s.entry m with
    first := if (s.entry m).last = none then some b else (s.entry m).first, last := some b }
  entries : ∀ n : MoveIx, n ≠ m → t.entry n = s.entry n
  slots : ∀ b n : Nat, t.slot b n = s.slot b n

section
variable {m : MoveIx} {b : Nat} {s t : State} (h : s.Prolongs m b t) (k : s.BlocksLawful)
include h

theorem State.Prolongs.free : b ∈ s.lib.freeList := h.freeList ▸ List.mem_cons_self

include k

theorem State.Prolongs.outside {c : Nat} (ne : c ≠ b) (out : c ∉ s.chain (s.entry m)) : t.block c = s.block c :=
  h.others c ne fun last => out (List.mem_of_getLast? ((k.last m).symm.trans last))

theorem State.Prolongs.chain_other {n : MoveIx} (ne : n ≠ m) : t.chain (t.entry n) = s.chain (s.entry n) :=
  chain_congr (by rw [h.entries n ne]) fun _ mem =>
    h.outside k (fun same => k.free_not_chained h.free n (same ▸ mem)) (k.chains_apart ne mem)

theorem State.Prolongs.chain_same : t.chain (t.entry m) = s.chain (s.entry m) ++ [b] := by
  have head : (t.entry m).first = (s.chain (s.entry m) ++ [b]).head? := by
    rw [h.same, k.last m, List.head?_append, chain_head]
    cases first : (s.entry m).first with
    | none => simp [chain_of_no_first s first]
    | some c =>
      have some : s.chain (s.entry m) ≠ [] := fun none => by
        have := chain_head s (s.entry m)
        simp [none, first] at this
      simp [some]
  show chainFrom t.lib.blockMap Config.blocks (t.entry m).first = _
  rw [head]
  refine chainFrom_append rfl (k.chain_short h.free m) (k.chain_nodup m) (fun c mem inner => ?_) (fun c last => ?_) ?_
  · refine congrArg BlockEntry.link (h.others c (fun same => k.free_not_chained h.free m (same ▸ mem)) ?_)
    rw [k.last m]
    exact inner
  · exact congrArg BlockEntry.link (h.linked c ((k.last m).trans last))
  · exact congrArg BlockEntry.link h.fresh

theorem State.Prolongs.blocksLawful (open' : (s.entry m).state ≠ .empty) : t.BlocksLawful := by
  constructor
  case once =>
    refine List.Perm.trans (List.perm_iff_count.mpr fun c => ?_) k.once
    have before := (chains_perm s m).count_eq c
    have after := (chains_perm t m).count_eq c
    rw [h.chain_same k, otherChains_congr fun n => h.chain_other k] at after
    rw [h.freeList, h.badSet]
    simp only [List.count_append, List.count_cons, List.count_nil] at *
    omega
  case free =>
    intro c mem
    have free : c ∈ s.lib.freeList := h.freeList ▸ List.mem_cons_of_mem b mem
    have ne : c ≠ b := fun same => by
      have once := k.nodup.of_append_left.of_append_left
      rw [h.freeList, List.nodup_cons] at once
      exact once.1 (same ▸ mem)
    rw [h.outside k ne (k.free_not_chained free m)]
    exact k.free c free
  case bad =>
    intro c mem
    rw [h.badSet] at mem
    rw [h.outside k (fun same => k.free_not_bad h.free (same ▸ mem)) (k.bad_not_chained mem m)]
    exact k.bad c mem
  case chained =>
    intro c mem
    by_cases new : c = b
    · rw [new, h.fresh]
    · have old : c ∈ s.chains := by
        obtain ⟨n, mem⟩ := mem_chains.mp mem
        by_cases here : n = m
        · rw [here, h.chain_same k, List.mem_append, List.mem_singleton] at mem
          exact mem_chains_of (mem.resolve_right new)
        · rw [h.chain_other k here] at mem
          exact mem_chains_of mem
      by_cases last : (s.entry m).last = some c
      · rw [h.linked c last]
        exact k.chained c old
      · rw [h.others c new last]
        exact k.chained c old
  case last =>
    intro n
    by_cases here : n = m
    · rw [here, h.chain_same k, h.same, List.getLast?_concat]
    · rw [h.chain_other k here, h.entries n here]
      exact k.last n
  case ends =>
    intro n c last
    by_cases here : n = m
    · rw [here, h.same] at last
      cases last
      rw [h.fresh]
    · rw [h.entries n here] at last
      have mem : c ∈ s.chain (s.entry n) := List.mem_of_getLast? ((k.last n).symm.trans last)
      rw [h.outside k (fun same => k.free_not_chained h.free n (same ▸ mem)) (k.chains_apart here mem)]
      exact k.ends n c last
  case empty =>
    intro n state
    by_cases here : n = m
    · rw [here, h.same] at state
      exact absurd state open'
    · rw [h.entries n here] at state ⊢
      exact k.empty n state

end

/-- An allocation keeps the laws, where the chain has the blocks of the keys stored. -/
theorem State.Prolongs.tablesLawful {m : MoveIx} {b : Nat} {s t : State} (h : s.Prolongs m b t) (k : s.TablesLawful)
    (open' : (s.entry m).state ≠ .empty)
    (room : ∀ i < (s.entry m).keys, i / Config.slots < (s.chain (s.entry m)).length) : t.TablesLawful where
  canonical := h.canonical k.canonical
  blocks := h.blocksLawful k.blocks open'
  empty := fun n state => by
    by_cases here : n = m
    · rw [here, h.same] at state
      exact absurd state open'
    · rw [h.entries n here] at state ⊢
      exact k.empty n state
  times := fun n => by
    by_cases here : n = m
    · subst here
      refine (k.times n).congr (by rw [h.same]) (by rw [h.same]) fun i below => keyTime_congr (fun c j => by rw [h.slots]) ?_
      rw [h.chain_same k.blocks, List.getD_append _ _ _ _ (room i below)]
    · refine (k.times n).congr (by rw [h.entries n here]) (by rw [h.entries n here]) fun i _ =>
        keyTime_congr (fun c j => by rw [h.slots]) ?_
      rw [h.chain_other k.blocks here]

/-! ### Storing a key (R80) -/

/-- A key stored as the next of entry `m`, in the last block of its chain. -/
structure State.Stores (m : MoveIx) (x : Key) (s t : State) : Prop where
  canonical : s.lib.wf = true → t.lib.wf = true
  freeList : t.lib.freeList = s.lib.freeList
  badSet : t.lib.badSet = s.lib.badSet
  blocks : ∀ b : Nat, t.block b = s.block b
  placed : ∀ b : Nat, (s.entry m).last = some b → (t.slot b ((s.entry m).keys % Config.slots)).key = x
  slots : ∀ b n : Nat, n < Config.slots → ((s.entry m).last ≠ some b ∨ n ≠ (s.entry m).keys % Config.slots) →
    t.slot b n = s.slot b n
  same : t.entry m = { s.entry m with keys := (s.entry m).keys + 1, endTime := some x.time }
  entries : ∀ n : MoveIx, n ≠ m → t.entry n = s.entry n

section
variable {m : MoveIx} {x : Key} {s t : State} (h : s.Stores m x t)
include h

theorem State.Stores.chain (n : MoveIx) : t.chain (t.entry n) = s.chain (s.entry n) := by
  refine chain_congr ?_ fun b _ => h.blocks b
  by_cases here : n = m
  · rw [here, h.same]
  · rw [h.entries n here]

theorem State.Stores.chains : t.chains = s.chains := by
  unfold State.chains
  rw [funext h.chain]

theorem State.Stores.blocksLawful (k : s.BlocksLawful) : t.BlocksLawful := by
  have entry : ∀ n : MoveIx, (t.entry n).first = (s.entry n).first ∧ (t.entry n).last = (s.entry n).last ∧
      (t.entry n).state = (s.entry n).state := fun n => by
    by_cases here : n = m
    · rw [here, h.same]
      exact ⟨rfl, rfl, rfl⟩
    · rw [h.entries n here]
      exact ⟨rfl, rfl, rfl⟩
  constructor
  case once =>
    rw [h.freeList, h.badSet, h.chains]
    exact k.once
  case free => exact fun b mem => h.blocks b ▸ k.free b (h.freeList ▸ mem)
  case bad => exact fun b mem => h.blocks b ▸ k.bad b (h.badSet ▸ mem)
  case chained => exact fun b mem => h.blocks b ▸ k.chained b (h.chains ▸ mem)
  case last => exact fun n => by rw [(entry n).2.1, h.chain n, k.last n]
  case ends => exact fun n b last => h.blocks b ▸ k.ends n b ((entry n).2.1 ▸ last)
  case empty => exact fun n state => by rw [(entry n).1, k.empty n ((entry n).2.2 ▸ state)]

/-- The block of the key at index `i`, in a chain that has the blocks of the keys stored and of the one to come. -/
theorem State.Stores.keyTime_old (k : s.BlocksLawful) {n : MoveIx} {i : Nat}
    (old : n = m → i < (s.entry m).keys) (room : (s.chain (s.entry m)).length = (s.entry m).keys / Config.slots + 1)
    (within : i / Config.slots < (s.chain (s.entry n)).length) :
    t.keyTime (t.entry n) i = s.keyTime (s.entry n) i := by
  have block : (s.chain (s.entry n)).getD (i / Config.slots) 0 = (s.chain (s.entry n))[i / Config.slots] := by
    simp [List.getD_eq_getElem?_getD, within]
  rw [State.keyTime, State.keyTime, h.chain n, block, h.slots _ _ (Nat.mod_lt _ (by decide)) ?_]
  refine not_and_or.mp fun ⟨last, slot⟩ => ?_
  rw [k.last m, List.getLast?_eq_getElem?, room, Nat.add_sub_cancel] at last
  obtain ⟨bound, last⟩ := List.getElem?_eq_some_iff.mp last
  by_cases here : n = m
  · subst here
    have index := (List.Nodup.getElem_inj_iff (k.chain_nodup n)).mp last
    have below := old rfl
    simp only [Config.slots] at index slot below
    omega
  · have mine : (s.chain (s.entry n))[i / Config.slots] ∈ s.chain (s.entry m) := last ▸ List.getElem_mem bound
    exact k.chains_apart here (List.getElem_mem within) mine

theorem State.Stores.keyTime_new (k : s.BlocksLawful)
    (room : (s.chain (s.entry m)).length = (s.entry m).keys / Config.slots + 1) :
    t.keyTime (t.entry m) (s.entry m).keys = x.time := by
  have bound : (s.entry m).keys / Config.slots < (s.chain (s.entry m)).length := by omega
  have last : (s.entry m).last = some (s.chain (s.entry m))[(s.entry m).keys / Config.slots] := by
    rw [k.last m, List.getLast?_eq_getElem?, room, Nat.add_sub_cancel]
    exact List.getElem?_eq_getElem bound
  have block : (s.chain (s.entry m)).getD ((s.entry m).keys / Config.slots) 0 = (s.chain (s.entry m))[(s.entry m).keys / Config.slots] := by
    simp [List.getD_eq_getElem?_getD, bound]
  rw [State.keyTime, h.chain m, block, h.placed _ last]

end

/-- The key count that fits the chain's blocks. -/
theorem div_slots_lt {i keys n : Nat} (h : i < keys) (room : n = blocksFor keys) : i / Config.slots < n := by
  simp only [room, blocksFor, Config.slots]
  omega

theorem keyInOrder_iff {e : Entry} {k : Key} : keyInOrder e k = true ↔
    (e.keys = 0 → k.time = 0) ∧ (e.keys ≠ 0 → e.endTime.getD 0 < k.time) := by
  unfold keyInOrder
  split <;> simp_all

/-- Storing a key in key order keeps the laws (R80). -/
theorem State.Stores.tablesLawful {m : MoveIx} {x : Key} {s t : State} (h : s.Stores m x t) (k : s.TablesLawful)
    (order : keyInOrder (s.entry m) x = true) (open' : (s.entry m).state ≠ .empty)
    (room : (s.chain (s.entry m)).length = (s.entry m).keys / Config.slots + 1)
    (others : ∀ n : MoveIx, n ≠ m → (s.chain (s.entry n)).length = blocksFor (s.entry n).keys) : t.TablesLawful where
  canonical := h.canonical k.canonical
  blocks := h.blocksLawful k.blocks
  empty := fun n state => by
    by_cases here : n = m
    · rw [here, h.same] at state
      exact absurd state open'
    · rw [h.entries n here] at state ⊢
      exact k.empty n state
  times := fun n => by
    by_cases here : n = m
    · subst here
      have old : ∀ i < (s.entry n).keys, t.keyTime (t.entry n) i = s.keyTime (s.entry n) i := fun i below =>
        h.keyTime_old k.blocks (fun _ => below) room (by rw [room]; exact Nat.lt_succ_of_le (Nat.div_le_div_right below.le))
      have new := h.keyTime_new k.blocks room
      have keys : (t.entry n).keys = (s.entry n).keys + 1 := by rw [h.same]
      obtain ⟨start, later⟩ := keyInOrder_iff.mp order
      refine ⟨?_, fun _ => ?_, fun i below => ?_⟩
      · rw [keys, if_neg (Nat.succ_ne_zero _), Nat.add_sub_cancel, new, h.same]
      · by_cases none : (s.entry n).keys = 0
        · rw [none] at new
          rw [new, start none]
        · rw [old 0 (by omega), (k.times n).first (by omega)]
      · rw [keys] at below
        by_cases last : i + 1 = (s.entry n).keys
        · rw [old i (by omega), last, new]
          have some : (s.entry n).keys ≠ 0 := by omega
          have ended := later some
          rw [(k.times n).endTime, if_neg some, Option.getD_some, ← last, Nat.add_sub_cancel] at ended
          exact ended
        · rw [old i (by omega), old (i + 1) (by omega)]
          exact (k.times n).rising i (by omega)
    · refine (k.times n).congr (by rw [h.entries n here]) (by rw [h.entries n here]) fun i below =>
        h.keyTime_old k.blocks (fun same => absurd same here) room (div_slots_lt below (others n here))

end Sys2Proof.Machine
end

section
/-! What the operations of the Move Library make of its tables, of the port and of the console transaction (R80 to R84, R89, R94). -/

namespace Sys2Proof.Machine

/-! ### The emptying of an entry (R79, R81, R84, R94) -/

/-- The end of a transaction takes it away, and otherwise reaches the link alone (R89). -/
theorem endTxn_traffic (c : Result) (s : State) : SameButTraffic { s with txn := none } (endTxn c s) := by
  unfold endTxn
  split
  · next idle =>
    have same : { s with txn := none } = s := by rw [← idle]
    rw [same]
    exact .refl s
  · exact readyReply_traffic _ _ _

/-- What the emptying of entry `m` does outside the tables: a read in progress is marked, a waiting access of a transaction on `m`
is withdrawn, and the transaction ends with it. -/
structure State.Withdraws (m : MoveIx) (s t : State) : Prop where
  lib : t.lib = s.lib
  waitA : t.port.waitA = s.port.waitA
  waitB : t.port.waitB = s.port.waitB
  waitRecorder : t.port.waitRecorder = s.port.waitRecorder
  serving : (t.port.serving.map fun v => v.access) = s.port.serving.map fun v => v.access
  recorder : t.recorder = s.recorder
  console : (t.port.waitConsole = s.port.waitConsole ∧ t.txn = s.txn) ∨
    (t.port.waitConsole = none ∧ t.txn = none ∧ s.port.waitConsole ≠ none ∧ ∃ x : Txn, s.txn = some x ∧ x.move = m)

theorem State.Withdraws.refl (m : MoveIx) (s : State) : s.Withdraws m s := ⟨rfl, rfl, rfl, rfl, rfl, rfl, .inl ⟨rfl, rfl⟩⟩

theorem releaseServing_marks (m : MoveIx) (s : State) : ∃ v : Option Serving,
    releaseServing m s = { s with port := { s.port with serving := v } } ∧
    (v.map fun v => v.access) = s.port.serving.map fun v => v.access := by
  unfold releaseServing
  split
  · next v serving =>
    split
    · exact ⟨_, rfl, by simp [serving]⟩
    · exact ⟨s.port.serving, rfl, rfl⟩
  · exact ⟨s.port.serving, rfl, rfl⟩

theorem abandonTxn_withdraws (m : MoveIx) (s : State) : s.Withdraws m (abandonTxn m s) := by
  unfold abandonTxn
  split
  · next x a txn waiting =>
    split
    · next mine =>
      have ended := endTxn_traffic .notFound { s with port := { s.port with waitConsole := none } }
      have port : (endTxn .notFound { s with port := { s.port with waitConsole := none } }).port =
          { s.port with waitConsole := none } := ended.port
      exact ⟨ended.lib, by rw [port], by rw [port], by rw [port], by rw [port], ended.recorder,
        .inr ⟨by rw [port], ended.txn, by simp [waiting], x, txn, mine⟩⟩
    · exact .refl m s
  · exact .refl m s

theorem withdraws_after_release (m : MoveIx) (s : State) : s.Withdraws m (abandonTxn m (releaseServing m s)) := by
  obtain ⟨v, marked, access⟩ := releaseServing_marks m s
  rw [marked]
  obtain ⟨lib, waitA, waitB, waitRecorder, serving, recorder, console⟩ :=
    abandonTxn_withdraws m { s with port := { s.port with serving := v } }
  exact ⟨lib, waitA, waitB, waitRecorder, serving.trans access, recorder, console⟩

/-- The state of entry `m` being emptied before anything is withdrawn. -/
def State.cleared (s : State) (m : MoveIx) : State := (releaseBlocks m (s.chain (s.entry m)) s).setEntry m Entry.blank

theorem releaseBlock_only (s : State) (b : Nat) : releaseBlock s b = { s with lib := (releaseBlock s b).lib } := by
  unfold releaseBlock
  split <;> rfl

/-- A release reaches the library and the notices alone. -/
theorem releaseBlocks_only (m : MoveIx) (bs : List Nat) (s : State) : releaseBlocks m bs s =
    { s with lib := (releaseBlocks m bs s).lib, notices := (releaseBlocks m bs s).notices } := (releaseBlocks_recovers m bs s).rest

theorem emptyEntry_eq (m : MoveIx) (s : State) : emptyEntry m s = abandonTxn m (releaseServing m (s.cleared m)) := rfl

theorem emptyEntry_lib (m : MoveIx) (s : State) : (emptyEntry m s).lib = (s.cleared m).lib :=
  (withdraws_after_release m (s.cleared m)).lib

theorem cleared_only (s : State) (m : MoveIx) : s.cleared m = { s with lib := (s.cleared m).lib, notices := (s.cleared m).notices } := by
  unfold State.cleared
  rw [releaseBlocks_only]
  rfl

theorem emptyEntry_withdraws (m : MoveIx) (s : State) :
    { s with lib := (s.cleared m).lib, notices := (s.cleared m).notices }.Withdraws m (emptyEntry m s) := by
  rw [← cleared_only]
  exact withdraws_after_release m (s.cleared m)

theorem emptyEntry_recorder (m : MoveIx) (s : State) : (emptyEntry m s).recorder = s.recorder := (emptyEntry_withdraws m s).recorder

theorem emptyEntry_entry_same (m : MoveIx) (s : State) : (emptyEntry m s).entry m = Entry.blank := by
  rw [entry_of_dir (congrArg Library.dir (emptyEntry_lib m s))]
  exact setEntry_entry_same _ m _

theorem emptyEntry_entry_other {m n : MoveIx} (h : n ≠ m) (s : State) : (emptyEntry m s).entry n = s.entry n := by
  rw [entry_of_dir (congrArg Library.dir (emptyEntry_lib m s)), State.cleared, setEntry_entry_other _ _ _ _ h, releaseBlocks_entry]

theorem emptyEntry_lib_wf (m : MoveIx) {s : State} (h : s.lib.wf = true) : (emptyEntry m s).lib.wf = true := by
  rw [emptyEntry_lib]
  exact setEntry_lib_wf _ _ (releaseBlocks_lib_wf m _ h)

section
variable (m : MoveIx) {s : State} (wf : s.lib.wf = true) (once : (s.chain (s.entry m)).Nodup)
include wf once

theorem emptyEntry_block (b : Nat) : (emptyEntry m s).block b =
    if b ∈ s.chain (s.entry m) then (s.block b).released else s.block b := by
  rw [State.block, emptyEntry_lib, ← releaseBlocks_block m once wf]
  rfl

theorem emptyEntry_freeList : (emptyEntry m s).lib.freeList =
    s.lib.freeList ++ (s.chain (s.entry m)).filter fun b => !(s.block b).suspect := by
  rw [emptyEntry_lib, ← releaseBlocks_freeList m once wf]
  rfl

end

theorem emptyEntry_slot (m : MoveIx) (s : State) (b n : Nat) : (emptyEntry m s).slot b n = s.slot b n := by
  rw [State.slot, emptyEntry_lib]
  show sparseGet Slot.blank (releaseBlocks m (s.chain (s.entry m)) s).lib.keyStore _ = _
  rw [releaseBlocks_keyStore]
  rfl

theorem emptyEntry_shortens (m : MoveIx) {s : State} (h : s.TablesLawful) :
    s.Shortens m [] (s.chain (s.entry m)) (emptyEntry m s) where
  canonical := emptyEntry_lib_wf m
  chain := rfl
  freeList := emptyEntry_freeList m h.canonical (h.blocks.chain_nodup m)
  badSet := by
    rw [emptyEntry_lib]
    exact releaseBlocks_badSet_perm m (h.blocks.chain_nodup m) h.canonical fun b mem bad => h.blocks.bad_not_chained bad m mem
  released := fun b mem => by rw [emptyEntry_block m h.canonical (h.blocks.chain_nodup m), if_pos mem]
  cut := fun _ => nofun
  others := fun b out _ => by rw [emptyEntry_block m h.canonical (h.blocks.chain_nodup m), if_neg out]
  first := by rw [emptyEntry_entry_same]; rfl
  last := by rw [emptyEntry_entry_same]; rfl
  entries := fun n ne => emptyEntry_entry_other ne s
  slots := emptyEntry_slot m s

/-! ### The trim of a chain (R100) -/

theorem trimChain_slot (m : MoveIx) (s : State) (b n : Nat) : (trimChain m s).slot b n = s.slot b n := by
  have kept := releaseBlocks_keyStore m (bs := (s.chain (s.entry m)).drop (blocksFor (s.entry m).keys)) (s := s)
  unfold trimChain State.slot
  simp only
  split <;> exact congrArg (sparseGet Slot.blank · _) kept

theorem trimChain_entry (m : MoveIx) (s : State) : (trimChain m s).entry m = { s.entry m with
    first := ((s.chain (s.entry m)).take (blocksFor (s.entry m).keys)).head?,
    last := ((s.chain (s.entry m)).take (blocksFor (s.entry m).keys)).getLast? } := setEntry_entry_same _ m _

theorem trimChain_freeList (m : MoveIx) (s : State) : (trimChain m s).lib.freeList =
    (releaseBlocks m ((s.chain (s.entry m)).drop (blocksFor (s.entry m).keys)) s).lib.freeList := by
  unfold trimChain
  simp only
  split <;> rfl

theorem trimChain_badSet (m : MoveIx) (s : State) : (trimChain m s).lib.badSet =
    (releaseBlocks m ((s.chain (s.entry m)).drop (blocksFor (s.entry m).keys)) s).lib.badSet := by
  unfold trimChain
  simp only
  split <;> rfl

theorem trimChain_block (m : MoveIx) {s : State} (wf : s.lib.wf = true) (once : (s.chain (s.entry m)).Nodup) (b : Nat) :
    (trimChain m s).block b =
      if ((s.chain (s.entry m)).take (blocksFor (s.entry m).keys)).getLast? = some b then { s.block b with link := none }
      else if b ∈ (s.chain (s.entry m)).drop (blocksFor (s.entry m).keys) then (s.block b).released else s.block b := by
  have whole := List.take_append_drop (blocksFor (s.entry m).keys) (s.chain (s.entry m))
  have split' := once
  rw [← whole] at split'
  have released := releaseBlocks_block m split'.of_append_right wf
  have canonical := releaseBlocks_lib_wf m ((s.chain (s.entry m)).drop (blocksFor (s.entry m).keys)) wf
  unfold trimChain
  simp only
  split
  · next c last =>
    have kept : c ∉ (s.chain (s.entry m)).drop (blocksFor (s.entry m).keys) := fun out =>
      List.disjoint_of_nodup_append split' (List.mem_of_getLast? last) out
    have at' : (releaseBlocks m ((s.chain (s.entry m)).drop (blocksFor (s.entry m).keys)) s).block c = s.block c := by
      rw [released, if_neg kept]
    rw [at', last]
    refine (setBlock_block canonical c b _).trans ?_
    by_cases same : b = c
    · rw [if_pos same, if_pos (congrArg some same.symm), same]
    · rw [if_neg same, if_neg fun e => same (Option.some.inj e).symm, released]
  · next none =>
    rw [none, if_neg nofun]
    exact released b

theorem trimChain_shortens (m : MoveIx) {s : State} (h : s.TablesLawful) :
    s.Shortens m ((s.chain (s.entry m)).take (blocksFor (s.entry m).keys)) ((s.chain (s.entry m)).drop (blocksFor (s.entry m).keys))
      (trimChain m s) := by
  have once := h.blocks.chain_nodup m
  have whole := List.take_append_drop (blocksFor (s.entry m).keys) (s.chain (s.entry m))
  have split' := once
  rw [← whole] at split'
  have block := trimChain_block m h.canonical once
  constructor
  case canonical => exact fun wf => trimChain_lib_wf wf m
  case chain => exact whole.symm
  case freeList => rw [trimChain_freeList, releaseBlocks_freeList m split'.of_append_right h.canonical]
  case badSet =>
    rw [trimChain_badSet]
    exact releaseBlocks_badSet_perm m split'.of_append_right h.canonical fun b mem bad =>
      h.blocks.bad_not_chained bad m (List.mem_of_mem_drop mem)
  case released =>
    intro b mem
    rw [block, if_neg fun last => List.disjoint_of_nodup_append split' (List.mem_of_getLast? last) mem, if_pos mem]
  case cut => exact fun b last => by rw [block, if_pos last]
  case others => exact fun b out inner => by rw [block, if_neg inner, if_neg out]
  case first => rw [trimChain_entry]
  case last => rw [trimChain_entry]
  case entries => exact fun n ne => trimChain_entry_other ne s
  case slots => exact trimChain_slot m s

/-! ### Allocation and storing (R80) -/

/-- An allocation reaches the library alone. -/
theorem allocate_only {m : MoveIx} {s t : State} (h : allocate? m s = some t) : t = { s with lib := t.lib } := by
  unfold allocate? appendBlock at h
  split at h
  · split at h
    · cases h
    · cases h
      simp only
      split <;> rfl
  · cases h
    rfl

theorem appendBlock_prolongs {m : MoveIx} {b : Nat} {rest : List Nat} {s : State} (wf : s.lib.wf = true)
    (free : s.lib.freeList = b :: rest) (fresh : (s.entry m).last ≠ some b) :
    s.Prolongs m b (appendBlock m b { s with lib := { s.lib with freeList := rest } }) := by
  have wf' : ({ s with lib := { s.lib with freeList := rest } } : State).lib.wf = true := wf
  have first := setBlock_block wf' b (e := { cls := .chained, link := none, suspect := false })
  have canonical := setBlock_lib_wf b { cls := .chained, link := none, suspect := false } wf'
  have entry : ({ s with lib := { s.lib with freeList := rest } } : State).entry m = s.entry m := rfl
  unfold appendBlock
  simp only [entry]
  cases last : (s.entry m).last with
  | none =>
    simp only
    constructor
    case canonical => exact fun _ => setEntry_lib_wf _ _ canonical
    case freeList => exact free
    case badSet => rfl
    case fresh => exact (first b).trans (if_pos rfl)
    case linked => exact fun l same => by rw [last] at same; cases same
    case others => exact fun c ne _ => (first c).trans (if_neg ne)
    case same => exact (setEntry_entry_same _ m _).trans (by rw [if_pos last])
    case entries => exact fun n ne => setEntry_entry_other _ m n _ ne
    case slots => exact fun _ _ => rfl
  | some l =>
    have ne : l ≠ b := fun same => fresh (same ▸ last)
    simp only
    have linked := setBlock_block canonical l
      (e := { ({ s with lib := { s.lib with freeList := rest } }.setBlock b { cls := .chained, link := none, suspect := false }).block l with
        link := some b })
    rw [first l, if_neg ne] at linked ⊢
    constructor
    case canonical => exact fun _ => setEntry_lib_wf _ _ (setBlock_lib_wf _ _ canonical)
    case freeList => exact free
    case badSet => rfl
    case fresh => exact (linked b).trans ((if_neg ne.symm).trans ((first b).trans (if_pos rfl)))
    case linked =>
      intro k same
      cases last.symm.trans same
      exact (linked l).trans (if_pos rfl)
    case others =>
      intro c other inner
      exact (linked c).trans ((if_neg fun same : c = l => inner (same ▸ last)).trans ((first c).trans (if_neg other)))
    case same => exact (setEntry_entry_same _ m _).trans (by rw [if_neg (by rw [last]; nofun)])
    case entries => exact fun n ne => setEntry_entry_other _ m n _ ne
    case slots => exact fun _ _ => rfl

/-- What the allocation at the grant of a write does: nothing, or the block at the head of the free list joins the chain. -/
theorem allocate_cases {m : MoveIx} {s t : State} (wf : s.lib.wf = true) (h : allocate? m s = some t)
    (fresh : ∀ b ∈ s.lib.freeList, (s.entry m).last ≠ some b) :
    ((s.entry m).keys % Config.slots ≠ 0 ∧ t = s) ∨ ((s.entry m).keys % Config.slots = 0 ∧ ∃ b : Nat, s.Prolongs m b t) := by
  unfold allocate? at h
  split at h
  · next needs =>
    split at h
    · cases h
    · next b rest free =>
      cases h
      exact .inr ⟨needs, b, appendBlock_prolongs wf free (fresh b (free ▸ List.mem_cons_self))⟩
  · next room =>
    cases h
    exact .inl ⟨room, rfl⟩

/-- An allocation changes no more of an entry than the ends of its chain. -/
theorem allocate_entry {m : MoveIx} {s t : State} (h : allocate? m s = some t) (n : MoveIx) : ∃ first last : Option Nat,
    t.entry n = { s.entry n with first := first, last := last } := by
  have set : ∀ (u : State) (e : Entry), (∀ k : MoveIx, u.entry k = s.entry k) → (∃ first last : Option Nat,
      e = { s.entry m with first := first, last := last }) → ∃ first last : Option Nat,
      (u.setEntry m e).entry n = { s.entry n with first := first, last := last } := fun u e same ends => by
    by_cases here : n = m
    · subst here
      rwa [setEntry_entry_same]
    · rw [setEntry_entry_other _ _ _ _ here]
      exact ⟨_, _, same n⟩
  unfold allocate? appendBlock at h
  split at h
  · split at h
    · cases h
    · cases h
      simp only
      split
      · exact set _ _ (fun _ => rfl) ⟨_, _, rfl⟩
      · exact set _ _ (fun _ => rfl) ⟨_, _, rfl⟩
  · cases h
    exact ⟨_, _, rfl⟩

/-- The storing of a key reaches the library alone. -/
theorem storeKey_only (m : MoveIx) (x : Key) (s : State) : storeKey m x s = { s with lib := (storeKey m x s).lib } := by
  unfold storeKey
  simp only
  split <;> rfl

theorem storeKey_stores (m : MoveIx) (x : Key) {s : State} (wf : s.lib.wf = true) : s.Stores m x (storeKey m x s) := by
  have mod : (s.entry m).keys % Config.slots < 16 := Nat.mod_lt _ (by decide)
  unfold storeKey
  cases last : (s.entry m).last with
  | none =>
    simp only [last]
    refine ⟨setEntry_lib_wf _ _, rfl, rfl, fun _ => rfl, fun b same => ?_, fun _ _ _ _ => rfl,
      (setEntry_entry_same _ _ _).trans (by rw [← last]), fun n ne => setEntry_entry_other _ _ _ _ ne⟩
    rw [last] at same
    cases same
  | some b =>
    simp only [last]
    refine ⟨fun _ => setEntry_lib_wf _ _ (setSlot_lib_wf _ _ _ wf), rfl, rfl, fun _ => rfl, fun c same => ?_, fun c n below other => ?_,
      (setEntry_entry_same _ _ _).trans (by rw [← last]), fun n ne => setEntry_entry_other _ _ _ _ ne⟩
    · cases last.symm.trans same
      exact congrArg Slot.key (slot_setSlot_same wf b _ _)
    · refine setSlot_slot_other wf mod below (other.imp_left fun ne same => ?_) _
      exact ne (same ▸ last)

/-! ### Reads (R75, R85) -/

/-- A block marked suspect. -/
theorem setBlock_suspect_sameTables {s : State} (wf : s.lib.wf = true) (b : Nat) :
    s.SameTables (s.setBlock b { s.block b with suspect := true }) := by
  have marked := setBlock_block wf b (e := { s.block b with suspect := true })
  refine ⟨setBlock_lib_wf _ _, rfl, rfl, fun d => ?_, fun d => ?_, fun d suspect => ?_, fun _ _ => rfl, fun _ => rfl, fun _ => rfl,
    fun _ => rfl, fun _ => rfl, fun _ => id⟩
  all_goals
    rw [marked d]
    split
    · next same => subst same; rfl
    · first | rfl | exact suspect

/-- What the check of a slot found stays with it. -/
theorem setSlot_health_sameTables {s : State} (wf : s.lib.wf = true) (b n : Nat) (c : KeyCheck) :
    s.SameTables (s.setSlot b n { s.slot b n with health := c }) := by
  refine ⟨setSlot_lib_wf b n _, rfl, rfl, fun _ => rfl, fun _ => rfl, fun _ => id, fun d k => ?_, fun _ => rfl, fun _ => rfl,
    fun _ => rfl, fun _ => rfl, fun _ => id⟩
  rw [setSlot_slot_addr wf]
  split
  · next same => rw [State.slot, State.slot, same]
  · rfl

/-- The reports of a read leave no more at the tables than marks of damage (R85). -/
theorem reportRead_sameTables {s : State} (wf : s.lib.wf = true) (m : MoveIx) (i b : Nat) (p : Option PlayerId) (c : KeyCheck) :
    s.SameTables (reportRead m i b p c s) := by
  cases c with
  | good => exact .of_lib rfl
  | corrected => exact .of_lib (raise_faultReport_lib _ _ _)
  | damaged =>
    have flagged : s.SameTables (s.setEntry m { s.entry m with flags := { (s.entry m).flags with damaged := true } }) :=
      setEntry_sameTables rfl rfl rfl rfl id
    exact (flagged.trans (setBlock_suspect_sameTables (flagged.canonical wf) b)).trans (.of_lib (raise_faultReport_lib _ _ _))

theorem finishRead_sameTables {s : State} (wf : s.lib.wf = true) (m : MoveIx) (i b n : Nat) (p : Option PlayerId) (c : KeyCheck) :
    s.SameTables (finishRead m i b n p c s) :=
  (setSlot_health_sameTables wf b n _).trans (reportRead_sameTables (setSlot_lib_wf b n _ wf) m i b p _)

end Sys2Proof.Machine
end

section
/-! The laws of the port, of the console transaction and of a take (R80, R82, R89, R92, R144, R146) in parts, and the grants of the
arbiter, the ends of a take and the completions that keep them. -/

namespace Sys2Proof.Machine

/-! ### Accesses at the port -/

/-- The access, if it is one of the Recorder. -/
def Access.recorders (a : Access) : List Access :=
  match a with
  | .recorderWrite .. => [a]
  | .fetch .. | .consoleWrite .. | .consoleRead .. => []

/-- The access, if it is one of the console. -/
def Access.consoles (a : Access) : List Access :=
  match a with
  | .consoleWrite .. | .consoleRead .. => [a]
  | .fetch .. | .recorderWrite .. => []

/-- The entry written by the access in progress, if it is a write. -/
def KeyPort.writing? (q : KeyPort) : Option MoveIx := q.serving.bind fun v => v.access.writes?

theorem writeOn_iff {s : State} {m : MoveIx} : s.writeOn m ↔ s.port.writing? = some m := by
  cases served : s.port.serving <;> simp [State.writeOn, KeyPort.writing?, served]

section
variable {q : KeyPort}

theorem recorderAccesses_free (h : q.serving = none) : q.recorderAccesses = q.waitRecorder.toList := by
  simp [KeyPort.recorderAccesses, h]

theorem recorderAccesses_serving {v : Serving} (h : q.serving = some v) :
    q.recorderAccesses = q.waitRecorder.toList ++ v.access.recorders := by
  obtain ⟨access, _, _⟩ := v
  cases access <;> simp [KeyPort.recorderAccesses, h, Access.recorders]

theorem consoleAccesses_free (h : q.serving = none) : q.consoleAccesses = q.waitConsole.toList := by
  simp [KeyPort.consoleAccesses, h]

theorem consoleAccesses_serving {v : Serving} (h : q.serving = some v) :
    q.consoleAccesses = q.waitConsole.toList ++ v.access.consoles := by
  obtain ⟨access, _, _⟩ := v
  cases access <;> simp [KeyPort.consoleAccesses, h, Access.consoles]

theorem writing_free (h : q.serving = none) : q.writing? = none := by simp [KeyPort.writing?, h]

theorem writing_serving {v : Serving} (h : q.serving = some v) : q.writing? = v.access.writes? := by simp [KeyPort.writing?, h]

end

/-- Ports with the same requests of the writers, and the same access in progress, whatever is noted with it. -/
structure KeyPort.SameWriters (q r : KeyPort) : Prop where
  recorder : r.recorderAccesses = q.recorderAccesses
  console : r.consoleAccesses = q.consoleAccesses
  writing : r.writing? = q.writing?

theorem KeyPort.SameWriters.of_access {q r : KeyPort} (serving : (r.serving.map fun v => v.access) = q.serving.map fun v => v.access)
    (waitRecorder : r.waitRecorder = q.waitRecorder) (waitConsole : r.waitConsole = q.waitConsole) : q.SameWriters r := by
  cases before : q.serving with
  | none =>
    have after : r.serving = none := by simpa [before] using serving
    exact ⟨by rw [recorderAccesses_free after, recorderAccesses_free before, waitRecorder],
      by rw [consoleAccesses_free after, consoleAccesses_free before, waitConsole], by rw [writing_free after, writing_free before]⟩
  | some v =>
    obtain ⟨w, after, same⟩ : ∃ w : Serving, r.serving = some w ∧ w.access = v.access := by simpa [before] using serving
    exact ⟨by rw [recorderAccesses_serving after, recorderAccesses_serving before, waitRecorder, same],
      by rw [consoleAccesses_serving after, consoleAccesses_serving before, waitConsole, same],
      by rw [writing_serving after, writing_serving before, same]⟩

theorem withdraw_sameWriters (q : KeyPort) (p : PlayerId) : q.SameWriters (q.withdraw p) := by
  cases p <;> exact .of_access rfl rfl rfl

theorem disown_sameWriters (q : KeyPort) (p : PlayerId) : q.SameWriters (q.disown p) := by
  unfold KeyPort.disown
  split
  · next v serving =>
    split
    · exact .of_access (by simp [serving]) rfl rfl
    · exact .of_access rfl rfl rfl
  · exact .of_access rfl rfl rfl

/-- A fetch served, or no longer served, is no business of the writers. -/
theorem sameWriters_fetch {q r : KeyPort} {v : Serving} (free : q.serving = none) (serving : r.serving = some v)
    (recorder : v.access.recorders = []) (console : v.access.consoles = []) (writing : v.access.writes? = none)
    (waitRecorder : r.waitRecorder = q.waitRecorder) (waitConsole : r.waitConsole = q.waitConsole) : q.SameWriters r :=
  ⟨by rw [recorderAccesses_free free, recorderAccesses_serving serving, recorder, waitRecorder, List.append_nil],
    by rw [consoleAccesses_free free, consoleAccesses_serving serving, console, waitConsole, List.append_nil],
    by rw [writing_free free, writing_serving serving, writing]⟩

/-! ### The parts of the law -/

/-- What stands of the Recorder's requests at the port (R146). -/
def State.RecorderAsks (s : State) : Prop :=
  (s.recorder.outstanding = false ∧ s.port.recorderAccesses = []) ∨
    (s.recorder.outstanding = true ∧ ∃ (m : MoveIx) (k : Key), s.recorder.move = some m ∧ s.recorder.fifo.head? = some k ∧
      s.port.recorderAccesses = [.recorderWrite m k])

/-- The access is the next one of the transaction (R89, R92, R94). -/
inductive State.NextAccess (s : State) (x : Txn) : Access → Prop
  | write {k : Key} {rest : List Key} {n : Nat} : x.work = .put (k :: rest) n → (s.entry x.move).byConsole = true →
      keyInOrder (s.entry x.move) k = true → State.NextAccess s x (.consoleWrite x.move k)
  | read {i left : Nat} {got : List Key} (b n : Nat) : x.work = .read i left got →
      State.NextAccess s x (.consoleRead x.move i b n)

/-- What stands of the console's requests at the port (R89). -/
def State.ConsoleAsks (s : State) : Prop :=
  s.port.consoleAccesses = [] ∨ ∃ (x : Txn) (a : Access), s.txn = some x ∧ s.port.consoleAccesses = [a] ∧ s.NextAccess x a

/-- The keys stored in entry `m`, with the one being written. -/
def State.reserved (s : State) (m : MoveIx) : Nat := (s.entry m).keys + if s.port.writing? = some m then 1 else 0

/-- The laws that rest on neither writer: the tables, chains of the blocks their keys need, and fetches in the players' places. -/
structure State.CoreLawful (s : State) : Prop where
  tables : s.TablesLawful
  fits : ∀ m : MoveIx, (s.chain (s.entry m)).length = blocksFor (s.reserved m)
  waitA : ∀ a : Access, s.port.waitA = some a → a.isFetchOf .a = true
  waitB : ∀ a : Access, s.port.waitB = some a → a.isFetchOf .b = true

theorem blocksFor_succ (n : Nat) : blocksFor (n + 1) = n / Config.slots + 1 := by
  simp only [blocksFor, Config.slots]
  omega

theorem consoleAsks_of_law {s : State} (h : s.port.consoleAccesses = [] ∨ ∃ t : Txn, s.txn = some t ∧
    ((∃ (k : Key) (rest : List Key) (n : Nat), t.work = .put (k :: rest) n ∧ (s.entry t.move).byConsole = true ∧
        keyInOrder (s.entry t.move) k = true ∧ s.port.consoleAccesses = [.consoleWrite t.move k]) ∨
      (∃ (i left : Nat) (got : List Key) (b n : Nat), t.work = .read i left got ∧
        s.port.consoleAccesses = [.consoleRead t.move i b n]))) : s.ConsoleAsks := by
  rcases h with none | ⟨x, txn, ⟨k, rest, n, work, mine, order, at'⟩ | ⟨i, left, got, b, n, work, at'⟩⟩
  · exact .inl none
  · exact .inr ⟨x, _, txn, at', .write work mine order⟩
  · exact .inr ⟨x, _, txn, at', .read b n work⟩

theorem State.ConsoleAsks.law {s : State} (h : s.ConsoleAsks) : s.port.consoleAccesses = [] ∨ ∃ t : Txn, s.txn = some t ∧
    ((∃ (k : Key) (rest : List Key) (n : Nat), t.work = .put (k :: rest) n ∧ (s.entry t.move).byConsole = true ∧
        keyInOrder (s.entry t.move) k = true ∧ s.port.consoleAccesses = [.consoleWrite t.move k]) ∨
      (∃ (i left : Nat) (got : List Key) (b n : Nat), t.work = .read i left got ∧
        s.port.consoleAccesses = [.consoleRead t.move i b n])) := by
  rcases h with none | ⟨x, a, txn, at', ask⟩
  · exact .inl none
  · cases ask with
    | write work mine order => exact .inr ⟨x, txn, .inl ⟨_, _, _, work, mine, order, at'⟩⟩
    | read b n work => exact .inr ⟨x, txn, .inr ⟨_, _, _, b, n, work, at'⟩⟩

/-- The law of the Move Library of a part with main power, in its parts. -/
structure State.PoweredLawful (s : State) : Prop where
  on : s.power.on = true
  core : s.CoreLawful
  owner : s.recorderLawful = true
  recorder : s.RecorderAsks
  console : s.ConsoleAsks
  take : ∀ m : MoveIx, s.recorder.move = some m → s.TakeLawful m

theorem State.LibraryLawful.powered {s : State} (h : s.LibraryLawful) (on : s.power.on = true) : s.PoweredLawful := by
  refine ⟨on, ⟨h.tables, fun m => ?_, h.port.waitA, h.port.waitB⟩, h.owner, h.port.recorder, consoleAsks_of_law h.port.console, h.take⟩
  unfold State.reserved
  split
  · next writing => rw [(h.keys m).written (writeOn_iff.mpr writing), blocksFor_succ]
  · next idle =>
    rcases (h.keys m).length (mt writeOn_iff.mp idle) with fits | ⟨off, _⟩
    · exact fits
    · rw [on] at off
      cases off

theorem State.PoweredLawful.lawful {s : State} (h : s.PoweredLawful) : s.LibraryLawful where
  canonical := h.core.tables.canonical
  blocks := h.core.tables.blocks
  keys := fun m =>
    have fits := h.core.fits m
    have times := h.core.tables.times m
    ⟨h.core.tables.empty m, fun writing => by rw [fits, State.reserved, if_pos (writeOn_iff.mp writing), blocksFor_succ],
      fun idle => .inl (by rw [fits, State.reserved, if_neg (mt writeOn_iff.mpr idle), Nat.add_zero]), times.endTime, times.first,
      times.rising⟩
  owner := h.owner
  port := ⟨h.core.waitA, h.core.waitB, h.recorder, h.console.law⟩
  take := h.take

/-! ### Each part after a change -/

theorem State.CoreLawful.congr {s t : State} (h : s.CoreLawful) (tables : s.SameTables t) (writing : t.port.writing? = s.port.writing?)
    (waitA : ∀ a : Access, t.port.waitA = some a → a.isFetchOf .a = true)
    (waitB : ∀ a : Access, t.port.waitB = some a → a.isFetchOf .b = true) : t.CoreLawful where
  tables := tables.tablesLawful h.tables
  fits := fun m => by
    rw [tables.chain, h.fits, State.reserved, State.reserved, tables.keys, writing]
  waitA := waitA
  waitB := waitB

theorem keyInOrder_congr {d e : Entry} (keys : e.keys = d.keys) (endTime : e.endTime = d.endTime) (k : Key) :
    keyInOrder e k = keyInOrder d k := by
  rw [keyInOrder, keyInOrder, keys, endTime]

/-- The entry is still written by the console, as far as it was. -/
structure Entry.StillWritten (d e : Entry) : Prop where
  byConsole : d.byConsole = true → e.byConsole = true
  keys : e.keys = d.keys
  endTime : e.endTime = d.endTime

theorem Entry.StillWritten.refl (e : Entry) : e.StillWritten e := ⟨id, rfl, rfl⟩

theorem State.ConsoleAsks.congr {s t : State} (h : s.ConsoleAsks) (accesses : t.port.consoleAccesses = s.port.consoleAccesses)
    (txn : t.txn = s.txn) (entry : ∀ x : Txn, s.txn = some x → (s.entry x.move).byConsole = true →
      (s.entry x.move).StillWritten (t.entry x.move)) : t.ConsoleAsks := by
  rcases h with none | ⟨x, a, held, at', ask⟩
  · exact .inl (accesses.trans none)
  · refine .inr ⟨x, a, txn.trans held, accesses.trans at', ?_⟩
    cases ask with
    | write work mine order =>
      obtain ⟨byConsole, keys, endTime⟩ := entry x held mine
      exact .write work (byConsole mine) ((keyInOrder_congr keys endTime _).trans order)
    | read b n work => exact .read b n work

theorem State.RecorderAsks.congr {s t : State} (h : s.RecorderAsks) (accesses : t.port.recorderAccesses = s.port.recorderAccesses)
    (recorder : t.recorder = s.recorder) : t.RecorderAsks := by
  rw [State.RecorderAsks, accesses, recorder]
  exact h

theorem State.TakeLawful.congr {s t : State} {m : MoveIx} (h : s.TakeLawful m) (recorder : t.recorder = s.recorder)
    (keys : (t.entry m).keys = (s.entry m).keys) (endTime : (t.entry m).endTime = (s.entry m).endTime) : t.TakeLawful m := by
  obtain ⟨mask, rising, head, lastQueued, started, reached, armed⟩ := h
  refine ⟨?_, ?_, fun k first => ?_, ?_, ?_, ?_, ?_⟩
  case refine_3 =>
    rw [recorder] at first
    exact (keyInOrder_congr keys endTime k).trans (head k first)
  all_goals
    rw [recorder]
    try assumption
  rw [endTime]
  exact lastQueued

theorem recorderLawful_iff {s : State} : s.recorderLawful = true ↔ (s.recorder.move.isSome = true ↔ s.recorder.state ≠ .idle) ∧
    ∀ m : MoveIx, s.recorder.move = some m → (s.entry m).byRecorder = true := by
  unfold State.recorderLawful
  cases s.recorder.move <;> simp

theorem byRecorder_iff {e : Entry} : e.byRecorder = true ↔ e.state = .writing ∧ e.writer = some .recorder := by
  simp [Entry.byRecorder]

theorem byConsole_iff {e : Entry} : e.byConsole = true ↔ e.state = .writing ∧ e.writer = some .console := by
  simp [Entry.byConsole]

theorem byRecorder_not_byConsole {e : Entry} (h : e.byRecorder = true) : ¬ e.byConsole = true := fun k => by
  have recorder := (byRecorder_iff.mp h).2
  rw [(byConsole_iff.mp k).2] at recorder
  cases recorder

theorem recorderLawful_congr {s t : State} (recorder : t.recorder = s.recorder) (entry : ∀ m : MoveIx, s.recorder.move = some m →
    (s.entry m).byRecorder = true → (t.entry m).byRecorder = true) (h : s.recorderLawful = true) : t.recorderLawful = true := by
  rw [recorderLawful_iff] at h ⊢
  rw [recorder]
  exact ⟨h.1, fun m held => entry m held (h.2 m held)⟩

/-! ### Changes of neither writer's requests -/

/-- A change that keeps the chains, the keys, the entries written and the writers' requests. -/
structure State.Edits (s t : State) : Prop where
  tables : s.lib.wf = true → s.SameTables t
  written : ∀ m : MoveIx, (s.entry m).state = .writing → (t.entry m).state = .writing ∧ (t.entry m).writer = (s.entry m).writer
  writers : s.port.SameWriters t.port
  waitA : ∀ a : Access, t.port.waitA = some a → s.port.waitA = some a ∨ a.isFetchOf .a = true
  waitB : ∀ a : Access, t.port.waitB = some a → s.port.waitB = some a ∨ a.isFetchOf .b = true
  txn : t.txn = s.txn
  recorder : t.recorder = s.recorder
  power : t.power = s.power

theorem State.Edits.powered {s t : State} (h : s.Edits t) (k : s.PoweredLawful) : t.PoweredLawful := by
  have tables := h.tables k.core.tables.canonical
  have byRecorder : ∀ m : MoveIx, (s.entry m).byRecorder = true → (t.entry m).byRecorder = true := fun m mine => by
    obtain ⟨state, writer⟩ := byRecorder_iff.mp mine
    obtain ⟨state', writer'⟩ := h.written m state
    exact byRecorder_iff.mpr ⟨state', writer'.trans writer⟩
  have byConsole : ∀ m : MoveIx, (s.entry m).byConsole = true → (t.entry m).byConsole = true := fun m mine => by
    obtain ⟨state, writer⟩ := byConsole_iff.mp mine
    obtain ⟨state', writer'⟩ := h.written m state
    exact byConsole_iff.mpr ⟨state', writer'.trans writer⟩
  exact {
    on := by rw [h.power, k.on]
    core := k.core.congr tables h.writers.writing (fun a wait => (h.waitA a wait).elim (k.core.waitA a) id)
      fun a wait => (h.waitB a wait).elim (k.core.waitB a) id
    owner := recorderLawful_congr h.recorder (fun m _ => byRecorder m) k.owner
    recorder := k.recorder.congr h.writers.recorder h.recorder
    console := k.console.congr h.writers.console h.txn fun x _ _ => ⟨byConsole _, tables.keys _, tables.endTime _⟩
    take := fun m held => (k.take m (h.recorder ▸ held)).congr h.recorder (tables.keys m) (tables.endTime m) }

theorem SameButTraffic.edits {s t : State} (h : SameButTraffic s t) : s.Edits t where
  tables := fun _ => .of_lib h.lib
  written := fun m writing => by
    rw [entry_of_dir (congrArg Library.dir h.lib)]
    exact ⟨writing, rfl⟩
  writers := h.port ▸ .of_access rfl rfl rfl
  waitA := fun _ wait => .inl (h.port ▸ wait)
  waitB := fun _ wait => .inl (h.port ▸ wait)
  txn := h.txn
  recorder := h.recorder
  power := h.power

/-- A change of the port for a fetch alone. -/
theorem edits_port {s : State} {q : KeyPort} (writers : s.port.SameWriters q)
    (waitA : ∀ a : Access, q.waitA = some a → s.port.waitA = some a ∨ a.isFetchOf .a = true)
    (waitB : ∀ a : Access, q.waitB = some a → s.port.waitB = some a ∨ a.isFetchOf .b = true) : s.Edits { s with port := q } where
  tables := fun _ => .of_lib rfl
  written := fun _ writing => ⟨writing, rfl⟩
  writers := writers
  waitA := waitA
  waitB := waitB
  txn := rfl
  recorder := rfl
  power := rfl

/-- A change of an entry that keeps its chain, its keys and its writer. -/
theorem edits_entry {s : State} {m : MoveIx} {e : Entry} (first : e.first = (s.entry m).first) (last : e.last = (s.entry m).last)
    (keys : e.keys = (s.entry m).keys) (endTime : e.endTime = (s.entry m).endTime)
    (state : e.state = (s.entry m).state ∨ ((s.entry m).state ≠ .writing ∧ e.state ≠ .empty))
    (writer : e.writer = (s.entry m).writer ∨ (s.entry m).state ≠ .writing) : s.Edits (s.setEntry m e) where
  tables := fun _ => setEntry_sameTables first last keys endTime fun empty => by
    rcases state with same | ⟨_, opened⟩
    · exact same ▸ empty
    · exact absurd empty opened
  written := fun n writing => by
    by_cases here : n = m
    · subst here
      rw [setEntry_entry_same]
      exact ⟨(state.resolve_right fun h => h.1 writing) ▸ writing, writer.resolve_right fun h => h writing⟩
    · rw [setEntry_entry_other _ _ _ _ here]
      exact ⟨writing, rfl⟩
  writers := .of_access rfl rfl rfl
  waitA := fun _ => .inl
  waitB := fun _ => .inl
  txn := rfl
  recorder := rfl
  power := rfl

end Sys2Proof.Machine
end

section
/-! The emptying of an entry, the close of a take and the grants of the arbiter keep the laws of the Move Library. -/

namespace Sys2Proof.Machine

/-! ### Emptying an entry (R79, R84, R94) -/

/-- A withdrawal leaves what the writers write, and the Recorder's request, at the port. -/
theorem State.Withdraws.writing {m : MoveIx} {s t : State} (h : s.Withdraws m t) : t.port.writing? = s.port.writing? := by
  have serving := h.serving
  cases before : s.port.serving with
  | none => rw [writing_free before, writing_free (by simpa [before] using serving)]
  | some v =>
    obtain ⟨w, after, same⟩ : ∃ w : Serving, t.port.serving = some w ∧ w.access = v.access := by simpa [before] using serving
    rw [writing_serving before, writing_serving after, same]

theorem State.Withdraws.recorderAccesses {m : MoveIx} {s t : State} (h : s.Withdraws m t) :
    t.port.recorderAccesses = s.port.recorderAccesses := by
  have serving := h.serving
  cases before : s.port.serving with
  | none => rw [recorderAccesses_free before, recorderAccesses_free (by simpa [before] using serving), h.waitRecorder]
  | some v =>
    obtain ⟨w, after, same⟩ : ∃ w : Serving, t.port.serving = some w ∧ w.access = v.access := by simpa [before] using serving
    rw [recorderAccesses_serving before, recorderAccesses_serving after, same, h.waitRecorder]

/-- A withdrawal takes away the waiting request of the console alone. -/
theorem State.Withdraws.consoleAccesses {m : MoveIx} {s t : State} (h : s.Withdraws m t)
    (same : t.port.waitConsole = s.port.waitConsole) : t.port.consoleAccesses = s.port.consoleAccesses := by
  have serving := h.serving
  cases before : s.port.serving with
  | none => rw [consoleAccesses_free before, consoleAccesses_free (by simpa [before] using serving), same]
  | some v =>
    obtain ⟨w, after, access⟩ : ∃ w : Serving, t.port.serving = some w ∧ w.access = v.access := by simpa [before] using serving
    rw [consoleAccesses_serving before, consoleAccesses_serving after, access, same]

/-- Where a request of the console waits, none of it is served. -/
theorem State.Withdraws.consoleAccesses_withdrawn {m : MoveIx} {s t : State} (h : s.Withdraws m t)
    (withdrawn : t.port.waitConsole = none) (waited : s.port.waitConsole ≠ none) (one : s.port.consoleAccesses.length ≤ 1) :
    t.port.consoleAccesses = [] := by
  obtain ⟨a, waits⟩ := Option.ne_none_iff_exists'.mp waited
  have serving := h.serving
  cases before : s.port.serving with
  | none => rw [consoleAccesses_free (by simpa [before] using serving), withdrawn, Option.toList_none]
  | some v =>
    obtain ⟨w, after, access⟩ : ∃ w : Serving, t.port.serving = some w ∧ w.access = v.access := by simpa [before] using serving
    rw [consoleAccesses_serving before, waits, Option.toList_some, List.singleton_append, List.length_cons] at one
    rw [consoleAccesses_serving after, withdrawn, access, Option.toList_none, List.nil_append]
    exact List.length_eq_zero_iff.mp (by omega)

theorem State.ConsoleAsks.one {s : State} (h : s.ConsoleAsks) : s.port.consoleAccesses.length ≤ 1 := by
  rcases h with none | ⟨_, _, _, at', _⟩
  · rw [none]
    exact Nat.zero_le 1
  · rw [at']
    exact Nat.le_refl 1

/-- The empty entry has the law of keys. -/
theorem keyTimes_blank {s : State} {m : MoveIx} (blank : s.entry m = Entry.blank) : s.KeyTimes m where
  endTime := by rw [blank]; rfl
  first := fun some => absurd some (by rw [blank]; decide)
  rising := fun i below => absurd below (by rw [blank]; exact Nat.not_lt_zero _)

theorem emptyEntry_port_writing (m : MoveIx) (s : State) : (emptyEntry m s).port.writing? = s.port.writing? :=
  (emptyEntry_withdraws m s).writing

theorem emptyEntry_tablesLawful (m : MoveIx) {s : State} (h : s.TablesLawful) : (emptyEntry m s).TablesLawful where
  canonical := emptyEntry_lib_wf m h.canonical
  blocks := (emptyEntry_shortens m h).blocksLawful h.blocks fun _ => rfl
  empty := fun n state => by
    by_cases here : n = m
    · rw [here, emptyEntry_entry_same]
      rfl
    · rw [emptyEntry_entry_other here] at state ⊢
      exact h.empty n state
  times := fun n => by
    by_cases here : n = m
    · exact keyTimes_blank (here ▸ emptyEntry_entry_same m s)
    · exact (emptyEntry_shortens m h).times_other h.blocks here (h.times n)

/-- An entry that nothing writes may be emptied. -/
theorem emptyEntry_coreLawful {m : MoveIx} {s : State} (h : s.CoreLawful) (idle : s.port.writing? ≠ some m) :
    (emptyEntry m s).CoreLawful where
  tables := emptyEntry_tablesLawful m h.tables
  fits := fun n => by
    rw [State.reserved, emptyEntry_port_writing]
    by_cases here : n = m
    · rw [here, (emptyEntry_shortens m h.tables).chain_same h.tables.blocks, emptyEntry_entry_same, if_neg idle]
      rfl
    · rw [(emptyEntry_shortens m h.tables).chain_other h.tables.blocks here, h.fits n, emptyEntry_entry_other here]
      rfl
  waitA := fun a wait => h.waitA a ((emptyEntry_withdraws m s).waitA ▸ wait)
  waitB := fun a wait => h.waitB a ((emptyEntry_withdraws m s).waitB ▸ wait)

theorem emptyEntry_power (m : MoveIx) (s : State) : (emptyEntry m s).power = s.power := (emptyEntry_library m s).power

theorem emptyEntry_recorderAccesses (m : MoveIx) (s : State) :
    (emptyEntry m s).port.recorderAccesses = s.port.recorderAccesses := (emptyEntry_withdraws m s).recorderAccesses

/-- The emptying of an entry withdraws the console's request for it; it has to be for none the console writes. -/
theorem emptyEntry_consoleAsks {m : MoveIx} {s : State} (h : s.ConsoleAsks)
    (free : ∀ x : Txn, s.txn = some x → (s.entry x.move).byConsole = true → x.move ≠ m) : (emptyEntry m s).ConsoleAsks := by
  have withdraws := emptyEntry_withdraws m s
  rcases withdraws.console with ⟨waits, txn⟩ | ⟨withdrawn, _, waited, _⟩
  · refine h.congr (withdraws.consoleAccesses waits) txn fun x held mine => ?_
    rw [emptyEntry_entry_other (free x held mine)]
    exact .refl _
  · exact .inl (withdraws.consoleAccesses_withdrawn withdrawn waited h.one)

/-! ### Who writes an entry -/

/-- A write in progress is one of the Recorder, or the next access of the transaction held. -/
theorem writing_owner {s : State} {m : MoveIx} (h : s.ConsoleAsks) (writing : s.port.writing? = some m) :
    s.port.recorderAccesses ≠ [] ∨ ((s.entry m).byConsole = true ∧ ∃ x : Txn, s.txn = some x ∧ x.move = m) := by
  cases served : s.port.serving with
  | none => rw [writing_free served] at writing; cases writing
  | some v =>
    rw [writing_serving served] at writing
    rw [recorderAccesses_serving served]
    cases access : v.access with
    | fetch | consoleRead => rw [access] at writing; cases writing
    | recorderWrite n k => exact .inl (by simp [Access.recorders])
    | consoleWrite n k =>
      refine .inr ?_
      have here : n = m := Option.some.inj (by simpa [access, Access.writes?] using writing)
      have asks : s.port.consoleAccesses = s.port.waitConsole.toList ++ [.consoleWrite n k] := by
        rw [consoleAccesses_serving served, access]
        rfl
      rcases h with none | ⟨x, a, held, at', ask⟩
      · simp [asks] at none
      · have one : a = .consoleWrite n k := by
          cases wait : s.port.waitConsole with
          | none => simpa [asks, wait] using at'.symm
          | some b => simp [asks, wait] at at'
        subst one
        cases ask with
        | write _ mine _ => exact ⟨here ▸ mine, x, held, here⟩

/-! ### The close of a take (R87, R148, R149) -/

/-- No console request may be for the entry that the Recorder writes. -/
theorem txn_not_recorded {s : State} {m : MoveIx} (mine : (s.entry m).byRecorder = true) (x : Txn) (_ : s.txn = some x)
    (console : (s.entry x.move).byConsole = true) : x.move ≠ m :=
  fun here => byRecorder_not_byConsole mine (here ▸ console)

/-- What is left of the laws once the Recorder's request has been taken away from the port. -/
structure State.RecorderAside (s : State) (m : MoveIx) : Prop where
  on : s.power.on = true
  core : s.CoreLawful
  console : s.ConsoleAsks
  held : s.recorder.move = some m
  mine : (s.entry m).byRecorder = true
  none : s.port.recorderAccesses = []

theorem State.RecorderAside.idle {s : State} {m : MoveIx} (h : s.RecorderAside m) : s.port.writing? ≠ some m := fun writing => by
  rcases writing_owner h.console writing with asks | ⟨console, _⟩
  · exact asks h.none
  · exact byRecorder_not_byConsole h.mine console

/-- An IDLE Recorder has no take and no request. -/
theorem powered_of_idleRecorder {s : State} (on : s.power.on = true) (core : s.CoreLawful) (console : s.ConsoleAsks)
    (none : s.port.recorderAccesses = []) (r : Recorder) : ({ s with recorder := r.toIdle } : State).PoweredLawful where
  on := on
  core := core.congr (.of_lib rfl) rfl core.waitA core.waitB
  owner := recorderLawful_iff.mpr ⟨⟨(nomatch ·), (absurd rfl ·)⟩, fun _ => nofun⟩
  recorder := .inl ⟨rfl, none⟩
  console := console.congr rfl rfl fun _ _ _ => .refl _
  take := fun _ => nofun

theorem closeEntry_ready {m : MoveIx} {b : Bool} {s : State} (enough : 2 ≤ (s.entry m).keys) : closeEntry m b s =
    s.setEntry m { s.entry m with
      state := .ready, writer := none, flags := { (s.entry m).flags with storeFull := (s.entry m).flags.storeFull || b } } := by
  rw [closeEntry, if_pos enough]

theorem closeEntry_empty {m : MoveIx} {b : Bool} {s : State} (few : ¬ 2 ≤ (s.entry m).keys) : closeEntry m b s = emptyEntry m s := by
  rw [closeEntry, if_neg few]

theorem closeEntry_entry_other {m n : MoveIx} (ne : n ≠ m) (b : Bool) (s : State) : (closeEntry m b s).entry n = s.entry n := by
  by_cases enough : 2 ≤ (s.entry m).keys
  · rw [closeEntry_ready enough, setEntry_entry_other _ _ _ _ ne]
  · rw [closeEntry_empty enough, emptyEntry_entry_other ne]

theorem closeTake_eq {c : CloseCause} {s : State} {m : MoveIx} (held : s.recorder.move = some m) : closeTake c s =
    raise (.recordClosed m c ((closeEntry m (decide (c = .storeFull)) s).entry m).state (s.entry m).keys (s.entry m).endTime
      s.recorder.skipped) { closeEntry m (decide (c = .storeFull)) s with
        recorder := (closeEntry m (decide (c = .storeFull)) s).recorder.toIdle } := by
  rw [closeTake, held]

theorem raise_powered (d : Detail) {s : State} (h : s.PoweredLawful) : (raise d s).PoweredLawful := (raise_traffic d s).edits.powered h

theorem closeTake_powered (c : CloseCause) {s : State} {m : MoveIx} (h : s.RecorderAside m) : (closeTake c s).PoweredLawful := by
  rw [closeTake_eq h.held]
  refine raise_powered _ ?_
  by_cases enough : 2 ≤ (s.entry m).keys
  · rw [closeEntry_ready enough]
    refine powered_of_idleRecorder (s := s.setEntry m _) h.on ?_ ?_ h.none _
    · exact h.core.congr (setEntry_sameTables rfl rfl rfl rfl nofun) rfl h.core.waitA h.core.waitB
    · refine h.console.congr rfl rfl fun x held mine => ?_
      rw [setEntry_entry_other _ _ _ _ (txn_not_recorded h.mine x held mine)]
      exact .refl _
  · rw [closeEntry_empty enough]
    exact powered_of_idleRecorder ((emptyEntry_power m s).symm ▸ h.on) (emptyEntry_coreLawful h.core h.idle)
      (emptyEntry_consoleAsks h.console (txn_not_recorded h.mine)) ((emptyEntry_recorderAccesses m s).trans h.none) _

/-- The abort of a take that has no key (R147). -/
theorem abortTake_powered {s : State} {m : MoveIx} (h : s.RecorderAside m) : (abortTake s).PoweredLawful := by
  rw [abortTake, h.held]
  exact powered_of_idleRecorder ((emptyEntry_power m s).symm ▸ h.on) (emptyEntry_coreLawful h.core h.idle)
    (emptyEntry_consoleAsks h.console (txn_not_recorded h.mine)) ((emptyEntry_recorderAccesses m s).trans h.none) _

/-- A Recorder that holds no key has no request. -/
theorem State.RecorderAsks.none_of_empty {s : State} (h : s.RecorderAsks) (fifo : s.recorder.fifo = []) :
    s.recorder.outstanding = false ∧ s.port.recorderAccesses = [] := by
  rcases h with none | ⟨_, m, k, _, head, _⟩
  · exact none
  · rw [fifo] at head
    cases head

theorem State.PoweredLawful.aside {s : State} {m : MoveIx} (h : s.PoweredLawful) (held : s.recorder.move = some m)
    (fifo : s.recorder.fifo = []) : s.RecorderAside m where
  on := h.on
  core := h.core
  console := h.console
  held := held
  mine := (recorderLawful_iff.mp h.owner).2 m held
  none := (h.recorder.none_of_empty fifo).2

end Sys2Proof.Machine
end

section
/-! The arbiter (R83) keeps the laws of the Move Library, and so do the requests that reach it. -/

namespace Sys2Proof.Machine

/-! ### The end of the console transaction (R89) -/

/-- A console transaction may end once no request of it is at the port. -/
theorem endTxn_powered (c : Result) {s : State} (h : s.PoweredLawful) (none : s.port.consoleAccesses = []) :
    (endTxn c s).PoweredLawful := by
  refine (endTxn_traffic c s).edits.powered { h with console := .inl none, core := ?_, take := fun m held => ?_ }
  · exact h.core.congr (.of_lib rfl) rfl h.core.waitA h.core.waitB
  · exact (h.take m held).congr rfl rfl rfl

/-- No request of the console is at the port, and it writes the entry of the PUT_KEYS it holds: the transaction may go on. -/
structure State.ConsoleReady (s : State) : Prop where
  none : s.port.consoleAccesses = []
  mine : ∀ (x : Txn) (left : List Key) (n : Nat), s.txn = some x → x.work = .put left n → (s.entry x.move).byConsole = true

theorem State.ConsoleReady.congr {s t : State} (h : s.ConsoleReady) (none : t.port.consoleAccesses = s.port.consoleAccesses)
    (txn : t.txn = s.txn) (entry : ∀ m : MoveIx, (s.entry m).byConsole = true → (t.entry m).byConsole = true) : t.ConsoleReady where
  none := none.trans h.none
  mine := fun x left n held work => entry x.move (h.mine x left n (txn ▸ held) work)

theorem State.ConsoleReady.waits {s : State} (h : s.ConsoleReady) : s.port.waitConsole = Option.none := by
  have none := h.none
  unfold KeyPort.consoleAccesses at none
  exact Option.toList_eq_nil_iff.mp (List.append_eq_nil_iff.mp none).1

theorem closeTake_ready (c : CloseCause) {s : State} {m : MoveIx} (h : s.RecorderAside m) (ready : s.ConsoleReady) :
    (closeTake c s).ConsoleReady := by
  have entry : ∀ n : MoveIx, (s.entry n).byConsole = true → ((closeEntry m (decide (c = .storeFull)) s).entry n).byConsole = true :=
    fun n mine => by
      rwa [closeEntry_entry_other fun here : n = m => byRecorder_not_byConsole h.mine (here ▸ mine)]
  rw [closeTake_eq h.held]
  refine State.ConsoleReady.congr (s := closeEntry m (decide (c = .storeFull)) s) ?_ (congrArg _ (raise_traffic _ _).port)
    (raise_traffic _ _).txn fun n mine => ?_
  · by_cases enough : 2 ≤ (s.entry m).keys
    · rw [closeEntry_ready enough] at entry ⊢
      exact ready.congr rfl rfl entry
    · rw [closeEntry_empty enough] at entry ⊢
      have withdraws := emptyEntry_withdraws m s
      rcases withdraws.console with ⟨waits, txn⟩ | ⟨_, _, waited, _⟩
      · exact ready.congr (withdraws.consoleAccesses waits) txn entry
      · exact absurd ready.waits waited
  · rwa [entry_of_dir (congrArg Library.dir (raise_traffic _ _).lib)]

/-! ### A grant (R80, R83) -/

theorem serve_recorderAccesses (a : Access) (s : State) :
    (serve a s).port.recorderAccesses = s.port.waitRecorder.toList ++ a.recorders :=
  recorderAccesses_serving (v := { access := a, wanted := true, released := false }) rfl

theorem serve_consoleAccesses (a : Access) (s : State) :
    (serve a s).port.consoleAccesses = s.port.waitConsole.toList ++ a.consoles :=
  consoleAccesses_serving (v := { access := a, wanted := true, released := false }) rfl

theorem serve_writing (a : Access) (s : State) : (serve a s).port.writing? = a.writes? :=
  writing_serving (v := { access := a, wanted := true, released := false }) rfl

theorem serve_sameTables (a : Access) (s : State) : s.SameTables (serve a s) := .of_lib rfl

theorem next_cases {q q' : KeyPort} {a : Access} (taken : q.next? = some (a, q')) :
    (q.waitA = some a ∧ q' = { q with waitA := none }) ∨ (q.waitB = some a ∧ q' = { q with waitB := none }) ∨
      (q.waitRecorder = some a ∧ q' = { q with waitRecorder := none }) ∨
      (q.waitConsole = some a ∧ q' = { q with waitConsole := none }) := by
  unfold KeyPort.next? at taken
  split at taken <;> cases taken <;> simp [*]

/-- A law that a grant keeps, the arbiter keeps. -/
theorem arbitrate_keeps {P : State → Prop} (h : ∀ (s : State) (a : Access) (q : KeyPort), P s → s.port.serving = none →
    s.port.next? = some (a, q) → P (grant a { s with port := q })) (n : Nat) : ∀ s : State, P s → P (arbitrate n s) := by
  induction n with
  | zero => exact fun s => id
  | succ n ih =>
    intro s lawful
    unfold arbitrate
    split
    · exact lawful
    · next free =>
      split
      · exact lawful
      · next taken => exact ih _ (h s _ _ lawful free taken)

theorem isFetchOf_iff {a : Access} {p : PlayerId} : a.isFetchOf p = true ↔ ∃ m i b n, a = .fetch p m i b n := by
  cases a <;> simp [Access.isFetchOf]

/-- A granted fetch leaves the waiting set. -/
theorem served_fetch_edits {s : State} {q : KeyPort} {a : Access} {p : PlayerId} (free : s.port.serving = none)
    (fetch : a.isFetchOf p = true) (waitRecorder : q.waitRecorder = s.port.waitRecorder)
    (waitConsole : q.waitConsole = s.port.waitConsole) (waitA : q.waitA = s.port.waitA ∨ q.waitA = none)
    (waitB : q.waitB = s.port.waitB ∨ q.waitB = none) : s.Edits (serve a { s with port := q }) := by
  obtain ⟨m, i, b, n, rfl⟩ := isFetchOf_iff.mp fetch
  refine edits_port (sameWriters_fetch free rfl rfl rfl rfl waitRecorder waitConsole) (fun x wait => .inl ?_) fun x wait => .inl ?_
  · rcases waitA with same | gone
    · exact same ▸ wait
    · exact absurd (gone.symm.trans wait) nofun
  · rcases waitB with same | gone
    · exact same ▸ wait
    · exact absurd (gone.symm.trans wait) nofun

/-- A granted read of the console leaves the waiting set. -/
theorem served_read_edits {s : State} {m : MoveIx} {i b n : Nat} (free : s.port.serving = none)
    (waits : s.port.waitConsole = some (.consoleRead m i b n)) :
    s.Edits (serve (.consoleRead m i b n) { s with port := { s.port with waitConsole := none } }) := by
  refine edits_port (s := s) ⟨?_, ?_, ?_⟩ (fun _ => .inl) fun _ => .inl
  · rw [recorderAccesses_free free, recorderAccesses_serving rfl]
    exact List.append_nil _
  · rw [consoleAccesses_free free, waits, consoleAccesses_serving rfl]
    rfl
  · rw [writing_free free, writing_serving rfl]
    rfl

section
variable {s t : State} {m : MoveIx} (granted : allocate? m s = some t)
include granted

theorem allocate_stillWritten (n : MoveIx) : (s.entry n).StillWritten (t.entry n) := by
  obtain ⟨first, last, same⟩ := allocate_entry granted n
  rw [same]
  exact ⟨id, rfl, rfl⟩

theorem allocate_byRecorder {n : MoveIx} (mine : (s.entry n).byRecorder = true) : (t.entry n).byRecorder = true := by
  obtain ⟨first, last, same⟩ := allocate_entry granted n
  rw [same]
  exact mine

/-- A granted write has the block of its key (R80). -/
theorem granted_coreLawful {a : Access} (h : s.CoreLawful) (free : s.port.writing? = none) (open' : (s.entry m).state ≠ .empty)
    (writes : a.writes? = some m) : (serve a t).CoreLawful := by
  have fits : ∀ n : MoveIx, (s.chain (s.entry n)).length = blocksFor (s.entry n).keys := fun n => by
    rw [h.fits n, State.reserved, free, if_neg nofun, Nat.add_zero]
  have reserved : ∀ n : MoveIx, (serve a t).reserved n = (s.entry n).keys + if n = m then 1 else 0 := fun n => by
    rw [State.reserved, serve_writing, writes, ← (allocate_stillWritten granted n).keys]
    simp only [Option.some.injEq, eq_comm]
    rfl
  have only := allocate_only granted
  have waitA : ∀ x : Access, t.port.waitA = some x → x.isFetchOf .a = true := by rw [only]; exact h.waitA
  have waitB : ∀ x : Access, t.port.waitB = some x → x.isFetchOf .b = true := by rw [only]; exact h.waitB
  have fresh : ∀ b ∈ s.lib.freeList, (s.entry m).last ≠ some b := fun b isFree last => by
    rw [h.tables.blocks.last m] at last
    exact h.tables.blocks.free_not_chained isFree m (List.mem_of_getLast? last)
  rcases allocate_cases h.tables.canonical granted fresh with ⟨part, rfl⟩ | ⟨whole, b, prolongs⟩
  · refine ⟨(serve_sameTables a _).tablesLawful h.tables, fun n => ?_, waitA, waitB⟩
    rw [reserved]
    refine (fits n).trans ?_
    split
    · next here =>
      subst here
      unfold blocksFor Config.slots at *
      omega
    · rfl
  · have room : ∀ i < (s.entry m).keys, i / Config.slots < (s.chain (s.entry m)).length := fun i below =>
      div_slots_lt below (fits m)
    refine ⟨(serve_sameTables a t).tablesLawful (prolongs.tablesLawful h.tables open' room),
      fun n => ?_, waitA, waitB⟩
    rw [reserved]
    change (t.chain (t.entry n)).length = _
    by_cases here : n = m
    · subst here
      rw [prolongs.chain_same h.tables.blocks, List.length_append, List.length_singleton, fits, if_pos rfl]
      unfold blocksFor Config.slots at *
      omega
    · rw [prolongs.chain_other h.tables.blocks here, fits, if_neg here, Nat.add_zero]

end

/-- The Recorder's request has left the waiting set, and the port is FREE. -/
theorem recorderTaken {s : State} {m : MoveIx} (h : s.PoweredLawful) (free : s.port.serving = none)
    (held : s.recorder.move = some m) : ({ s with port := { s.port with waitRecorder := none } } : State).RecorderAside m where
  on := h.on
  core := h.core.congr (.of_lib rfl) rfl h.core.waitA h.core.waitB
  console := h.console.congr rfl rfl fun _ _ _ => .refl _
  held := held
  mine := (recorderLawful_iff.mp h.owner).2 m held
  none := recorderAccesses_free free

/-- The console's request has left the waiting set, and the port is FREE. -/
theorem consoleTaken {s : State} (h : s.PoweredLawful) (free : s.port.serving = none) :
    ({ s with port := { s.port with waitConsole := none } } : State).PoweredLawful ∧
      ({ s with port := { s.port with waitConsole := none } } : State).port.consoleAccesses = [] := by
  have none : ({ s.port with waitConsole := none } : KeyPort).consoleAccesses = [] := consoleAccesses_free free
  exact ⟨⟨h.on, h.core.congr (.of_lib rfl) rfl h.core.waitA h.core.waitB, h.owner, h.recorder.congr rfl rfl, .inl none,
    fun m held => (h.take m held).congr rfl rfl rfl⟩, none⟩

/-- What waits for the Recorder at a FREE port is the write of its FIFO head. -/
theorem recorder_waits {s : State} {a : Access} (h : s.RecorderAsks) (free : s.port.serving = none)
    (waits : s.port.waitRecorder = some a) : s.recorder.outstanding = true ∧
      ∃ (m : MoveIx) (k : Key), s.recorder.move = some m ∧ s.recorder.fifo.head? = some k ∧ a = .recorderWrite m k := by
  have asks : s.port.recorderAccesses = [a] := by rw [recorderAccesses_free free, waits]; rfl
  rcases h with ⟨_, none⟩ | ⟨outstanding, m, k, held, head, at'⟩
  · rw [asks] at none; cases none
  · exact ⟨outstanding, m, k, held, head, List.singleton_inj.mp (asks.symm.trans at')⟩

/-- What waits for the console at a FREE port is the next access of its transaction. -/
theorem console_waits {s : State} {a : Access} (h : s.ConsoleAsks) (free : s.port.serving = none)
    (waits : s.port.waitConsole = some a) : ∃ x : Txn, s.txn = some x ∧ s.NextAccess x a := by
  have asks : s.port.consoleAccesses = [a] := by rw [consoleAccesses_free free, waits]; rfl
  rcases h with none | ⟨x, b, held, at', ask⟩
  · rw [asks] at none; cases none
  · rw [List.singleton_inj.mp (asks.symm.trans at')]
    exact ⟨x, held, ask⟩

theorem byConsole_open {e : Entry} (h : e.byConsole = true) : e.state ≠ .empty := by
  rw [(byConsole_iff.mp h).1]
  decide

theorem byRecorder_open {e : Entry} (h : e.byRecorder = true) : e.state ≠ .empty := by
  rw [(byRecorder_iff.mp h).1]
  decide

/-- The grant of the Recorder's write. -/
theorem grant_recorderWrite {s : State} {m : MoveIx} {k : Key} (h : s.PoweredLawful) (free : s.port.serving = none)
    (waits : s.port.waitRecorder = some (.recorderWrite m k)) :
    (grant (.recorderWrite m k) { s with port := { s.port with waitRecorder := none } }).PoweredLawful := by
  obtain ⟨outstanding, m', k', held, head, same⟩ := recorder_waits h.recorder free waits
  obtain ⟨rfl, rfl⟩ : m = m' ∧ k = k' := by simpa using same
  have taken := recorderTaken h free held
  rw [grant]
  cases granted : allocate? m { s with port := { s.port with waitRecorder := none } } with
  | none => exact closeTake_powered _ taken
  | some t =>
    have only := allocate_only granted
    have recorder : (serve (.recorderWrite m k) t).recorder = s.recorder := by rw [only]; rfl
    exact {
      on := by rw [only]; exact h.on
      core := granted_coreLawful granted taken.core (writing_free free) (byRecorder_open taken.mine) rfl
      owner := recorderLawful_congr recorder (fun n _ mine => allocate_byRecorder granted mine) h.owner
      recorder := by
        refine .inr ⟨recorder ▸ outstanding, m, k, recorder ▸ held, recorder ▸ head, ?_⟩
        rw [only, serve_recorderAccesses]
        rfl
      console := taken.console.congr (by
          rw [only, serve_consoleAccesses, consoleAccesses_free (q := { s.port with waitRecorder := none }) free]
          exact List.append_nil _) (by rw [only]; rfl) fun x _ _ => allocate_stillWritten granted x.move
      take := fun n mine => (h.take n (recorder ▸ mine)).congr recorder (allocate_stillWritten granted n).keys
        (allocate_stillWritten granted n).endTime }

/-- The grant of a console write. -/
theorem grant_consoleWrite {s : State} {m : MoveIx} {k : Key} (h : s.PoweredLawful) (free : s.port.serving = none)
    (waits : s.port.waitConsole = some (.consoleWrite m k)) :
    (grant (.consoleWrite m k) { s with port := { s.port with waitConsole := none } }).PoweredLawful := by
  obtain ⟨taken, none⟩ := consoleTaken h free
  obtain ⟨x, held, ask⟩ := console_waits h.console free waits
  cases ask with
  | write work mine order =>
    rw [grant]
    cases granted : allocate? x.move { s with port := { s.port with waitConsole := .none } } with
    | none => exact endTxn_powered _ taken none
    | some t =>
      have only := allocate_only granted
      have recorder : (serve (.consoleWrite x.move k) t).recorder = s.recorder := by rw [only]; rfl
      have still := allocate_stillWritten granted x.move
      exact {
        on := by rw [only]; exact h.on
        core := granted_coreLawful granted taken.core (writing_free free) (byConsole_open mine) rfl
        owner := recorderLawful_congr recorder (fun n _ mine => allocate_byRecorder granted mine) h.owner
        recorder := taken.recorder.congr (by
            rw [only, serve_recorderAccesses, recorderAccesses_free (q := { s.port with waitConsole := .none }) free]
            exact List.append_nil _) recorder
        console := .inr ⟨x, _, by rw [only]; exact held, by
          rw [only, serve_consoleAccesses]
          rfl, .write work (still.byConsole mine) ((keyInOrder_congr still.keys still.endTime k).trans order)⟩
        take := fun n mine => (h.take n (recorder ▸ mine)).congr recorder (allocate_stillWritten granted n).keys
          (allocate_stillWritten granted n).endTime }

theorem grant_powered {s : State} {a : Access} {q : KeyPort} (h : s.PoweredLawful) (free : s.port.serving = none)
    (taken : s.port.next? = some (a, q)) : (grant a { s with port := q }).PoweredLawful := by
  rcases next_cases taken with ⟨waits, rfl⟩ | ⟨waits, rfl⟩ | ⟨waits, rfl⟩ | ⟨waits, rfl⟩
  · have fetch := h.core.waitA a waits
    have edits := served_fetch_edits (q := { s.port with waitA := none }) free fetch rfl rfl (.inr rfl) (.inl rfl)
    obtain ⟨m, i, b, n, rfl⟩ := isFetchOf_iff.mp fetch
    exact edits.powered h
  · have fetch := h.core.waitB a waits
    have edits := served_fetch_edits (q := { s.port with waitB := none }) free fetch rfl rfl (.inl rfl) (.inr rfl)
    obtain ⟨m, i, b, n, rfl⟩ := isFetchOf_iff.mp fetch
    exact edits.powered h
  · obtain ⟨_, m, k, _, _, rfl⟩ := recorder_waits h.recorder free waits
    exact grant_recorderWrite h free waits
  · obtain ⟨x, held, ask⟩ := console_waits h.console free waits
    cases ask with
    | write => exact grant_consoleWrite h free waits
    | read b n work =>
      exact (served_read_edits free waits).powered h

theorem grant_ready {s : State} {a : Access} {q : KeyPort} (h : s.PoweredLawful) (ready : s.ConsoleReady)
    (free : s.port.serving = none) (taken : s.port.next? = some (a, q)) : (grant a { s with port := q }).ConsoleReady := by
  have noFetch : ∀ p : PlayerId, a.isFetchOf p = true → q.waitConsole = s.port.waitConsole →
      (grant a { s with port := q }).ConsoleReady := fun p fetch waitConsole => by
    obtain ⟨m, i, b, n, rfl⟩ := isFetchOf_iff.mp fetch
    refine ready.congr ?_ rfl fun _ => id
    rw [consoleAccesses_free free, ← waitConsole, grant, serve_consoleAccesses]
    exact List.append_nil _
  rcases next_cases taken with ⟨waits, rfl⟩ | ⟨waits, rfl⟩ | ⟨waits, rfl⟩ | ⟨waits, rfl⟩
  · exact noFetch .a (h.core.waitA a waits) rfl
  · exact noFetch .b (h.core.waitB a waits) rfl
  · obtain ⟨_, m, k, held, _, rfl⟩ := recorder_waits h.recorder free waits
    have ready' : ({ s with port := { s.port with waitRecorder := none } } : State).ConsoleReady := ready.congr rfl rfl fun _ => id
    rw [grant]
    cases granted : allocate? m { s with port := { s.port with waitRecorder := none } } with
    | none => exact closeTake_ready _ (recorderTaken h free held) ready'
    | some t =>
      have only := allocate_only granted
      refine ready'.congr ?_ (by rw [only]; rfl) fun n => (allocate_stillWritten granted n).byConsole
      rw [only, serve_consoleAccesses, consoleAccesses_free (q := { s.port with waitRecorder := none }) free]
      exact List.append_nil _
  · rw [ready.waits] at waits
    cases waits

/-! ### The arbiter and the requests (R82, R83) -/

theorem arbitrate_powered (n : Nat) {s : State} (h : s.PoweredLawful) : (arbitrate n s).PoweredLawful :=
  arbitrate_keeps (fun _ _ _ lawful => grant_powered lawful) n s h

theorem arbitrate_ready (n : Nat) {s : State} (h : s.PoweredLawful) (ready : s.ConsoleReady) : (arbitrate n s).ConsoleReady :=
  (arbitrate_keeps (P := fun s => s.PoweredLawful ∧ s.ConsoleReady) (fun _ _ _ both free taken =>
    ⟨grant_powered both.1 free taken, grant_ready both.1 both.2 free taken⟩) n s ⟨h, ready⟩).2

/-- A request that may wait may be granted. -/
theorem requestPort_powered {a : Access} {s : State} (h : ({ s with port := s.port.await a } : State).PoweredLawful) :
    (requestPort a s).PoweredLawful := by
  unfold requestPort
  split
  · exact arbitrate_powered 5 h
  · exact h

theorem await_fetch_edits (p : PlayerId) (m : MoveIx) (i b n : Nat) (s : State) :
    s.Edits { s with port := s.port.await (.fetch p m i b n) } := by
  cases p with
  | a => exact edits_port (.of_access rfl rfl rfl) (fun a wait => .inr (Option.some.inj wait ▸ rfl)) fun _ => .inl
  | b => exact edits_port (.of_access rfl rfl rfl) (fun _ => .inl) fun a wait => .inr (Option.some.inj wait ▸ rfl)

theorem consoleAccesses_await {q : KeyPort} {a : Access} (console : a.consoles = [a]) (none : q.consoleAccesses = []) :
    (q.await a).consoleAccesses = [a] := by
  unfold KeyPort.consoleAccesses at none ⊢
  obtain ⟨_, serving⟩ := List.append_eq_nil_iff.mp none
  cases a with
  | fetch | recorderWrite => cases console
  | consoleWrite | consoleRead => exact congrArg (_ :: ·) serving

theorem recorderAccesses_await {q : KeyPort} {m : MoveIx} {k : Key} (none : q.recorderAccesses = []) :
    (q.await (.recorderWrite m k)).recorderAccesses = [.recorderWrite m k] := by
  unfold KeyPort.recorderAccesses at none ⊢
  exact congrArg (_ :: ·) (List.append_eq_nil_iff.mp none).2

/-- The next access of the console transaction may be requested. -/
theorem requestPort_console {a : Access} {x : Txn} {s : State} (h : s.PoweredLawful) (none : s.port.consoleAccesses = [])
    (held : s.txn = some x) (ask : s.NextAccess x a) : (requestPort a s).PoweredLawful := by
  have console : a.consoles = [a] := by cases ask <;> rfl
  have asks := consoleAccesses_await console none
  have same : s.port.recorderAccesses = (s.port.await a).recorderAccesses ∧ (s.port.await a).writing? = s.port.writing? ∧
      (s.port.await a).waitA = s.port.waitA ∧ (s.port.await a).waitB = s.port.waitB := by cases ask <;> exact ⟨rfl, rfl, rfl, rfl⟩
  obtain ⟨recorder, writing, waitA, waitB⟩ := same
  refine requestPort_powered ⟨h.on, h.core.congr (.of_lib rfl) writing (waitA ▸ h.core.waitA) (waitB ▸ h.core.waitB), h.owner,
    h.recorder.congr recorder.symm rfl, .inr ⟨x, a, held, asks, ?_⟩, fun m held => (h.take m held).congr rfl rfl rfl⟩
  cases ask with
  | write work mine order => exact .write work mine order
  | read b n work => exact .read b n work

/-- The transaction goes on, or ends (R92, R94). -/
theorem consoleStep_powered {s : State} (h : s.PoweredLawful) (ready : s.ConsoleReady) : (consoleStep s).PoweredLawful := by
  have ends : ∀ c : Result, (endTxn c s).PoweredLawful := fun c => endTxn_powered c h ready.none
  unfold consoleStep
  split
  · exact h
  · next x held =>
    split
    · exact ends _
    · next work =>
      split
      · next order => exact requestPort_console h ready.none held (.write work (ready.mine x _ _ held work) order)
      · exact ends _
    · next work =>
      split
      · exact ends _
      · split
        · exact ends _
        · exact requestPort_console h ready.none held (.read _ _ work)

end Sys2Proof.Machine
end

section
/-! The Recorder's own operations keep the laws of the Move Library. -/

namespace Sys2Proof.Machine

/-! ### Changes of the recorder record -/

theorem State.TakeLawful.of_take {s t : State} {m : MoveIx} (h : s.TakeLawful m) (mask : t.recorder.mask = s.recorder.mask)
    (fifo : t.recorder.fifo = s.recorder.fifo) (lastQueued : t.recorder.lastQueued = s.recorder.lastQueued)
    (frames : t.recorder.frames = s.recorder.frames) (armed : t.recorder.state = .armed → s.recorder.state = .armed)
    (keys : (t.entry m).keys = (s.entry m).keys) (endTime : (t.entry m).endTime = (s.entry m).endTime) : t.TakeLawful m where
  mask := by rw [mask]; exact h.mask
  rising := by rw [fifo]; exact h.rising
  head := fun k first => (keyInOrder_congr keys endTime k).trans (h.head k (fifo ▸ first))
  lastQueued := by rw [lastQueued, fifo, endTime]; exact h.lastQueued
  started := by rw [frames, lastQueued]; exact h.started
  reached := by rw [frames, lastQueued]; exact h.reached
  armed := fun state => by rw [frames]; exact h.armed (armed state)

/-- The same take: no key has been captured, and the Recorder has not become IDLE or ARMED. -/
structure Recorder.SameTake (r q : Recorder) : Prop where
  move : q.move = r.move := by rfl
  mask : q.mask = r.mask := by rfl
  frames : q.frames = r.frames := by rfl
  lastQueued : q.lastQueued = r.lastQueued := by rfl
  fifo : q.fifo = r.fifo := by rfl
  outstanding : q.outstanding = r.outstanding := by rfl
  armed : q.state = .armed → r.state = .armed := by exact id
  idle : q.state = .idle ↔ r.state = .idle := by exact .rfl

/-- A change of the recorder record that keeps its move. -/
theorem withRecorder_powered {s : State} {r : Recorder} (h : s.PoweredLawful) (move : r.move = s.recorder.move)
    (idle : r.state = .idle ↔ s.recorder.state = .idle) (asks : ({ s with recorder := r } : State).RecorderAsks)
    (take : ∀ m : MoveIx, s.recorder.move = some m → s.TakeLawful m → ({ s with recorder := r } : State).TakeLawful m) :
    ({ s with recorder := r } : State).PoweredLawful where
  on := h.on
  core := h.core.congr (.of_lib rfl) rfl h.core.waitA h.core.waitB
  owner := by
    have owner := h.owner
    rw [recorderLawful_iff] at owner ⊢
    simp only [move, ne_eq, idle]
    exact owner
  recorder := asks
  console := h.console.congr rfl rfl fun _ _ _ => .refl _
  take := fun m held => take m (move ▸ held) (h.take m (move ▸ held))

theorem setRecorder_powered {s : State} {r : Recorder} (h : s.PoweredLawful) (same : s.recorder.SameTake r) :
    ({ s with recorder := r } : State).PoweredLawful := by
  refine withRecorder_powered h same.move same.idle ?_ fun m held take =>
    take.of_take same.mask same.fifo same.lastQueued same.frames same.armed rfl rfl
  have asks := h.recorder
  rw [State.RecorderAsks] at asks ⊢
  rw [same.outstanding, same.move, same.fifo]
  exact asks

/-! ### The writes (R146) -/

theorem recorderWrite_powered {s : State} (h : s.PoweredLawful) : (recorderWrite s).PoweredLawful := by
  unfold recorderWrite
  split
  · next m k rest held fifo =>
    split
    · next ready =>
      have none : s.port.recorderAccesses = [] := by
        rcases h.recorder with ⟨_, none⟩ | ⟨outstanding, _⟩
        · exact none
        · rw [ready.2] at outstanding
          cases outstanding
      refine requestPort_powered ⟨h.on, h.core.congr (.of_lib rfl) rfl h.core.waitA h.core.waitB, ?_, ?_,
        h.console.congr rfl rfl fun _ _ _ => .refl _, fun n mine => ?_⟩
      · exact h.owner
      · exact .inr ⟨rfl, m, k, held, by rw [fifo]; rfl, recorderAccesses_await none⟩
      · exact (h.take n mine).of_take rfl rfl rfl rfl id rfl rfl
    · exact h
  · exact h

theorem recorderNext_powered {s : State} (h : s.PoweredLawful) : (recorderNext s).PoweredLawful := by
  unfold recorderNext
  split
  · next ends =>
    cases held : s.recorder.move with
    | none => rwa [closeTake, held]
    | some m => exact closeTake_powered _ (h.aside held ends.2)
  · exact recorderWrite_powered h

/-! ### Capture (R144, R145) -/

/-- Every key of the FIFO is at or before the last queued time. -/
theorem State.TakeLawful.queued {s : State} {m : MoveIx} (h : s.TakeLawful m) {n : Nat}
    (fresh : ∀ q : Nat, s.recorder.lastQueued = some q → q < n) : ∀ a ∈ s.recorder.fifo, a.time < n := by
  intro a mem
  have full : s.recorder.fifo ≠ [] := List.ne_nil_of_mem mem
  have lastTime : s.recorder.lastQueued = some (s.recorder.fifo.getLast full).time := by
    rw [h.lastQueued, List.getLast?_eq_some_getLast full]
  have below := fresh _ lastTime
  have rising := h.rising
  rw [← List.dropLast_append_getLast full] at mem rising
  rcases List.mem_append.mp mem with early | last
  · exact Nat.lt_trans ((List.pairwise_append.mp rising).2.2 a early _ (List.mem_singleton_self _)) below
  · rwa [List.mem_singleton.mp last]

/-- A key of a later time than the last one queued follows what is stored and queued. -/
theorem State.TakeLawful.inOrder {s : State} {m : MoveIx} (h : s.TakeLawful m) (times : s.KeyTimes m) {k : Key}
    (fresh : ∀ q : Nat, s.recorder.lastQueued = some q → q < k.time) (first : s.recorder.lastQueued = none → k.time = 0)
    (empty : s.recorder.fifo = []) : keyInOrder (s.entry m) k = true := by
  have queued : s.recorder.lastQueued = (s.entry m).endTime := by simpa [empty] using h.lastQueued
  rw [times.endTime] at queued
  rw [keyInOrder]
  split
  · next zero => exact decide_eq_true (first (by rw [queued, if_pos zero]))
  · next some =>
    rw [if_neg some] at queued
    exact decide_eq_true (by rw [times.endTime, if_neg some]; exact fresh _ queued)

/-- The frames since start may rise once a key has been queued. -/
theorem State.TakeLawful.counted {s : State} {m : MoveIx} {n : Nat} (h : s.TakeLawful m) (state : s.recorder.state ≠ .armed)
    (queued : s.recorder.lastQueued ≠ none) (fresh : ∀ q : Nat, s.recorder.lastQueued = some q → q ≤ n) :
    ({ s with recorder := { s.recorder with frames := some n } } : State).TakeLawful m where
  mask := h.mask
  rising := h.rising
  head := h.head
  lastQueued := h.lastQueued
  started := ⟨(nomatch ·), fun none => absurd none queued⟩
  reached := fun i q at' last => by
    cases at'
    exact fresh q last
  armed := fun armed => absurd armed state

theorem countFrame_powered {s : State} {k n : Nat} (h : s.PoweredLawful) (state : s.recorder.state ≠ .armed)
    (frames : s.recorder.frames = some k) (le : k ≤ n) :
    ({ s with recorder := { s.recorder with frames := some n } } : State).PoweredLawful :=
  withRecorder_powered h rfl .rfl h.recorder fun _ _ take => take.counted state
    (fun none => absurd (frames.symm.trans (take.started.mpr none)) nofun)
    fun q queued => Nat.le_trans (take.reached k q frames queued) le

/-- The recorder record once a key of this time has been placed at the FIFO tail (R144). -/
def Recorder.queued (r : Recorder) (time : Nat) (k : Mask) : Recorder :=
  { r with fifo := r.fifo ++ [{ time := time, shape := r.shape, positions := r.capture k }], lastQueued := some time }

/-- The recorder record once a due key has been skipped (R145). -/
def Recorder.skip (r : Recorder) : Recorder := { r with skipped := min (r.skipped + 1) Config.maxSkipped }

/-- The entry of a take that has skipped a key (R145). -/
def Entry.gap (e : Entry) : Entry := { e with flags := { e.flags with gapped := true } }

section
variable {s : State} {m : MoveIx} {k : Mask} (n : Nat)

theorem dueKey_idle (idle : s.recorder.move = none) : dueKey n s = s := by
  unfold dueKey
  simp only [idle]

theorem dueKey_room (held : s.recorder.move = some m) (mask : s.recorder.mask = some k)
    (room : s.recorder.fifo.length < Config.fifoDepth) : dueKey n s = { s with recorder := s.recorder.queued n k } := by
  unfold dueKey
  simp only [held, mask, if_pos room]
  simp only [Recorder.queued, held, mask]

theorem dueKey_full (held : s.recorder.move = some m) (mask : s.recorder.mask = some k)
    (full : ¬ s.recorder.fifo.length < Config.fifoDepth) :
    dueKey n s = { s.setEntry m (s.entry m).gap with recorder := s.recorder.skip } := by
  unfold dueKey
  simp only [held, mask, if_neg full]
  simp only [Entry.gap, Recorder.skip, held, mask]

end

theorem gap_edits (s : State) (m : MoveIx) : s.Edits (s.setEntry m (s.entry m).gap) := edits_entry rfl rfl rfl rfl (.inl rfl) (.inl rfl)

/-- A key of a later time follows the keys of the take. -/
theorem State.TakeLawful.queues {s : State} {m : MoveIx} {n : Nat} {k : Mask} (h : s.TakeLawful m) (times : s.KeyTimes m)
    (state : s.recorder.state ≠ .armed) (fresh : ∀ q : Nat, s.recorder.lastQueued = some q → q < n)
    (first : s.recorder.lastQueued = none → n = 0) :
    ({ s with recorder := { s.recorder with frames := some n }.queued n k } : State).TakeLawful m where
  mask := h.mask
  rising := List.pairwise_append.mpr ⟨h.rising, List.pairwise_singleton _ _, fun a mem b last => by
    rw [List.mem_singleton.mp last]
    exact h.queued fresh a mem⟩
  head := fun x front => by
    cases fifo : s.recorder.fifo with
    | nil =>
      rw [Recorder.queued, fifo] at front
      cases front
      exact h.inOrder times fresh first fifo
    | cons y rest =>
      rw [Recorder.queued, fifo] at front
      exact h.head x (fifo ▸ front)
  lastQueued := by simp [Recorder.queued]
  started := ⟨(nomatch ·), (nomatch ·)⟩
  reached := fun i q at' last => by
    cases at'
    cases last
    exact Nat.le_refl n
  armed := fun armed => absurd armed state

/-- A due key is placed or skipped at a publication whose frame number follows the last queued time (R144, R145). -/
theorem dueKey_powered {s : State} {n : Nat} (h : s.PoweredLawful) (state : s.recorder.state ≠ .armed)
    (fresh : ∀ q : Nat, s.recorder.lastQueued = some q → q < n) (first : s.recorder.lastQueued = none → n = 0) :
    (dueKey n { s with recorder := { s.recorder with frames := some n } }).PoweredLawful := by
  cases held : s.recorder.move with
  | none =>
    rw [dueKey_idle n (s := { s with recorder := { s.recorder with frames := some n } }) held]
    exact withRecorder_powered h rfl .rfl h.recorder fun m mine => absurd (held.symm.trans mine) nofun
  | some m =>
    have take := h.take m held
    obtain ⟨k, mask⟩ := Option.ne_none_iff_exists'.mp take.mask
    by_cases room : s.recorder.fifo.length < Config.fifoDepth
    · rw [dueKey_room n (s := { s with recorder := { s.recorder with frames := some n } }) held mask room]
      refine withRecorder_powered (s := s) (r := ({ s.recorder with frames := some n } : Recorder).queued n k) h rfl .rfl ?_ fun m' mine take =>
        take.queues (h.core.tables.times m') state fresh first
      rcases h.recorder with none | ⟨outstanding, m', x, mine, head, asks⟩
      · exact .inl none
      · exact .inr ⟨outstanding, m', x, mine, by simp [Recorder.queued, head], asks⟩
    · rw [dueKey_full n (s := { s with recorder := { s.recorder with frames := some n } }) held mask room]
      have queued : s.recorder.lastQueued ≠ none := fun none => by
        rw [take.lastQueued] at none
        cases last : s.recorder.fifo.getLast? with
        | none => exact room (by rw [List.getLast?_eq_none_iff.mp last]; decide)
        | some y => rw [last] at none; cases none
      have counted : ({ s with recorder := { s.recorder with frames := some n } } : State).PoweredLawful :=
        withRecorder_powered h rfl .rfl h.recorder fun _ _ take => take.counted state queued fun q at' => Nat.le_of_lt (fresh q at')
      exact setRecorder_powered (r := ({ s.recorder with frames := some n } : Recorder).skip) ((gap_edits _ m).powered counted) {}

theorem recorderTakes_powered {s : State} (h : s.PoweredLawful) : (recorderTakes s).PoweredLawful := setRecorder_powered h {}

theorem recorder_busy {s : State} (h : s.PoweredLawful) (busy : s.recorder.state ≠ .idle) : ∃ m : MoveIx, s.recorder.move = some m :=
  Option.isSome_iff_exists.mp ((recorderLawful_iff.mp h.owner).1.mpr busy)

/-- The frames of a publication in RECORDING follow the last queued time. -/
theorem nextFrames_fresh {s : State} {m : MoveIx} (h : s.TakeLawful m) :
    (∀ q : Nat, s.recorder.lastQueued = some q → q < s.recorder.nextFrames) ∧
      (s.recorder.lastQueued = none → s.recorder.nextFrames = 0) := by
  cases frames : s.recorder.frames with
  | none =>
    refine ⟨fun q queued => ?_, fun _ => by rw [Recorder.nextFrames, frames]⟩
    rw [h.started.mp frames] at queued
    cases queued
  | some k =>
    refine ⟨fun q queued => ?_, fun none => ?_⟩
    · rw [Recorder.nextFrames, frames]
      exact Nat.lt_succ_of_le (h.reached k q frames queued)
    · rw [h.started.mpr none] at frames
      cases frames

theorem recorderCapture_powered {s : State} (h : s.PoweredLawful) : (recorderCapture s).PoweredLawful := by
  unfold recorderCapture
  split
  · next recording =>
    obtain ⟨m, held⟩ := recorder_busy h (by rw [recording]; decide)
    have state : s.recorder.state ≠ .armed := by rw [recording]; decide
    obtain ⟨fresh, first⟩ := nextFrames_fresh (h.take m held)
    simp only
    split
    · exact recorderWrite_powered (dueKey_powered h state fresh first)
    · next notDue =>
      cases frames : s.recorder.frames with
      | none =>
        rw [Recorder.nextFrames, frames, Nat.zero_mod] at notDue
        exact absurd rfl notDue
      | some k =>
        refine countFrame_powered h state frames ?_
        rw [Recorder.nextFrames, frames]
        exact Nat.le_succ k
  · exact h

/-! ### The ends of a take (R147, R150) -/

theorem endTake_powered (c : CloseCause) {s : State} {t : Nat} (h : s.PoweredLawful) (recording : s.recorder.state = .recording)
    (frames : s.recorder.frames = some t) : (endTake c s).PoweredLawful := by
  obtain ⟨m, held⟩ := recorder_busy h (by rw [recording]; decide)
  have take := h.take m held
  have final : (if s.recorder.lastQueued = some (s.recorder.frames.getD 0) then s
      else dueKey (s.recorder.frames.getD 0) s).PoweredLawful := by
    rw [frames, Option.getD_some]
    split
    · exact h
    · next missing =>
      have counted : ({ s with recorder := { s.recorder with frames := some t } } : State) = s := by rw [← frames]
      have due := dueKey_powered (n := t) h (by rw [recording]; decide) (fun q queued =>
        Nat.lt_of_le_of_ne (take.reached t q frames queued) fun same => missing (same ▸ queued)) fun none => by
          rw [take.started.mpr none] at frames
          cases frames
      rwa [counted] at due
  have state : (if s.recorder.lastQueued = some (s.recorder.frames.getD 0) then s
      else dueKey (s.recorder.frames.getD 0) s).recorder.state = .recording := by
    split
    · exact recording
    · unfold dueKey
      simp only
      split
      · split <;> exact recording
      · exact recording
  refine recorderNext_powered (setRecorder_powered final { armed := nofun, idle := ?_ })
  rw [state]
  exact ⟨nofun, nofun⟩

theorem recorderTimeLimit_powered {s : State} (h : s.PoweredLawful) : (recorderTimeLimit s).PoweredLawful := by
  unfold recorderTimeLimit
  split
  · next reached => exact endTake_powered _ h reached.1 reached.2
  · exact h

theorem recorderPublication_powered {s : State} (h : s.PoweredLawful) : (recorderPublication s).PoweredLawful :=
  recorderTimeLimit_powered (recorderCapture_powered (recorderTakes_powered h))

theorem abortTake_starting {s : State} (h : s.PoweredLawful) (busy : s.recorder.state ≠ .idle) (frames : s.recorder.frames = none) :
    (abortTake s).PoweredLawful := by
  obtain ⟨m, held⟩ := recorder_busy h busy
  have take := h.take m held
  have none := take.started.mp frames
  have fifo : s.recorder.fifo = [] := by
    rw [take.lastQueued] at none
    cases last : s.recorder.fifo.getLast? with
    | none => exact List.getLast?_eq_none_iff.mp last
    | some y => rw [last] at none; cases none
  exact abortTake_powered (h.aside held fifo)

theorem recordStopRequest_powered {s : State} (h : s.PoweredLawful) : (recordStopRequest s).1.PoweredLawful := by
  unfold recordStopRequest
  split
  · exact h
  · next armed =>
    have busy : s.recorder.state ≠ .idle := by rw [armed]; decide
    obtain ⟨m, held⟩ := recorder_busy h busy
    exact abortTake_starting h busy ((h.take m held).armed armed)
  · next recording =>
    split
    · next starting => exact abortTake_starting h (by rw [recording]; decide) (Option.isNone_iff_eq_none.mp starting)
    · next begun =>
      obtain ⟨t, frames⟩ := Option.ne_none_iff_exists'.mp (mt Option.isNone_iff_eq_none.mpr begun)
      exact endTake_powered _ h recording frames
  · exact h

theorem recorderHears_powered {s : State} (h : s.PoweredLawful) : (recorderHears s).PoweredLawful := by
  unfold recorderHears
  split
  · next hears =>
    cases frames : s.recorder.frames with
    | none => exact setRecorder_powered h { frames := frames.symm }
    | some k =>
      have counted := countFrame_powered (n := k + 1) h (by rw [hears.1]; decide) frames (Nat.le_succ k)
      exact setRecorder_powered (s := { s with recorder := { s.recorder with frames := some (k + 1) } })
        (r := { s.recorder with frames := some (k + 1), outs := s.outputSet }) counted {}
  · exact h

theorem endRecRequest_powered {s : State} (h : s.PoweredLawful) : (endRecRequest s).1.PoweredLawful :=
  recordStopRequest_powered (recorderHears_powered h)

theorem recorderGo_powered {s : State} (h : s.PoweredLawful) : (recorderGo s).PoweredLawful := by
  unfold recorderGo
  split
  · next armed =>
    have begun := setRecorder_powered (r := { s.recorder with state := .recording }) h
      { armed := nofun, idle := by rw [armed]; exact ⟨nofun, nofun⟩ }
    simp only
    split
    · exact raise_powered _ begun
    · exact begun
  · exact h

/-! ### Opening an entry (R90, R142) -/

/-- An EMPTY entry has no key and no block. -/
theorem empty_entry {s : State} {m : MoveIx} (h : s.TablesLawful) (empty : (s.entry m).state = .empty) :
    (s.entry m).first = none ∧ (s.entry m).last = none ∧ (s.entry m).keys = 0 ∧ (s.entry m).endTime = none := by
  have first := h.blocks.empty m empty
  have keys := h.empty m empty
  refine ⟨first, ?_, keys, ?_⟩
  · rw [h.blocks.last m, State.chain, first, chainFrom_none]
    rfl
  · rw [(h.times m).endTime, if_pos keys]

theorem opened_edits {s : State} {m : MoveIx} (h : s.TablesLawful) (empty : (s.entry m).state = .empty) (name : List Nat)
    (mask : Mask) (w : Writer) : s.Edits (s.setEntry m (Entry.opened name mask w)) := by
  obtain ⟨first, last, keys, endTime⟩ := empty_entry h empty
  have quiet : (s.entry m).state ≠ .writing := by rw [empty]; decide
  exact edits_entry first.symm last.symm keys.symm endTime.symm (.inr ⟨quiet, nofun⟩) (.inr quiet)

/-- A take begins at an entry that holds no key (R142). -/
theorem startTake_powered {s : State} {r : Recorder} {m : MoveIx} (h : s.PoweredLawful) (none : s.port.recorderAccesses = [])
    (outstanding : r.outstanding = false) (held : r.move = some m) (fifo : r.fifo = []) (mask : r.mask ≠ Option.none)
    (lastQueued : r.lastQueued = Option.none) (frames : r.frames = Option.none) (busy : r.state ≠ .idle)
    (mine : (s.entry m).byRecorder = true) (endTime : (s.entry m).endTime = Option.none) :
    ({ s with recorder := r } : State).PoweredLawful where
  on := h.on
  core := h.core.congr (.of_lib rfl) rfl h.core.waitA h.core.waitB
  owner := by
    refine recorderLawful_iff.mpr ⟨⟨fun _ => busy, fun _ => by rw [held]; rfl⟩, fun n held' => ?_⟩
    cases held.symm.trans held'
    exact mine
  recorder := .inl ⟨outstanding, none⟩
  console := h.console.congr rfl rfl fun _ _ _ => .refl _
  take := fun n held' => by
    cases held.symm.trans held'
    refine ⟨mask, ?_, fun k head => ?_, ?_, ⟨fun _ => lastQueued, fun _ => frames⟩, fun i _ at' => ?_, fun _ => frames⟩
    · rw [fifo]
      exact List.Pairwise.nil
    · rw [fifo] at head
      cases head
    · rw [lastQueued, fifo]
      exact endTime.symm
    · rw [frames] at at'
      cases at'

theorem recordStartRequest_powered (id : Nat) (name : List Nat) (mask d sh tr : Nat) {s : State} (h : s.PoweredLawful) :
    (recordStartRequest id name mask d sh tr s).1.PoweredLawful := by
  unfold recordStartRequest
  split
  · next m k shape armed _ _ _ _ =>
    split
    · exact h
    · split
      · exact h
      · next idle =>
        split
        · exact h
        · next empty =>
          have opened := (opened_edits h.core.tables (not_not.mp empty) name k .recorder).powered h
          have none : s.recorder.move = none := by
            rw [← Option.not_isSome_iff_eq_none, (recorderLawful_iff.mp h.owner).1]
            exact idle
          have quiet : s.recorder.outstanding = false ∧ s.port.recorderAccesses = [] := by
            rcases h.recorder with quiet | ⟨_, _, _, held, _⟩
            · exact quiet
            · rw [none] at held
              cases held
          refine startTake_powered opened quiet.2 rfl rfl rfl nofun rfl rfl (by cases armed <;> exact nofun) ?_ ?_
          · exact (congrArg Entry.byRecorder (setEntry_entry_same s m _)).trans rfl
          · exact (congrArg Entry.endTime (setEntry_entry_same s m _)).trans rfl
  · exact h

end Sys2Proof.Machine
end

section
/-! The completion of an access (R82) keeps the laws of the Move Library. -/

namespace Sys2Proof.Machine

/-! ### Changes aside from the writers -/

theorem State.Edits.refl (s : State) : s.Edits s :=
  ⟨fun _ => .of_lib rfl, fun _ writing => ⟨writing, rfl⟩, .of_access rfl rfl rfl, fun _ => .inl, fun _ => .inl, rfl, rfl, rfl⟩

theorem State.Edits.trans {s t u : State} (h : s.Edits t) (k : t.Edits u) : s.Edits u where
  tables := fun wf => (h.tables wf).trans (k.tables ((h.tables wf).canonical wf))
  written := fun m writing => by
    obtain ⟨state, writer⟩ := h.written m writing
    obtain ⟨state', writer'⟩ := k.written m state
    exact ⟨state', writer'.trans writer⟩
  writers := ⟨k.writers.recorder.trans h.writers.recorder, k.writers.console.trans h.writers.console,
    k.writers.writing.trans h.writers.writing⟩
  waitA := fun a wait => (k.waitA a wait).elim (h.waitA a) .inr
  waitB := fun a wait => (k.waitB a wait).elim (h.waitB a) .inr
  txn := k.txn.trans h.txn
  recorder := k.recorder.trans h.recorder
  power := k.power.trans h.power

theorem State.Edits.ite {s t u : State} {c : Prop} [Decidable c] (h : s.Edits t) (k : s.Edits u) : s.Edits (if c then t else u) := by
  split
  · exact h
  · exact k

/-- A change of neither the library, the port, the transaction, the Recorder nor the power. -/
theorem State.Edits.aside {s t : State} (lib : t.lib = s.lib) (port : t.port = s.port) (txn : t.txn = s.txn)
    (recorder : t.recorder = s.recorder) (power : t.power = s.power) : s.Edits t where
  tables := fun _ => .of_lib lib
  written := fun m writing => by
    rw [entry_of_dir (congrArg Library.dir lib)]
    exact ⟨writing, rfl⟩
  writers := port ▸ .of_access rfl rfl rfl
  waitA := fun _ wait => .inl (port ▸ wait)
  waitB := fun _ wait => .inl (port ▸ wait)
  txn := txn
  recorder := recorder
  power := power

theorem State.Edits.of_tables {s : State} {l : Library} (tables : s.lib.wf = true → s.SameTables { s with lib := l })
    (dir : l.dir = s.lib.dir) : s.Edits { s with lib := l } where
  tables := tables
  written := fun m writing => by
    rw [entry_of_dir (t := { s with lib := l }) (s := s) dir]
    exact ⟨writing, rfl⟩
  writers := .of_access rfl rfl rfl
  waitA := fun _ => .inl
  waitB := fun _ => .inl
  txn := rfl
  recorder := rfl
  power := rfl

theorem setPlayer_edits (p : PlayerId) (r : Player) (s : State) : s.Edits (s.setPlayer p r) := by
  cases p <;> exact .aside rfl rfl rfl rfl rfl

theorem raise_edits (d : Detail) (s : State) : s.Edits (raise d s) := (raise_traffic d s).edits

theorem mapAxes_edits (g : Fin 8 → Axis → Axis) (s : State) : s.Edits (s.mapAxes g) := .aside rfl rfl rfl rfl rfl

theorem disown_waits (q : KeyPort) (p : PlayerId) : (q.disown p).waitA = q.waitA ∧ (q.disown p).waitB = q.waitB := by
  unfold KeyPort.disown
  split
  · split <;> exact ⟨rfl, rfl⟩
  · exact ⟨rfl, rfl⟩

/-- A player that becomes IDLE returns its claim and gives up its fetch (R125). -/
theorem becomeIdle_edits (p : PlayerId) (s : State) : s.Edits (becomeIdle p s) := by
  have cleared : ∀ u : State, u.Edits ({ u with port := (u.port.withdraw p).disown p }.setPlayer p (s.player p).toIdle) := fun u => by
    refine .trans (edits_port (q := u.port.withdraw p) (withdraw_sameWriters _ p) ?_ ?_) (.trans (edits_port
      (q := (u.port.withdraw p).disown p) (disown_sameWriters _ p) ?_ ?_) (setPlayer_edits p _ _))
    · intro a wait
      cases p
      · cases wait
      · exact .inl wait
    · intro a wait
      cases p
      · exact .inl wait
      · cases wait
    · intro a wait
      rw [(disown_waits _ p).1] at wait
      exact .inl wait
    · intro a wait
      rw [(disown_waits _ p).2] at wait
      exact .inl wait
  unfold becomeIdle
  simp only
  split
  · next m _ =>
    exact .trans (edits_entry (m := m) (e := { s.entry m with users := (s.entry m).users - 1 }) rfl rfl rfl rfl (.inl rfl) (.inl rfl))
      (cleared _)
  · exact cleared s

theorem clearIfGone_edits (p : PlayerId) (n : Nat) (s : State) : s.Edits (clearIfGone p n s) :=
  .ite (.ite (becomeIdle_edits p s) (.refl s)) (.refl s)

theorem withClears_edits (s t : State) : t.Edits (withClears s t) := (clearIfGone_edits .a _ t).trans (clearIfGone_edits .b _ _)

theorem handBackWhere_edits (p : Blend → Bool) (s : State) : s.Edits (handBackWhere p s) :=
  (mapAxes_edits _ s).trans (withClears_edits s _)

theorem playerFault_edits (p : PlayerId) (i : Nat) (s : State) : s.Edits (playerFault p i s) :=
  (setPlayer_edits p _ s).trans ((handBackWhere_edits _ _).trans (raise_edits _ _))

theorem deliverFetch_edits (f : Bool) (p : PlayerId) (i : Nat) (r : Bool) (c : KeyCheck) (k : Key) (next : Option (Nat × Nat))
    (s : State) : s.Edits (deliverFetch f p i r c k next s) :=
  .ite (setPlayer_edits p _ s) (.ite (.ite (setPlayer_edits p _ s) (playerFault_edits p i s)) (setPlayer_edits p _ s))

theorem fetchIfRoom_powered (p : PlayerId) {s : State} (h : s.PoweredLawful) : (fetchIfRoom p s).PoweredLawful := by
  unfold fetchIfRoom
  simp only
  split
  · split
    · exact requestPort_powered ((await_fetch_edits p _ _ _ _ _).powered ((setPlayer_edits p _ s).powered h))
    · exact h
  · exact h

/-! ### The completion of a read (R75, R85) -/

theorem setBlock_suspect_edits (b : Nat) (s : State) : s.Edits (s.setBlock b { s.block b with suspect := true }) :=
  .of_tables (fun wf => setBlock_suspect_sameTables wf b) rfl

theorem setSlot_health_edits (b n : Nat) (c : KeyCheck) (s : State) : s.Edits (s.setSlot b n { s.slot b n with health := c }) :=
  .of_tables (fun wf => setSlot_health_sameTables wf b n c) rfl

theorem reportRead_edits (m : MoveIx) (i b : Nat) (p : Option PlayerId) (c : KeyCheck) (s : State) :
    s.Edits (reportRead m i b p c s) := by
  unfold reportRead
  split
  · exact .refl s
  · exact ((faultReport_traffic _ s).trans (raise_traffic _ _)).edits
  · have flagged : s.Edits (s.setEntry m { s.entry m with flags := { (s.entry m).flags with damaged := true } }) :=
      edits_entry rfl rfl rfl rfl (.inl rfl) (.inl rfl)
    exact flagged.trans ((setBlock_suspect_edits b _).trans ((faultReport_traffic _ _).trans (raise_traffic _ _)).edits)

theorem finishRead_edits (m : MoveIx) (i b n : Nat) (p : Option PlayerId) (c : KeyCheck) (s : State) :
    s.Edits (finishRead m i b n p c s) :=
  (setSlot_health_edits b n _ s).trans (reportRead_edits m i b p _ _)

/-- The port may be freed of an access that is no write. -/
theorem unserved_powered {s : State} {v : Serving} (h : s.PoweredLawful) (serving : s.port.serving = some v)
    (reads : v.access.writes? = none) : s.unserved.PoweredLawful := by
  have recorders : v.access.recorders = [] := by
    cases access : v.access with
    | recorderWrite | consoleWrite => rw [access] at reads; cases reads
    | fetch | consoleRead => rfl
  have recorder : s.unserved.port.recorderAccesses = s.port.recorderAccesses := by
    rw [recorderAccesses_serving serving, recorders, List.append_nil]
    exact recorderAccesses_free rfl
  have asks : s.unserved.port.consoleAccesses = s.port.waitConsole.toList := consoleAccesses_free rfl
  refine ⟨h.on, h.core.congr (.of_lib rfl) ?_ h.core.waitA h.core.waitB, h.owner, h.recorder.congr recorder rfl, ?_,
    fun m held => (h.take m held).congr rfl rfl rfl⟩
  · rw [writing_serving serving, reads]
    exact writing_free rfl
  · have console := h.console
    have same := consoleAccesses_serving serving
    cases waits : s.port.waitConsole with
    | none => exact .inl (by rw [asks, waits]; rfl)
    | some a =>
      refine console.congr ?_ rfl fun _ _ _ => .refl _
      have one := console.one
      rw [same, waits, Option.toList_some, List.singleton_append, List.length_cons] at one
      rw [asks, same, waits, List.length_eq_zero_iff.mp (Nat.le_zero.mp (Nat.le_of_succ_le_succ one)), List.append_nil]

theorem unserved_deliverFetch (f : Bool) (p : PlayerId) (i : Nat) (r : Bool) (c : KeyCheck) (k : Key) (next : Option (Nat × Nat))
    (s : State) : (deliverFetch f p i r c k next s).unserved = deliverFetch f p i r c k next s.unserved := by
  have fault : (playerFault p i s).unserved = playerFault p i s.unserved := by
    have noticed : ∀ u : State, (playerNotice p u).unserved = playerNotice p u.unserved := fun u => by cases p <;> rfl
    unfold playerFault releaseRequest
    simp only
    rw [noticed, unserved_handBackWhere, unserved_setPlayer, unserved_player]
  unfold deliverFetch discardOutcome deferFault
  rw [unserved_player]
  split
  · exact unserved_setPlayer _ _ _
  · split
    · split
      · exact unserved_setPlayer _ _ _
      · exact fault
    · exact unserved_setPlayer _ _ _

/-- The completion of a fetch (R82, R108), before the arbiter acts. -/
theorem fetchCompleted_powered {s : State} {p : PlayerId} {m : MoveIx} {i b n : Nat} {w r : Bool} (h : s.PoweredLawful)
    (serving : s.port.serving = some { access := .fetch p m i b n, wanted := w, released := r }) (f : Bool) (c : KeyCheck) :
    (deliverOutcome f { access := .fetch p m i b n, wanted := w, released := r } c
      (finishAccess { access := .fetch p m i b n, wanted := w, released := r } c s)).unserved.PoweredLawful := by
  have finished : s.Edits (finishAccess { access := .fetch p m i b n, wanted := w, released := r } c s) :=
    .ite (.refl s) (finishRead_edits m i b n _ c s)
  have freed := unserved_powered (finished.powered h) (((finishAccess_aside _ c s).port ▸ serving)) rfl
  unfold deliverOutcome
  simp only
  split
  · rw [unserved_deliverFetch]
    exact (deliverFetch_edits ..).powered freed
  · exact freed

/-! ### The completion of a write (R80) -/

section
variable {m : MoveIx} {x : Key} {s : State}

theorem storeKey_entry_same (wf : s.lib.wf = true) : (storeKey m x s).entry m =
    { s.entry m with keys := (s.entry m).keys + 1, endTime := some x.time } := (storeKey_stores m x wf).same

theorem storeKey_entry_other (wf : s.lib.wf = true) {n : MoveIx} (ne : n ≠ m) : (storeKey m x s).entry n = s.entry n :=
  (storeKey_stores m x wf).entries n ne

/-- The writer of an entry goes on writing it when a key is stored. -/
theorem storeKey_written (wf : s.lib.wf = true) (n : MoveIx) : ((storeKey m x s).entry n).byRecorder = (s.entry n).byRecorder ∧
    ((storeKey m x s).entry n).byConsole = (s.entry n).byConsole := by
  by_cases here : n = m
  · rw [here, storeKey_entry_same wf]
    exact ⟨rfl, rfl⟩
  · rw [storeKey_entry_other wf here]
    exact ⟨rfl, rfl⟩

/-- The key of the write in progress is stored. -/
theorem stored_coreLawful (h : s.CoreLawful) (writing : s.port.writing? = some m) (order : keyInOrder (s.entry m) x = true)
    (open' : (s.entry m).state ≠ .empty) : (storeKey m x s).unserved.CoreLawful := by
  have stores := storeKey_stores m x h.tables.canonical
  have room : (s.chain (s.entry m)).length = (s.entry m).keys / Config.slots + 1 := by
    rw [h.fits m, State.reserved, if_pos writing, blocksFor_succ]
  have others : ∀ n : MoveIx, n ≠ m → (s.chain (s.entry n)).length = blocksFor (s.entry n).keys := fun n ne => by
    rw [h.fits n, State.reserved, if_neg (by rw [writing]; simpa using Ne.symm ne), Nat.add_zero]
  have tables := stores.tablesLawful h.tables order open' room others
  have port : (storeKey m x s).port = s.port := by rw [storeKey_only]
  have idle : (storeKey m x s).unserved.port.writing? = none := writing_free rfl
  have same : (storeKey m x s).SameTables (storeKey m x s).unserved := .of_lib rfl
  refine ⟨same.tablesLawful tables, fun n => ?_, ?_, ?_⟩
  · have chain : (storeKey m x s).unserved.chain ((storeKey m x s).unserved.entry n) = s.chain (s.entry n) := stores.chain n
    have keys : (storeKey m x s).unserved.entry n = (storeKey m x s).entry n := rfl
    rw [chain, State.reserved, idle, if_neg nofun, Nat.add_zero, keys]
    by_cases here : n = m
    · rw [here, stores.same, room, blocksFor_succ]
    · rw [stores.entries n here, others n here]
  · exact fun a wait => h.waitA a (port ▸ wait)
  · exact fun a wait => h.waitB a (port ▸ wait)

end

/-- The Recorder's write in progress is the one of its FIFO head. -/
theorem recorder_serves {s : State} {v : Serving} {m : MoveIx} {k : Key} (h : s.RecorderAsks) (serving : s.port.serving = some v)
    (access : v.access = .recorderWrite m k) : s.recorder.move = some m ∧ s.recorder.fifo.head? = some k ∧ s.port.waitRecorder = none := by
  have asks := recorderAccesses_serving serving
  rw [access] at asks
  rcases h with ⟨_, none⟩ | ⟨_, m', k', held, head, at'⟩
  · rw [none] at asks
    exact absurd asks.symm (by simp [Access.recorders])
  · rw [asks] at at'
    cases waits : s.port.waitRecorder with
    | none =>
      obtain ⟨rfl, rfl⟩ : m = m' ∧ k = k' := by simpa [waits, Access.recorders] using at'
      exact ⟨held, head, rfl⟩
    | some a => simp [waits, Access.recorders] at at'

/-- The console's access in progress is the next one of its transaction. -/
theorem console_serves {s : State} {v : Serving} (h : s.ConsoleAsks) (serving : s.port.serving = some v)
    (console : v.access.consoles = [v.access]) : (∃ x : Txn, s.txn = some x ∧ s.NextAccess x v.access) ∧ s.port.waitConsole = none := by
  have asks := consoleAccesses_serving serving
  rw [console] at asks
  rcases h with none | ⟨x, a, held, at', ask⟩
  · rw [none] at asks
    exact absurd asks.symm (by simp)
  · rw [asks] at at'
    cases waits : s.port.waitConsole with
    | none =>
      obtain rfl : v.access = a := by simpa [waits] using at'
      exact ⟨⟨x, held, ask⟩, rfl⟩
    | some b => simp [waits] at at'

/-- The completion of the Recorder's write (R146), before the arbiter acts. -/
theorem recorderCompleted_powered {s : State} {v : Serving} {m : MoveIx} {k : Key} (h : s.PoweredLawful)
    (serving : s.port.serving = some v) (access : v.access = .recorderWrite m k) :
    (deliverRecorder (storeKey m k s)).unserved.PoweredLawful := by
  obtain ⟨held, head, waits⟩ := recorder_serves h.recorder serving access
  have mine := (recorderLawful_iff.mp h.owner).2 m held
  have take := h.take m held
  have wf := h.core.tables.canonical
  have core := stored_coreLawful h.core (by rw [writing_serving serving, access]; rfl) (take.head k head) (byRecorder_open mine)
  have recorder : (storeKey m k s).recorder = s.recorder := by rw [storeKey_only]
  have port : (storeKey m k s).port = s.port := by rw [storeKey_only]
  have txn : (storeKey m k s).txn = s.txn := by rw [storeKey_only]
  obtain ⟨rest, fifo⟩ : ∃ rest : List Key, s.recorder.fifo = k :: rest := by
    cases fifo : s.recorder.fifo with
    | nil => rw [fifo] at head; cases head
    | cons y rest =>
      rw [fifo] at head
      cases head
      exact ⟨rest, rfl⟩
  have rising : (∀ b ∈ rest, k.time < b.time) ∧ rest.Pairwise fun a b => a.time < b.time := by
    have rising := take.rising
    rw [fifo] at rising
    exact List.pairwise_cons.mp rising
  exact {
    on := by rw [storeKey_only]; exact h.on
    core := core.congr (.of_lib rfl) rfl core.waitA core.waitB
    owner := by
      have owner := recorderLawful_iff.mp h.owner
      refine recorderLawful_iff.mpr ⟨?_, fun n at' => ?_⟩
      · change ((storeKey m k s).recorder.move.isSome = true ↔ (storeKey m k s).recorder.state ≠ .idle)
        rw [recorder]
        exact owner.1
      · change (storeKey m k s).recorder.move = some n at at'
        exact (storeKey_written wf n).1.trans (owner.2 n (recorder ▸ at'))
    recorder := .inl ⟨rfl, by
      refine (recorderAccesses_free rfl).trans ?_
      change (storeKey m k s).port.waitRecorder.toList = []
      rw [port, waits]
      rfl⟩
    console := by
      refine h.console.congr ?_ txn fun x _ console => ?_
      · refine (consoleAccesses_free rfl).trans ?_
        change (storeKey m k s).port.waitConsole.toList = _
        rw [port, consoleAccesses_serving serving, access]
        exact (List.append_nil _).symm
      · change (s.entry x.move).StillWritten ((storeKey m k s).entry x.move)
        rw [storeKey_entry_other wf fun here : x.move = m => byRecorder_not_byConsole mine (here ▸ console)]
        exact .refl _
    take := fun n at' => by
      change (storeKey m k s).recorder.move = some n at at'
      rw [recorder] at at'
      cases held.symm.trans at'
      have entry : (deliverRecorder (storeKey m k s)).unserved.entry m =
          { s.entry m with keys := (s.entry m).keys + 1, endTime := some k.time } := storeKey_entry_same wf
      have record : (deliverRecorder (storeKey m k s)).unserved.recorder =
          { s.recorder with outstanding := false, fifo := rest } := by
        change ({ (storeKey m k s).recorder with outstanding := false, fifo := (storeKey m k s).recorder.fifo.tail } : Recorder) = _
        rw [recorder, fifo]
        rfl
      constructor
      · rw [record]
        exact take.mask
      · rw [record]
        exact rising.2
      · intro y first
        rw [record] at first
        rw [entry]
        exact keyInOrder_iff.mpr ⟨(absurd · (Nat.succ_ne_zero _)), fun _ => rising.1 y (List.mem_of_mem_head? first)⟩
      · rw [record, entry]
        change s.recorder.lastQueued = _
        rw [take.lastQueued, fifo]
        cases rest with
        | nil => rfl
        | cons y t => rw [List.getLast?_cons_cons]; rfl
      · rw [record]
        exact take.started
      · rw [record]
        exact take.reached
      · rw [record]
        exact take.armed }

/-- A change of the transaction while no request of it is at the port. -/
theorem setTxn_powered {s : State} (h : s.PoweredLawful) (none : s.port.consoleAccesses = []) (x : Option Txn) :
    ({ s with txn := x } : State).PoweredLawful :=
  ⟨h.on, h.core.congr (.of_lib rfl) rfl h.core.waitA h.core.waitB, h.owner, h.recorder, .inl none,
    fun m held => (h.take m held).congr rfl rfl rfl⟩

theorem deliverConsoleWrite_put {s : State} {x : Txn} {left : List Key} {n : Nat} (held : s.txn = some x)
    (work : x.work = .put left n) : deliverConsoleWrite s = { s with txn := some { x with work := .put left.tail (n + 1) } } := by
  unfold deliverConsoleWrite
  simp only [held, work]

/-- The completion of a console write (R92), before the arbiter acts. -/
theorem consoleWriteCompleted_powered {s : State} {v : Serving} {m : MoveIx} {k : Key} (h : s.PoweredLawful)
    (serving : s.port.serving = some v) (access : v.access = .consoleWrite m k) :
    (deliverConsoleWrite (storeKey m k s)).unserved.PoweredLawful ∧ (deliverConsoleWrite (storeKey m k s)).unserved.ConsoleReady := by
  obtain ⟨⟨x, held, ask⟩, waits⟩ := console_serves h.console serving (by rw [access]; rfl)
  rw [access] at ask
  cases ask with
  | @write _ rest n work mine order =>
    have wf := h.core.tables.canonical
    have core := stored_coreLawful h.core (by rw [writing_serving serving, access]; rfl) order (byConsole_open mine)
    have port : (storeKey x.move k s).port = s.port := by rw [storeKey_only]
    have recorder : (storeKey x.move k s).recorder = s.recorder := by rw [storeKey_only]
    have txn : (storeKey x.move k s).txn = some x := by rw [storeKey_only]; exact held
    have none : (storeKey x.move k s).unserved.port.consoleAccesses = [] := by
      refine (consoleAccesses_free rfl).trans ?_
      change (storeKey x.move k s).port.waitConsole.toList = []
      rw [port, waits]
      rfl
    have lawful : (storeKey x.move k s).unserved.PoweredLawful := {
      on := by rw [storeKey_only]; exact h.on
      core := core
      owner := recorderLawful_congr recorder (fun n _ => ((storeKey_written wf n).1.trans ·)) h.owner
      recorder := h.recorder.congr (by
        refine (recorderAccesses_free rfl).trans ?_
        change (storeKey x.move k s).port.waitRecorder.toList = _
        rw [port, recorderAccesses_serving serving, access]
        exact (List.append_nil _).symm) recorder
      console := .inl none
      take := fun n at' => by
        have held' : s.recorder.move = some n := recorder ▸ at'
        have apart : n ≠ x.move := fun here =>
          byRecorder_not_byConsole (here ▸ (recorderLawful_iff.mp h.owner).2 n held') mine
        have same : (storeKey x.move k s).unserved.entry n = s.entry n := storeKey_entry_other wf apart
        exact (h.take n held').congr recorder (by rw [same]) (by rw [same]) }
    rw [deliverConsoleWrite_put txn work]
    refine ⟨setTxn_powered lawful none _, none, fun y left n' at' _ => ?_⟩
    cases at'
    exact (storeKey_written wf x.move).2.trans mine

/-! ### The completion of a console read (R94) -/

theorem unserved_endTxn (c : Result) (s : State) : (endTxn c s).unserved = endTxn c s.unserved := by
  unfold endTxn
  rw [show s.unserved.txn = s.txn from rfl]
  cases s.txn with
  | none => rfl
  | some t => cases t with | mk via => cases via <;> rfl

theorem unserved_deliverConsoleRead (r : Bool) (c : KeyCheck) (k : Key) (s : State) :
    (deliverConsoleRead r c k s).unserved = deliverConsoleRead r c k s.unserved := by
  unfold deliverConsoleRead
  rw [show s.unserved.txn = s.txn from rfl]
  cases s.txn with
  | none => rfl
  | some t =>
    cases work : t.work with
    | put => simp only [work]
    | read =>
      simp only [work]
      split
      · exact unserved_endTxn _ s
      · split
        · exact unserved_endTxn _ s
        · rfl

theorem endTxn_ready (c : Result) {s : State} (none : s.port.consoleAccesses = []) : (endTxn c s).ConsoleReady := by
  have traffic := endTxn_traffic c s
  refine ⟨?_, fun x _ _ held => ?_⟩
  · rw [traffic.port]
    exact none
  · rw [traffic.txn] at held
    cases held

theorem deliverConsoleRead_powered {r : Bool} {c : KeyCheck} {k : Key} {s : State} (h : s.PoweredLawful)
    (none : s.port.consoleAccesses = []) {x : Txn} {i left : Nat} {got : List Key} (held : s.txn = some x)
    (work : x.work = .read i left got) :
    (deliverConsoleRead r c k s).PoweredLawful ∧ (deliverConsoleRead r c k s).ConsoleReady := by
  unfold deliverConsoleRead
  simp only [held, work]
  split
  · exact ⟨endTxn_powered _ h none, endTxn_ready _ none⟩
  · split
    · exact ⟨endTxn_powered _ h none, endTxn_ready _ none⟩
    · refine ⟨setTxn_powered h none _, none, fun y _ _ at' put => ?_⟩
      cases at'
      cases put

/-- The completion of a console read (R94), before the arbiter acts. -/
theorem consoleReadCompleted_powered {s : State} {m : MoveIx} {i b n : Nat} {w r : Bool} (h : s.PoweredLawful)
    (serving : s.port.serving = some { access := .consoleRead m i b n, wanted := w, released := r }) (c : KeyCheck) :
    let u := finishAccess { access := .consoleRead m i b n, wanted := w, released := r } c s
    ∀ (d : KeyCheck) (k : Key), (deliverConsoleRead r d k u).unserved.PoweredLawful ∧ (deliverConsoleRead r d k u).unserved.ConsoleReady := by
  intro u d k
  have finished : s.Edits u := .ite (.refl s) (finishRead_edits m i b n _ c s)
  have serving' : u.port.serving = _ := (finishAccess_aside _ c s).port ▸ serving
  have lawful := finished.powered h
  obtain ⟨⟨x, held, ask⟩, waits⟩ := console_serves lawful.console serving' rfl
  cases ask with
  | read _ _ work =>
    rw [unserved_deliverConsoleRead]
    refine deliverConsoleRead_powered (unserved_powered lawful serving' rfl) ?_ held work
    refine (consoleAccesses_free rfl).trans ?_
    change u.port.waitConsole.toList = []
    rw [waits]
    rfl

/-! ### The completion of an access (R82, R83) -/

theorem freePort_eq (s : State) : freePort s = arbitrate 5 s.unserved := rfl

theorem completeAccess_powered (f : Bool) (c : KeyCheck) {s : State} (h : s.PoweredLawful) : (completeAccess f c s).PoweredLawful := by
  unfold completeAccess
  split
  · exact h
  · next v serving =>
    rw [freePort_eq]
    obtain ⟨access, w, r⟩ := v
    cases access with
    | fetch p m i b n => exact fetchIfRoom_powered p (arbitrate_powered 5 (fetchCompleted_powered h serving f c))
    | recorderWrite m k => exact recorderNext_powered (arbitrate_powered 5 (recorderCompleted_powered h serving rfl))
    | consoleWrite m k =>
      obtain ⟨lawful, ready⟩ := consoleWriteCompleted_powered h serving rfl
      exact consoleStep_powered (arbitrate_powered 5 lawful) (arbitrate_ready 5 lawful ready)
    | consoleRead m i b n =>
      obtain ⟨lawful, ready⟩ := consoleReadCompleted_powered h serving c _ _
      exact consoleStep_powered (arbitrate_powered 5 lawful) (arbitrate_ready 5 lawful ready)

end Sys2Proof.Machine
end

section
/-! Who owns the directory entries (R88, R125, R141), and the operations of the Move Library and of the Recorder that keep it,
and the canonical form of the tables with it. -/

namespace Sys2Proof.Machine

/-! ### The law of ownership -/

/-- How many claims the record has on entry `m`. -/
def Player.claims (r : Player) (m : MoveIx) : Nat := if r.state ≠ .idle ∧ r.move = some m then 1 else 0

theorem holders_eq (s : State) (m : MoveIx) : s.holders m = (s.player .a).claims m + (s.player .b).claims m := rfl

/-- The laws of ownership (R88, R125, R141), in propositions. -/
structure State.Owned (s : State) : Prop where
  users : ∀ m : MoveIx, (s.entry m).users = s.holders m
  spare : ∀ m : MoveIx, (s.entry m).users = 0 ∨ (s.entry m).state = .ready
  recorder : s.recorderLawful = true
  idle : ∀ p : PlayerId, (s.player p).state = .idle → (s.player p).move = none

theorem idleHoldsNone_iff {s : State} : s.idleHoldsNone = true ↔ ∀ p : PlayerId, (s.player p).state = .idle → (s.player p).move = none := by
  have one : ∀ r : Player, (decide (r.state ≠ .idle) || r.move.isNone) = true ↔ (r.state = .idle → r.move = none) := fun r => by
    by_cases idle : r.state = .idle <;> simp [idle]
  rw [State.idleHoldsNone, Bool.and_eq_true, one, one]
  exact ⟨fun h p => by cases p; exacts [h.1, h.2], fun h => ⟨h .a, h .b⟩⟩

theorem owned_iff {s : State} : s.ownersLawful = true ↔ s.Owned := by
  rw [State.ownersLawful, Bool.and_eq_true, Bool.and_eq_true, idleHoldsNone_iff, State.usersLawful, List.all_eq_true]
  simp only [mem_allMoves, forall_const, Bool.and_eq_true, Bool.or_eq_true, decide_eq_true_eq]
  exact ⟨fun ⟨⟨each, recorder⟩, idle⟩ => ⟨fun m => (each m).1, fun m => (each m).2, recorder, idle⟩,
    fun ⟨users, spare, recorder, idle⟩ => ⟨⟨fun m => ⟨users m, spare m⟩, recorder⟩, idle⟩⟩

/-- A WRITING entry is held by no player. -/
theorem State.Owned.unused {s : State} (h : s.Owned) {m : MoveIx} (busy : (s.entry m).state ≠ .ready) : (s.entry m).users = 0 :=
  (h.spare m).resolve_right busy

theorem State.Owned.recorded {s : State} (h : s.Owned) {m : MoveIx} (held : s.recorder.move = some m) :
    (s.entry m).byRecorder = true := (recorderLawful_iff.mp h.recorder).2 m held

theorem not_ready_of_byRecorder {e : Entry} (h : e.byRecorder = true) : e.state ≠ .ready := by
  rw [(byRecorder_iff.mp h).1]
  decide

/-- The players hold the same moves. -/
structure State.SameClaims (s t : State) : Prop where
  move : ∀ p : PlayerId, (t.player p).move = (s.player p).move
  idle : ∀ p : PlayerId, (t.player p).state = .idle ↔ (s.player p).state = .idle

theorem State.SameClaims.of_players {s t : State} (a : t.playerA = s.playerA) (b : t.playerB = s.playerB) : s.SameClaims t := by
  have same : ∀ p : PlayerId, t.player p = s.player p := fun p => by cases p; exacts [a, b]
  exact ⟨fun p => by rw [same], fun p => by rw [same]⟩

theorem State.SameClaims.holders {s t : State} (h : s.SameClaims t) (m : MoveIx) : t.holders m = s.holders m := by
  simp only [holders_eq, Player.claims, ne_eq, h.move, h.idle]

/-- Entries may change while no player holds them. -/
theorem State.Owned.change {s t : State} (h : s.Owned) (claims : s.SameClaims t)
    (users : ∀ m : MoveIx, (t.entry m).users = (s.entry m).users)
    (spare : ∀ m : MoveIx, (s.entry m).users ≠ 0 → (s.entry m).state = .ready → (t.entry m).state = .ready)
    (recorder : t.recorderLawful = true) : t.Owned where
  users := fun m => by rw [users, claims.holders, h.users]
  spare := fun m => by
    rw [users]
    by_cases none : (s.entry m).users = 0
    · exact .inl none
    · exact .inr (spare m none ((h.spare m).resolve_left none))
  recorder := recorder
  idle := fun p idle => (claims.move p).trans (h.idle p ((claims.idle p).mp idle))

/-! ### What keeps the canonical form and the ownership -/

/-- From `s` to `t` the canonical form of the tables and the ownership of the entries are kept. -/
structure KeepsOwners (s t : State) : Prop where
  canonical : s.lib.wf = true → t.lib.wf = true
  owned : s.Owned → t.Owned

theorem KeepsOwners.refl (s : State) : KeepsOwners s s := ⟨id, id⟩

theorem KeepsOwners.trans {s t u : State} (h : KeepsOwners s t) (k : KeepsOwners t u) : KeepsOwners s u :=
  ⟨k.canonical ∘ h.canonical, k.owned ∘ h.owned⟩

theorem KeepsOwners.ite {s t u : State} {c : Prop} [Decidable c] (h : KeepsOwners s t) (k : KeepsOwners s u) :
    KeepsOwners s (if c then t else u) := by
  split
  · exact h
  · exact k

/-- The owners are the same: each entry has its users, its state and its writer, the Recorder its move. -/
structure State.SameOwners (s t : State) : Prop where
  users : ∀ m : MoveIx, (t.entry m).users = (s.entry m).users
  state : ∀ m : MoveIx, (t.entry m).state = (s.entry m).state
  writer : ∀ m : MoveIx, (t.entry m).writer = (s.entry m).writer
  claims : s.SameClaims t
  move : t.recorder.move = s.recorder.move
  rest : t.recorder.state = .idle ↔ s.recorder.state = .idle

theorem State.SameOwners.owned {s t : State} (h : s.SameOwners t) (k : s.Owned) : t.Owned := by
  refine k.change h.claims h.users (fun m _ => (h.state m).trans) ?_
  have byRecorder : ∀ m : MoveIx, (t.entry m).byRecorder = (s.entry m).byRecorder := fun m => by
    simp only [Entry.byRecorder, h.state, h.writer]
  have recorder := recorderLawful_iff.mp k.recorder
  exact recorderLawful_iff.mpr ⟨by rw [h.move, ne_eq, h.rest]; exact recorder.1, fun m held => by
    rw [byRecorder]
    exact recorder.2 m (h.move ▸ held)⟩

theorem State.SameOwners.of_dir {s t : State} (dir : t.lib.dir = s.lib.dir) (a : t.playerA = s.playerA) (b : t.playerB = s.playerB)
    (recorder : t.recorder = s.recorder) : s.SameOwners t := by
  have entry := entry_of_dir dir
  exact ⟨fun m => by rw [entry], fun m => by rw [entry], fun m => by rw [entry], .of_players a b, by rw [recorder], by rw [recorder]⟩

/-- A change of neither the library, the players nor the Recorder. -/
theorem KeepsOwners.aside {s t : State} (lib : t.lib = s.lib := by rfl) (a : t.playerA = s.playerA := by rfl)
    (b : t.playerB = s.playerB := by rfl) (recorder : t.recorder = s.recorder := by rfl) : KeepsOwners s t :=
  ⟨fun wf => lib ▸ wf, (State.SameOwners.of_dir (congrArg Library.dir lib) a b recorder).owned⟩

theorem SameButTraffic.owners {s t : State} (h : SameButTraffic s t) : KeepsOwners s t :=
  .aside h.lib h.playerA h.playerB h.recorder

theorem raise_owners (d : Detail) (s : State) : KeepsOwners s (raise d s) := (raise_traffic d s).owners

theorem endTxn_owners (c : Result) (s : State) : KeepsOwners s (endTxn c s) :=
  .trans (t := { s with txn := none }) .aside (endTxn_traffic c s).owners

theorem setEntry_sameOwners {s : State} {m : MoveIx} {e : Entry} (users : e.users = (s.entry m).users)
    (state : e.state = (s.entry m).state) (writer : e.writer = (s.entry m).writer) : s.SameOwners (s.setEntry m e) where
  users := fun n => by
    by_cases here : n = m
    · rw [here, setEntry_entry_same, users]
    · rw [setEntry_entry_other _ _ _ _ here]
  state := fun n => by
    by_cases here : n = m
    · rw [here, setEntry_entry_same, state]
    · rw [setEntry_entry_other _ _ _ _ here]
  writer := fun n => by
    by_cases here : n = m
    · rw [here, setEntry_entry_same, writer]
    · rw [setEntry_entry_other _ _ _ _ here]
  claims := .of_players rfl rfl
  move := rfl
  rest := .rfl

theorem setEntry_owners {s : State} {m : MoveIx} {e : Entry} (users : e.users = (s.entry m).users)
    (state : e.state = (s.entry m).state) (writer : e.writer = (s.entry m).writer) : KeepsOwners s (s.setEntry m e) :=
  ⟨setEntry_lib_wf m e, (setEntry_sameOwners users state writer).owned⟩

/-- A change of the Recorder that neither takes nor gives back a move. -/
theorem setRecorder_owners {s : State} {r : Recorder} (move : r.move = s.recorder.move)
    (rest : r.state = .idle ↔ s.recorder.state = .idle) : KeepsOwners s { s with recorder := r } :=
  ⟨id, State.SameOwners.owned ⟨fun _ => rfl, fun _ => rfl, fun _ => rfl, .of_players rfl rfl, move, rest⟩⟩

/-! ### The Move Library -/

theorem emptyEntry_claims (m : MoveIx) (s : State) : s.SameClaims (emptyEntry m s) :=
  .of_players (emptyEntry_library m s).playerA (emptyEntry_library m s).playerB

/-- The emptying of an entry that no player holds. -/
theorem emptyEntry_users {m : MoveIx} {s : State} (unused : (s.entry m).users = 0) (n : MoveIx) :
    ((emptyEntry m s).entry n).users = (s.entry n).users := by
  by_cases here : n = m
  · rw [here, emptyEntry_entry_same, unused]
    rfl
  · rw [emptyEntry_entry_other here]

theorem emptyEntry_spare {m : MoveIx} {s : State} (unused : (s.entry m).users = 0) (n : MoveIx) (used : (s.entry n).users ≠ 0)
    (ready : (s.entry n).state = .ready) : ((emptyEntry m s).entry n).state = .ready := by
  rw [emptyEntry_entry_other fun here : n = m => used (here ▸ unused)]
  exact ready

/-- The emptying of an entry that neither a player nor the Recorder holds. -/
theorem emptyEntry_owned {m : MoveIx} {s : State} (h : s.Owned) (unused : (s.entry m).users = 0)
    (free : s.recorder.move ≠ some m) : (emptyEntry m s).Owned := by
  refine h.change (emptyEntry_claims m s) (emptyEntry_users unused) (emptyEntry_spare unused) ?_
  refine recorderLawful_congr (emptyEntry_recorder m s) (fun n held mine => ?_) h.recorder
  rwa [emptyEntry_entry_other fun here : n = m => free (here ▸ held)]

theorem toIdle_lawful (s : State) (r : Recorder) : ({ s with recorder := r.toIdle } : State).recorderLawful = true :=
  recorderLawful_iff.mpr ⟨⟨nofun, (absurd rfl ·)⟩, fun _ => nofun⟩

theorem emptyEntry_toIdle_owned {m : MoveIx} {s : State} (h : s.Owned) (unused : (s.entry m).users = 0) (r : Recorder) :
    ({ emptyEntry m s with recorder := r.toIdle } : State).Owned :=
  h.change ⟨(emptyEntry_claims m s).move, (emptyEntry_claims m s).idle⟩ (emptyEntry_users unused) (emptyEntry_spare unused)
    (toIdle_lawful _ r)

theorem closeEntry_lib_wf (m : MoveIx) (b : Bool) {s : State} (h : s.lib.wf = true) : (closeEntry m b s).lib.wf = true := by
  by_cases enough : 2 ≤ (s.entry m).keys
  · rw [closeEntry_ready enough]
    exact setEntry_lib_wf m _ h
  · rw [closeEntry_empty enough]
    exact emptyEntry_lib_wf m h

theorem closeEntry_users {m : MoveIx} {s : State} (b : Bool) (unused : (s.entry m).users = 0) (n : MoveIx) :
    ((closeEntry m b s).entry n).users = (s.entry n).users := by
  by_cases here : n = m
  · by_cases enough : 2 ≤ (s.entry m).keys
    · rw [closeEntry_ready enough, here, setEntry_entry_same]
    · rw [closeEntry_empty enough, emptyEntry_users unused]
  · rw [closeEntry_entry_other here]

theorem closeEntry_claims (m : MoveIx) (b : Bool) (s : State) : s.SameClaims (closeEntry m b s) :=
  .of_players (closeEntry_library m b s).playerA (closeEntry_library m b s).playerB

theorem closeTake_owners (c : CloseCause) (s : State) : KeepsOwners s (closeTake c s) := by
  cases held : s.recorder.move with
  | none =>
    rw [closeTake, held]
    exact .refl s
  | some m =>
    rw [closeTake_eq held]
    refine .trans (t := { closeEntry m (decide (c = .storeFull)) s with
      recorder := (closeEntry m (decide (c = .storeFull)) s).recorder.toIdle }) ⟨closeEntry_lib_wf m _, fun h => ?_⟩ (raise_owners _ _)
    have unused := h.unused (not_ready_of_byRecorder (h.recorded held))
    refine h.change ⟨(closeEntry_claims m _ s).move, (closeEntry_claims m _ s).idle⟩ (closeEntry_users _ unused)
      (fun n used ready => ?_) (toIdle_lawful _ _)
    exact (congrArg Entry.state (closeEntry_entry_other (fun here : n = m => used (here ▸ unused)) _ s)).trans ready

theorem allocate_lib_wf {m : MoveIx} {s t : State} (h : allocate? m s = some t) (wf : s.lib.wf = true) : t.lib.wf = true := by
  unfold allocate? at h
  split at h
  · split at h
    · cases h
    · cases h
      exact appendBlock_lib_wf m _ wf
  · cases h
    exact wf

theorem allocate_owners {m : MoveIx} {s t : State} (h : allocate? m s = some t) : KeepsOwners s t := by
  have only := allocate_only h
  have kept : ∀ n : MoveIx, (t.entry n).users = (s.entry n).users ∧ (t.entry n).state = (s.entry n).state ∧
      (t.entry n).writer = (s.entry n).writer := fun n => by
    obtain ⟨first, last, same⟩ := allocate_entry h n
    rw [same]
    exact ⟨rfl, rfl, rfl⟩
  have recorder : t.recorder = s.recorder := by rw [only]
  exact ⟨allocate_lib_wf h, State.SameOwners.owned ⟨fun n => (kept n).1, fun n => (kept n).2.1, fun n => (kept n).2.2,
    .of_players (by rw [only]) (by rw [only]), by rw [recorder], by rw [recorder]⟩⟩

theorem serve_owners (a : Access) (s : State) : KeepsOwners s (serve a s) := .aside

theorem grant_owners (a : Access) (s : State) : KeepsOwners s (grant a s) := by
  cases a with
  | fetch | consoleRead => exact serve_owners _ s
  | recorderWrite m k =>
    rw [grant]
    split
    · next granted => exact (allocate_owners granted).trans (serve_owners _ _)
    · exact closeTake_owners _ s
  | consoleWrite m k =>
    rw [grant]
    split
    · next granted => exact (allocate_owners granted).trans (serve_owners _ _)
    · exact endTxn_owners _ s

theorem setPort_owners (s : State) (q : KeyPort) : KeepsOwners s { s with port := q } := .aside

theorem arbitrate_owners (n : Nat) (s : State) : KeepsOwners s (arbitrate n s) :=
  arbitrate_keeps (P := KeepsOwners s) (fun u _ q kept _ _ => kept.trans ((setPort_owners u q).trans (grant_owners _ _))) n s (.refl s)

theorem requestPort_owners (a : Access) (s : State) : KeepsOwners s (requestPort a s) := by
  unfold requestPort
  split
  · exact (setPort_owners s _).trans (arbitrate_owners 5 _)
  · exact setPort_owners s _

theorem consoleStep_owners (s : State) : KeepsOwners s (consoleStep s) := by
  unfold consoleStep
  split
  · exact .refl s
  · split
    · exact endTxn_owners _ s
    · exact .ite (requestPort_owners _ s) (endTxn_owners _ s)
    · exact .ite (endTxn_owners _ s) (.ite (endTxn_owners _ s) (requestPort_owners _ s))

theorem storeKey_owners (m : MoveIx) (k : Key) (s : State) : KeepsOwners s (storeKey m k s) := by
  have stored : ∀ u : State, u.lib.dir = s.lib.dir → u.playerA = s.playerA → u.playerB = s.playerB → u.recorder = s.recorder →
      s.Owned → (u.setEntry m { s.entry m with keys := (s.entry m).keys + 1, endTime := some k.time }).Owned :=
    fun u dir a b recorder owned => by
      have same := entry_of_dir dir m
      exact (setEntry_sameOwners (by rw [same]) (by rw [same]) (by rw [same])).owned
        ((State.SameOwners.of_dir dir a b recorder).owned owned)
  refine ⟨storeKey_lib_wf m k, fun owned => ?_⟩
  unfold storeKey
  simp only
  split
  · exact stored _ rfl rfl rfl rfl owned
  · exact stored _ rfl rfl rfl rfl owned

theorem setSlot_owners (b n : Nat) (x : Slot) (s : State) : KeepsOwners s (s.setSlot b n x) :=
  ⟨setSlot_lib_wf b n x, (State.SameOwners.of_dir (s := s) (t := s.setSlot b n x) rfl rfl rfl rfl).owned⟩

theorem setBlock_owners (b : Nat) (e : BlockEntry) (s : State) : KeepsOwners s (s.setBlock b e) :=
  ⟨setBlock_lib_wf b e, (State.SameOwners.of_dir (s := s) (t := s.setBlock b e) rfl rfl rfl rfl).owned⟩

theorem reportRead_owners (m : MoveIx) (i b : Nat) (p : Option PlayerId) (c : KeyCheck) (s : State) :
    KeepsOwners s (reportRead m i b p c s) := by
  have reported : ∀ (r : FaultRecord) (d : Detail) (u : State), KeepsOwners u (raise d (faultReport r u)) := fun r d u =>
    ((faultReport_traffic r u).trans (raise_traffic d _)).owners
  cases c with
  | good => exact .refl s
  | corrected => exact reported _ _ s
  | damaged =>
    have flagged : KeepsOwners s (s.setEntry m { s.entry m with flags := { (s.entry m).flags with damaged := true } }) :=
      setEntry_owners rfl rfl rfl
    exact flagged.trans ((setBlock_owners b _ _).trans (reported _ _ _))

theorem finishRead_owners (m : MoveIx) (i b n : Nat) (p : Option PlayerId) (c : KeyCheck) (s : State) :
    KeepsOwners s (finishRead m i b n p c s) := (setSlot_owners b n _ s).trans (reportRead_owners _ _ _ _ _ _)

theorem finishAccess_owners (v : Serving) (c : KeyCheck) (s : State) : KeepsOwners s (finishAccess v c s) := by
  unfold finishAccess
  split
  · exact storeKey_owners _ _ s
  · exact storeKey_owners _ _ s
  · exact .ite (.refl s) (finishRead_owners _ _ _ _ _ _ s)
  · exact .ite (.refl s) (finishRead_owners _ _ _ _ _ _ s)

theorem deliverConsoleWrite_owners (s : State) : KeepsOwners s (deliverConsoleWrite s) := by
  unfold deliverConsoleWrite
  split
  · split
    · exact .aside
    · exact .refl s
  · exact .refl s

theorem deliverConsoleRead_owners (r : Bool) (c : KeyCheck) (k : Key) (s : State) : KeepsOwners s (deliverConsoleRead r c k s) := by
  unfold deliverConsoleRead
  split
  · split
    · exact .ite (endTxn_owners _ s) (.ite (endTxn_owners _ s) .aside)
    · exact .refl s
  · exact .refl s

/-! ### The Recorder -/

theorem recorderWrite_owners (s : State) : KeepsOwners s (recorderWrite s) := by
  unfold recorderWrite
  split
  · exact .ite ((setRecorder_owners (r := { s.recorder with outstanding := true }) rfl .rfl).trans (requestPort_owners _ _)) (.refl s)
  · exact .refl s

theorem deliverRecorder_owners (s : State) : KeepsOwners s (deliverRecorder s) := setRecorder_owners rfl .rfl

theorem recorderNext_owners (s : State) : KeepsOwners s (recorderNext s) := .ite (closeTake_owners _ s) (recorderWrite_owners s)

theorem dueKey_owners (n : Nat) (s : State) : KeepsOwners s (dueKey n s) := by
  unfold dueKey
  simp only
  split
  · next m _ _ _ =>
    have gapped : KeepsOwners s (s.setEntry m (s.entry m).gap) := setEntry_owners rfl rfl rfl
    exact .ite (setRecorder_owners rfl .rfl) (gapped.trans (setRecorder_owners (r := s.recorder.skip) rfl .rfl))
  · exact .refl s

theorem dueKey_state (n : Nat) (s : State) : (dueKey n s).recorder.state = s.recorder.state := by
  unfold dueKey
  simp only
  split
  · split <;> rfl
  · rfl

theorem endTake_owners (c : CloseCause) {s : State} (busy : s.recorder.state ≠ .idle) : KeepsOwners s (endTake c s) := by
  have final : KeepsOwners s (if s.recorder.lastQueued = some (s.recorder.frames.getD 0) then s
      else dueKey (s.recorder.frames.getD 0) s) := .ite (.refl s) (dueKey_owners _ s)
  have closing : ∀ u : State, u.recorder.state ≠ .idle →
      KeepsOwners u (recorderNext { u with recorder := { u.recorder with state := .closing, cause := c } }) := fun u busy =>
    .trans (setRecorder_owners (r := { u.recorder with state := .closing, cause := c }) rfl ⟨nofun, (absurd · busy)⟩)
      (recorderNext_owners _)
  refine final.trans (closing _ ?_)
  split
  · exact busy
  · rw [dueKey_state]
    exact busy

theorem recorderTimeLimit_owners (s : State) : KeepsOwners s (recorderTimeLimit s) := by
  unfold recorderTimeLimit
  split
  · next reached => exact endTake_owners _ (by rw [reached.1]; decide)
  · exact .refl s

theorem recorderCapture_owners (s : State) : KeepsOwners s (recorderCapture s) :=
  have counted : KeepsOwners s { s with recorder := { s.recorder with frames := some s.recorder.nextFrames } } :=
    setRecorder_owners rfl .rfl
  .ite (.ite (counted.trans ((dueKey_owners _ _).trans (recorderWrite_owners _))) counted) (.refl s)

theorem recorderTakes_owners (s : State) : KeepsOwners s (recorderTakes s) := setRecorder_owners rfl .rfl

theorem recorderPublication_owners (s : State) : KeepsOwners s (recorderPublication s) :=
  (recorderTakes_owners s).trans ((recorderCapture_owners _).trans (recorderTimeLimit_owners _))

theorem recorderGo_owners (s : State) : KeepsOwners s (recorderGo s) := by
  unfold recorderGo
  simp only
  split
  · next armed =>
    have begun : KeepsOwners s { s with recorder := { s.recorder with state := .recording } } :=
      setRecorder_owners rfl (by rw [armed]; exact ⟨nofun, nofun⟩)
    split
    · exact begun.trans (raise_owners _ _)
    · exact begun
  · exact .refl s

theorem abortTake_owners (s : State) : KeepsOwners s (abortTake s) := by
  unfold abortTake
  split
  · next m held =>
    exact ⟨emptyEntry_lib_wf m, fun h =>
      emptyEntry_toIdle_owned h (h.unused (not_ready_of_byRecorder (h.recorded held))) _⟩
  · exact ⟨id, fun h => h.change (.of_players rfl rfl) (fun _ => rfl) (fun _ _ => id) (toIdle_lawful s _)⟩

theorem recordStopRequest_owners (s : State) : KeepsOwners s (recordStopRequest s).1 := by
  unfold recordStopRequest
  split
  · exact .refl s
  · exact abortTake_owners s
  · next recording =>
    split
    · exact abortTake_owners s
    · exact endTake_owners _ (by rw [recording]; decide)
  · exact .refl s

theorem endRecRequest_owners (s : State) : KeepsOwners s (endRecRequest s).1 := by
  have hears : KeepsOwners s (recorderHears s) := .ite (setRecorder_owners rfl .rfl) (.refl s)
  exact hears.trans (recordStopRequest_owners _)

/-- An EMPTY entry that is opened has no user and belongs to no take. -/
theorem opened_owned {s t : State} {m : MoveIx} {name : List Nat} {mask : Mask} {w : Writer} (h : s.Owned)
    (empty : (s.entry m).state = .empty) (lib : t.lib = (s.setEntry m (Entry.opened name mask w)).lib) (a : t.playerA = s.playerA)
    (b : t.playerB = s.playerB) (recorder : t.recorderLawful = true) : t.Owned := by
  have unused : (s.entry m).users = 0 := h.unused (by rw [empty]; decide)
  have entry := fun n : MoveIx => entry_of_dir (congrArg Library.dir lib) n
  refine h.change (.of_players a b) (fun n => ?_) (fun n used ready => ?_) recorder
  · rw [entry]
    by_cases here : n = m
    · rw [here, setEntry_entry_same, unused]
      rfl
    · rw [setEntry_entry_other _ _ _ _ here]
  · rw [entry, setEntry_entry_other _ _ _ _ fun here : n = m => used (here ▸ unused)]
    exact ready

theorem recordStartRequest_owners (id : Nat) (name : List Nat) (mask d sh tr : Nat) (s : State) :
    KeepsOwners s (recordStartRequest id name mask d sh tr s).1 := by
  unfold recordStartRequest
  split
  · next m k shape armed _ _ _ _ =>
    split
    · exact .refl s
    · split
      · exact .refl s
      · split
        · exact .refl s
        · next empty =>
          refine ⟨setEntry_lib_wf m _, fun h => opened_owned h (not_not.mp empty) rfl rfl rfl ?_⟩
          refine recorderLawful_iff.mpr ⟨⟨fun _ => by cases armed <;> exact nofun, fun _ => rfl⟩, fun n held => ?_⟩
          cases held
          exact (congrArg Entry.byRecorder (setEntry_entry_same s m _)).trans rfl
  · exact .refl s

/-! ### The players -/

/-- A change of a player's record that neither takes nor gives back a move. -/
theorem setPlayer_owners {p : PlayerId} {r : Player} {s : State} (move : r.move = (s.player p).move)
    (idle : r.state = .idle ↔ (s.player p).state = .idle) : KeepsOwners s (s.setPlayer p r) := by
  have lib : (s.setPlayer p r).lib = s.lib := by cases p <;> rfl
  have recorder : (s.setPlayer p r).recorder = s.recorder := by cases p <;> rfl
  have entry := fun m : MoveIx => entry_of_dir (congrArg Library.dir lib) m
  refine ⟨fun wf => lib ▸ wf, State.SameOwners.owned ⟨fun m => by rw [entry], fun m => by rw [entry], fun m => by rw [entry],
    ⟨fun q => ?_, fun q => ?_⟩, by rw [recorder], by rw [recorder]⟩⟩
  · by_cases here : q = p
    · rw [here, setPlayer_player_same, move]
    · rw [setPlayer_player_other _ _ _ _ here]
  · by_cases here : q = p
    · rw [here, setPlayer_player_same, idle]
    · rw [setPlayer_player_other _ _ _ _ here]

/-- One player's claims change, the other's stay. -/
theorem holders_change {s t : State} {p : PlayerId} (other : ∀ q : PlayerId, q ≠ p → t.player q = s.player q) (m : MoveIx) :
    t.holders m + (s.player p).claims m = s.holders m + (t.player p).claims m := by
  rw [holders_eq, holders_eq]
  cases p with
  | a => rw [other .b nofun]; omega
  | b => rw [other .a nofun]; omega

theorem toIdle_claims (r : Player) (m : MoveIx) : r.toIdle.claims m = 0 := if_neg fun held => held.1 rfl

/-- A player that holds a move is not IDLE. -/
theorem State.Owned.claims {s : State} (h : s.Owned) (p : PlayerId) (m : MoveIx) :
    (s.player p).claims m = if (s.player p).move = some m then 1 else 0 := by
  unfold Player.claims
  by_cases held : (s.player p).move = some m
  · rw [if_pos held, if_pos ⟨fun idle => absurd (held.symm.trans (h.idle p idle)) nofun, held⟩]
  · rw [if_neg held, if_neg fun claim => held claim.2]

theorem becomeIdle_entry (p : PlayerId) (s : State) (m : MoveIx) : (becomeIdle p s).entry m =
    if (s.player p).move = some m then { s.entry m with users := (s.entry m).users - 1 } else s.entry m := by
  have lib : ∀ (u : State) (q : KeyPort) (r : Player), (({ u with port := q } : State).setPlayer p r).lib = u.lib := fun u q r => by
    cases p <;> rfl
  unfold becomeIdle
  simp only
  rw [entry_of_dir (congrArg Library.dir (lib _ _ _))]
  cases held : (s.player p).move with
  | none => rw [if_neg nofun]
  | some n =>
    simp only [Option.some.injEq]
    by_cases here : m = n
    · rw [if_pos here.symm, here, setEntry_entry_same]
    · rw [if_neg (Ne.symm here), setEntry_entry_other _ _ _ _ here]

theorem becomeIdle_lib_wf (p : PlayerId) {s : State} (h : s.lib.wf = true) : (becomeIdle p s).lib.wf = true := by
  unfold becomeIdle
  simp only
  split <;> cases p <;> exact h

/-- A player that becomes IDLE returns its claim (R125). -/
theorem becomeIdle_owners (p : PlayerId) (s : State) : KeepsOwners s (becomeIdle p s) := by
  refine ⟨becomeIdle_lib_wf p, fun h => ?_⟩
  have users : ∀ m : MoveIx, ((becomeIdle p s).entry m).users = (s.entry m).users - (s.player p).claims m := fun m => by
    rw [becomeIdle_entry, h.claims]
    split
    · rfl
    · rw [Nat.sub_zero]
  have state : ∀ m : MoveIx, ((becomeIdle p s).entry m).state = (s.entry m).state ∧
      ((becomeIdle p s).entry m).writer = (s.entry m).writer := fun m => by
    rw [becomeIdle_entry]
    split <;> exact ⟨rfl, rfl⟩
  have recorder : (becomeIdle p s).recorder = s.recorder := (becomeIdle_edits p s).recorder
  refine ⟨fun m => ?_, fun m => ?_, ?_, fun q idle => ?_⟩
  · have balance := holders_change (s := s) (t := becomeIdle p s) (fun q ne => becomeIdle_player_other ne s) m
    rw [becomeIdle_player_same, toIdle_claims] at balance
    rw [users, h.users]
    omega
  · rw [users, (state m).1]
    exact (h.spare m).imp (fun none => by rw [none, Nat.zero_sub]) id
  · refine recorderLawful_congr recorder (fun m _ mine => ?_) h.recorder
    rw [byRecorder_iff] at mine ⊢
    rwa [(state m).1, (state m).2]
  · by_cases here : q = p
    · rw [here, becomeIdle_player_same]
      rfl
    · rw [becomeIdle_player_other here] at idle ⊢
      exact h.idle q idle

end Sys2Proof.Machine
end

section
/-! The operations of the players, the Blend Engine, the cue, Axis Control and the output frame keep the canonical form of the
tables, the ownership of the entries and the laws of the Move Library. -/

namespace Sys2Proof.Machine

/-- From `s` to `t` the canonical form, the ownership and, with main power, the laws of the Move Library are kept. -/
structure Keeps (s t : State) : Prop extends KeepsOwners s t where
  library : s.PoweredLawful → t.PoweredLawful

theorem Keeps.refl (s : State) : Keeps s s := ⟨.refl s, id⟩

theorem Keeps.trans {s t u : State} (h : Keeps s t) (k : Keeps t u) : Keeps s u :=
  ⟨h.toKeepsOwners.trans k.toKeepsOwners, k.library ∘ h.library⟩

theorem Keeps.ite {s t u : State} {c : Prop} [Decidable c] (h : Keeps s t) (k : Keeps s u) : Keeps s (if c then t else u) := by
  split
  · exact h
  · exact k

theorem Keeps.foldl {α : Type} {g : State → α → State} (h : ∀ (s : State) (x : α), Keeps s (g s x)) (l : List α) :
    ∀ s : State, Keeps s (l.foldl g s) := by
  induction l with
  | nil => exact Keeps.refl
  | cons x t ih => exact fun s => (h s x).trans (ih _)

/-- A change of neither the library, the port, the transaction, the players, the Recorder nor the power. -/
theorem Keeps.aside {s t : State} (lib : t.lib = s.lib := by rfl) (port : t.port = s.port := by rfl) (txn : t.txn = s.txn := by rfl)
    (a : t.playerA = s.playerA := by rfl) (b : t.playerB = s.playerB := by rfl) (recorder : t.recorder = s.recorder := by rfl)
    (power : t.power = s.power := by rfl) : Keeps s t :=
  ⟨.aside lib a b recorder, (State.Edits.aside lib port txn recorder power).powered⟩

theorem SameButTraffic.keeps {s t : State} (h : SameButTraffic s t) : Keeps s t := ⟨h.owners, h.edits.powered⟩

theorem raise_keeps (d : Detail) (s : State) : Keeps s (raise d s) := (raise_traffic d s).keeps

theorem setAxis_keeps (i : Fin 8) (a : Axis) (s : State) : Keeps s (s.setAxis i a) := .aside

theorem mapAxes_keeps (g : Fin 8 → Axis → Axis) (s : State) : Keeps s (s.mapAxes g) := .aside

theorem setCue_keeps (c : Cue) (s : State) : Keeps s (s.setCue c) := .aside

/-! ### The players -/

/-- A change of a player's record that neither takes nor gives back a move. -/
theorem setPlayer_keeps {p : PlayerId} {r : Player} {s : State} (move : r.move = (s.player p).move)
    (idle : r.state = .idle ↔ (s.player p).state = .idle) : Keeps s (s.setPlayer p r) :=
  ⟨setPlayer_owners move idle, (setPlayer_edits p r s).powered⟩

theorem requestPort_fetch_keeps (p : PlayerId) (m : MoveIx) (i b n : Nat) (s : State) :
    Keeps s (requestPort (.fetch p m i b n) s) :=
  ⟨requestPort_owners _ s, fun h => requestPort_powered ((await_fetch_edits p m i b n s).powered h)⟩

theorem fetchIfRoom_keeps (p : PlayerId) (s : State) : Keeps s (fetchIfRoom p s) := by
  unfold fetchIfRoom
  simp only
  split
  · exact .ite (.trans (setPlayer_keeps (r := { s.player p with outstanding := true }) rfl .rfl)
      (requestPort_fetch_keeps p _ _ _ _ _)) (.refl s)
  · exact .refl s

theorem becomeIdle_keeps (p : PlayerId) (s : State) : Keeps s (becomeIdle p s) :=
  ⟨becomeIdle_owners p s, (becomeIdle_edits p s).powered⟩

theorem clearIfGone_keeps (p : PlayerId) (n : Nat) (s : State) : Keeps s (clearIfGone p n s) :=
  .ite (.ite (becomeIdle_keeps p s) (.refl s)) (.refl s)

theorem withClears_keeps (s t : State) : Keeps t (withClears s t) := (clearIfGone_keeps .a _ t).trans (clearIfGone_keeps .b _ _)

theorem advance_move (r : Player) (time : Nat) (k0 k1 : PlayerKey) : (r.advance time k0 k1).move = r.move := by
  unfold Player.advance
  split <;> rfl

/-- A RUNNING player that advances is not IDLE (R114). -/
theorem advance_busy {r : Player} (running : r.state = .running) (time : Nat) (k0 k1 : PlayerKey) :
    (r.advance time k0 k1).state ≠ .idle := by
  unfold Player.advance
  split
  · simp [running]
  · simp only
    split <;> decide

theorem positionRequest_keeps (p : PlayerId) (s : State) : Keeps s (positionRequest p s) := by
  unfold positionRequest
  split
  · next running =>
    have busy : (s.player p).state ≠ .idle := by rw [running]; decide
    unfold runningRequest
    simp only
    split
    · next k0 k1 _ _ _ =>
      have advanced : Keeps s (s.setPlayer p (({ s.player p with rate := s.boundRate (s.player p) } : Player).advance
          ((s.player p).time + s.boundRate (s.player p)) k0 k1)) :=
        setPlayer_keeps (advance_move ..) ⟨(absurd · (advance_busy (by exact running) _ _ _)), (absurd · busy)⟩
      exact .trans (.ite advanced (advanced.trans (raise_keeps _ _))) (fetchIfRoom_keeps p _)
    · exact setPlayer_keeps rfl .rfl
  · exact .refl s

theorem discardOutcome_keeps (p : PlayerId) (s : State) : Keeps s (discardOutcome p s) := setPlayer_keeps rfl .rfl

theorem runEffect_keeps (p : PlayerId) (s : State) : Keeps s (runEffect p s) := by
  unfold runEffect
  simp only
  split
  · next held =>
    refine .trans (setPlayer_keeps (r := { s.player p with state := (s.player p).runState }) rfl ⟨fun idle => ?_, fun idle => ?_⟩)
      (fetchIfRoom_keeps p _)
    · unfold Player.runState at idle
      split at idle <;> cases idle
    · rw [idle] at held
      exact absurd held (by decide)
  · exact fetchIfRoom_keeps p s

theorem pauseEffect_keeps (p : PlayerId) (s : State) : Keeps s (pauseEffect p s) := by
  unfold pauseEffect
  simp only
  split
  · next moving =>
    refine setPlayer_keeps rfl ⟨nofun, fun idle => ?_⟩
    rw [idle] at moving
    exact absurd moving (by decide)
  · exact .refl s

theorem pausePlayers_keeps (s : State) : Keeps s (pausePlayers s) := (pauseEffect_keeps .a s).trans (pauseEffect_keeps .b _)

/-- An IDLE player takes a READY move, or none (R104, R106). -/
theorem State.Owned.takes {s t : State} {p : PlayerId} (h : s.Owned) (other : ∀ q : PlayerId, q ≠ p → t.player q = s.player q)
    (free : (s.player p).state = .idle) (busy : (t.player p).state ≠ .idle)
    (users : ∀ m : MoveIx, (t.entry m).users = (s.entry m).users + (t.player p).claims m)
    (state : ∀ m : MoveIx, (t.entry m).state = (s.entry m).state)
    (ready : ∀ m : MoveIx, (t.player p).claims m ≠ 0 → (s.entry m).state = .ready) (recorder : t.recorderLawful = true) : t.Owned where
  users := fun m => by
    have balance := holders_change other m
    have none : (s.player p).claims m = 0 := if_neg fun held => held.1 free
    rw [users, h.users]
    omega
  spare := fun m => by
    rw [users, state]
    by_cases held : (t.player p).claims m = 0
    · rw [held, Nat.add_zero]
      exact h.spare m
    · exact .inr (ready m held)
  recorder := recorder
  idle := fun q idle => by
    by_cases here : q = p
    · exact absurd (here ▸ idle) busy
    · rw [other q here] at idle ⊢
      exact h.idle q idle

theorem claimCheck_ready {e : Entry} (h : claimCheck e = .ok) : e.state = .ready := by
  unfold claimCheck at h
  split at h
  · cases h
  · split at h
    · cases h
    · next ready => exact not_not.mp ready

theorem loadRequest_keeps (c id r : Nat) (s : State) : Keeps s (loadRequest c id r s).1 := by
  unfold loadRequest
  split
  · next p m _ _ =>
    split
    · exact .refl s
    · split
      · exact .refl s
      · next idle =>
        split
        · exact .refl s
        · next claim =>
          have ready := claimCheck_ready (not_not.mp claim)
          have claimed : s.Edits (s.setEntry m { s.entry m with users := (s.entry m).users + 1 }) :=
            edits_entry rfl rfl rfl rfl (.inl rfl) (.inl rfl)
          refine .trans (t := (s.setEntry m { s.entry m with users := (s.entry m).users + 1 }).setPlayer p
            ((s.player p).loaded m (s.entry m) r)) ⟨⟨fun wf => ?_, fun h => ?_⟩,
              (claimed.trans (setPlayer_edits p _ _)).powered⟩ (fetchIfRoom_keeps p _)
          · cases p <;> exact wf
          · have entry : ∀ n : MoveIx, ((s.setEntry m { s.entry m with users := (s.entry m).users + 1 }).setPlayer p
                ((s.player p).loaded m (s.entry m) r)).entry n =
                  (s.setEntry m { s.entry m with users := (s.entry m).users + 1 }).entry n := fun n => by cases p <;> rfl
            refine h.takes (p := p) (fun q ne => ?_) (not_not.mp idle) ?_ (fun n => ?_) (fun n => ?_) (fun n held => ?_) ?_
            · rw [setPlayer_player_other _ _ _ _ ne]
              cases q <;> rfl
            · rw [setPlayer_player_same]
              nofun
            · rw [entry, setPlayer_player_same]
              by_cases here : n = m
              · rw [here, setEntry_entry_same]
                simp [Player.claims, Player.loaded]
              · rw [setEntry_entry_other _ _ _ _ here]
                simp [Player.claims, Player.loaded, Ne.symm here]
            · rw [entry]
              by_cases here : n = m
              · rw [here, setEntry_entry_same]
              · rw [setEntry_entry_other _ _ _ _ here]
            · rw [setPlayer_player_same] at held
              by_cases here : n = m
              · exact here ▸ ready
              · exact absurd (by simp [Player.claims, Player.loaded, Ne.symm here]) held
            · refine recorderLawful_congr (s := s) (by cases p <;> rfl) (fun n _ mine => ?_) h.recorder
              rw [entry, setEntry_entry_other _ _ _ _ fun here : n = m => not_ready_of_byRecorder mine (here ▸ ready)]
              exact mine
  · exact .refl s

theorem runRequest_keeps (c : Nat) (s : State) : Keeps s (runRequest c s).1 := by
  unfold runRequest
  split
  · exact .refl s
  · split
    case h_5 | h_6 | h_7 | h_8 => exact .refl s
    all_goals exact runEffect_keeps _ s

theorem pauseRequest_keeps (c : Nat) (s : State) : Keeps s (pauseRequest c s).1 := by
  unfold pauseRequest
  split
  · exact .refl s
  · split
    case h_1 | h_2 | h_3 => exact pauseEffect_keeps _ s
    all_goals exact .refl s

theorem goToRequest_keeps (c k f : Nat) (s : State) : Keeps s (goToRequest c k f s).1 := by
  unfold goToRequest
  split
  · next p _ _ _ =>
    split
    · exact .refl s
    · split
      · exact .refl s
      · next idle =>
        split
        · exact .refl s
        · next i _ x _ =>
          refine ⟨⟨fun wf => ?_, fun h => ?_⟩, (setPlayer_edits p _ s).powered⟩
          · cases p <;> exact wf
          · have claims : ∀ (r : Player) (m : MoveIx), r.move = none → r.claims m = 0 := fun r m none =>
              if_neg fun held => by rw [none] at held; cases held.2
            refine h.takes (p := p) (fun q ne => setPlayer_player_other _ _ _ _ ne) (not_not.mp idle) ?_ (fun m => ?_) (fun m => ?_)
              (fun m held => ?_) ?_
            · rw [setPlayer_player_same]
              nofun
            · rw [setPlayer_player_same, claims _ _ rfl]
              cases p <;> rfl
            · cases p <;> rfl
            · rw [setPlayer_player_same, claims _ _ rfl] at held
              exact absurd rfl held
            · refine recorderLawful_congr (s := s) (by cases p <;> rfl) (fun m _ mine => ?_) h.recorder
              cases p <;> exact mine
  · exact .refl s

/-! ### The Blend Engine -/

theorem handBackWhere_keeps (p : Blend → Bool) (s : State) : Keeps s (handBackWhere p s) :=
  (mapAxes_keeps _ s).trans (withClears_keeps s _)

theorem takeOver_keeps (s : State) : Keeps s (takeOver s) := handBackWhere_keeps _ s

theorem dropRequest_keeps (p : PlayerId) (s : State) : Keeps s (dropRequest p s) := (mapAxes_keeps _ s).trans (withClears_keeps s _)

theorem fadeRequest_keeps (m t l : Nat) (s : State) : Keeps s (fadeRequest m t l s).1 := by
  unfold fadeRequest
  split
  · split
    · exact .refl s
    · split
      · exact .refl s
      · exact (mapAxes_keeps _ s).trans (withClears_keeps s _)
  · exact .refl s

theorem fetches_busy {r : Player} (h : r.fetches = true) : r.state ≠ .idle := fun idle => by simp [Player.fetches, idle] at h

theorem playerFault_keeps {p : PlayerId} {s : State} (busy : (s.player p).state ≠ .idle) (i : Nat) : Keeps s (playerFault p i s) :=
  .trans (setPlayer_keeps (r := { s.player p with state := .faulted, outstanding := false, fifo := [], faultKey := some i }) rfl
    ⟨nofun, (absurd · busy)⟩) ((handBackWhere_keeps _ _).trans (raise_keeps _ _))

theorem enterReleasing_keeps {p : PlayerId} {s : State} (busy : (s.player p).state ≠ .idle) : Keeps s (enterReleasing p s) := by
  have withdrawn : Keeps s { s with port := s.port.withdraw p } := by
    refine ⟨.aside, (edits_port (withdraw_sameWriters _ p) (fun a wait => ?_) fun a wait => ?_).powered⟩
    · cases p
      · cases wait
      · exact .inl wait
    · cases p
      · exact .inl wait
      · cases wait
  have same : ({ s with port := s.port.withdraw p } : State).player p = s.player p := by cases p <;> rfl
  refine withdrawn.trans (setPlayer_keeps (by rw [same]) ⟨nofun, fun idle => absurd (same ▸ idle) busy⟩)

theorem idleIfUnreferenced_keeps (p : PlayerId) (s : State) : Keeps s (idleIfUnreferenced p s) :=
  .ite (becomeIdle_keeps p s) (.refl s)

theorem stopRequest_keeps (c : Nat) (s : State) : Keeps s (stopRequest c s).1 := by
  unfold stopRequest
  split
  · exact .refl s
  · next p _ =>
    split
    case h_1 | h_2 => exact .refl s
    case h_3 => exact (dropRequest_keeps _ s).trans (becomeIdle_keeps _ _)
    all_goals
      next state =>
        exact (enterReleasing_keeps (by rw [state]; decide)).trans ((handBackWhere_keeps _ _).trans (idleIfUnreferenced_keeps _ _))

/-! ### Key accesses -/

theorem place_claims (r : Player) (i : Nat) (k : Key) (n : Option (Nat × Nat)) :
    (r.place i k n).move = r.move ∧ ((r.place i k n).state = .idle ↔ r.state = .idle) := by
  unfold Player.place
  simp only
  split
  · exact ⟨rfl, .rfl⟩
  · refine ⟨rfl, ?_⟩
    split
    · next starved => simp [starved]
    · exact .rfl
  · exact ⟨rfl, .rfl⟩

theorem deliverFetch_owners (f : Bool) (p : PlayerId) (i : Nat) (r : Bool) (c : KeyCheck) (k : Key) (n : Option (Nat × Nat))
    (s : State) : KeepsOwners s (deliverFetch f p i r c k n s) := by
  unfold deliverFetch
  split
  · exact setPlayer_owners rfl .rfl
  · next fetching =>
    have busy := fetches_busy (by simpa using (not_or.mp fetching).1)
    refine .ite (.ite (setPlayer_owners rfl .rfl) (playerFault_keeps busy i).toKeepsOwners) ?_
    exact setPlayer_owners (place_claims _ _ _ _).1 (place_claims _ _ _ _).2

theorem deliverOutcome_owners (f : Bool) (v : Serving) (c : KeyCheck) (s : State) : KeepsOwners s (deliverOutcome f v c s) := by
  unfold deliverOutcome
  split
  · exact .ite (deliverFetch_owners _ _ _ _ _ _ _ s) (.refl s)
  · exact deliverRecorder_owners s
  · exact deliverConsoleWrite_owners s
  · exact deliverConsoleRead_owners _ _ _ s

theorem nextRequest_owners (a : Access) (s : State) : KeepsOwners s (nextRequest a s) := by
  cases a with
  | fetch => exact (fetchIfRoom_keeps _ s).toKeepsOwners
  | recorderWrite => exact recorderNext_owners s
  | consoleWrite | consoleRead => exact consoleStep_owners s

theorem completeAccess_owners (f : Bool) (c : KeyCheck) (s : State) : KeepsOwners s (completeAccess f c s) := by
  unfold completeAccess
  split
  · exact .refl s
  · next v _ =>
    have freed : ∀ u : State, KeepsOwners u (freePort u) := fun u => (setPort_owners u _).trans (arbitrate_owners 5 _)
    exact (finishAccess_owners v c s).trans ((deliverOutcome_owners f v c _).trans ((freed _).trans (nextRequest_owners _ _)))

theorem completeAccess_keeps (f : Bool) (c : KeyCheck) (s : State) : Keeps s (completeAccess f c s) :=
  ⟨completeAccess_owners f c s, completeAccess_powered f c⟩

theorem frameAccesses_keeps (l : List KeyCheck) (s : State) : Keeps s (frameAccesses l s) :=
  .foldl (fun s c => completeAccess_keeps true c s) l s

theorem takeArrived_keeps (p : PlayerId) (s : State) : Keeps s (takeArrived p s) := by
  unfold takeArrived
  split
  · exact .refl s
  · simp only
    have taken : Keeps s (s.setPlayer p { s.player p with arrived := none }) := setPlayer_keeps rfl .rfl
    split
    · next fetching => exact taken.trans (playerFault_keeps (fetches_busy fetching) _)
    · exact taken.trans (discardOutcome_keeps p _)

theorem takeFaults_keeps (o : PlayerOrder) (s : State) : Keeps s (takeFaults o s) := (takeArrived_keeps _ s).trans (takeArrived_keeps _ _)

/-! ### The Recorder -/

theorem recorderTimeLimit_keeps (s : State) : Keeps s (recorderTimeLimit s) := ⟨recorderTimeLimit_owners s, recorderTimeLimit_powered⟩

theorem recorderPublication_keeps (s : State) : Keeps s (recorderPublication s) :=
  ⟨recorderPublication_owners s, recorderPublication_powered⟩

theorem recorderGo_keeps (s : State) : Keeps s (recorderGo s) := ⟨recorderGo_owners s, recorderGo_powered⟩

theorem recordStartRequest_keeps (id : Nat) (name : List Nat) (mask d sh tr : Nat) (s : State) :
    Keeps s (recordStartRequest id name mask d sh tr s).1 :=
  ⟨recordStartRequest_owners id name mask d sh tr s, recordStartRequest_powered id name mask d sh tr⟩

theorem recordStopRequest_keeps (s : State) : Keeps s (recordStopRequest s).1 := ⟨recordStopRequest_owners s, recordStopRequest_powered⟩

theorem endRecRequest_keeps (s : State) : Keeps s (endRecRequest s).1 := ⟨endRecRequest_owners s, endRecRequest_powered⟩

/-! ### The cue and the trigger table -/

theorem cueRefused_keeps (c : Result) (ax : Option (Fin 8)) (s : State) : Keeps s (cueRefused c ax s) :=
  (setCue_keeps _ s).trans (raise_keeps _ _)

theorem cueDone_keeps (s : State) : Keeps s (cueDone s) := (setCue_keeps _ s).trans (raise_keeps _ _)

theorem cueAdvance_keeps (s : State) : Keeps s (cueAdvance s) := by
  unfold cueAdvance
  split
  · exact setCue_keeps _ s
  · exact cueDone_keeps s

theorem cueResult_keeps {s : State} {r : State × Result × Option (Fin 8)} (h : Keeps s r.1) : Keeps s (cueResult r) :=
  .ite (h.trans (cueAdvance_keeps _)) (h.trans (cueRefused_keeps _ _ _))

theorem cueResult1_keeps {s : State} {r : State × Result} (h : Keeps s r.1) : Keeps s (cueResult1 r) := cueResult_keeps h

theorem testEnd_keeps (p : PlayerId) (s : State) : Keeps s (testEnd p s) := .ite (cueAdvance_keeps s) (setCue_keeps _ s)

theorem testAt_keeps (k : Fin 64) (w : Nat) (s : State) : Keeps s (testAt k w s) := by
  unfold testAt
  split
  · exact cueRefused_keeps _ _ s
  · exact .ite (cueAdvance_keeps s) (setCue_keeps _ s)

theorem cueLoop_keeps (t : Fin 48) (n : Nat) (s : State) : Keeps s (cueLoop t n s) :=
  .ite (setCue_keeps _ s) ((setCue_keeps _ s).trans (cueAdvance_keeps _))

theorem cueExecute_keeps (s : State) : Keeps s (cueExecute s) := by
  unfold cueExecute
  split
  · exact cueResult1_keeps (loadRequest_keeps _ _ _ s)
  · exact cueResult1_keeps (goToRequest_keeps _ _ _ s)
  · exact cueResult1_keeps (runRequest_keeps _ s)
  · exact cueResult_keeps (fadeRequest_keeps _ _ _ s)
  · exact cueResult1_keeps (stopRequest_keeps _ s)
  · exact cueResult1_keeps (recordStartRequest_keeps _ _ _ _ _ _ s)
  · exact cueResult1_keeps (endRecRequest_keeps s)
  · exact setCue_keeps _ s
  · exact setCue_keeps _ s
  · exact testEnd_keeps _ s
  · exact testAt_keeps _ _ s
  · exact cueLoop_keeps _ _ s
  · exact (raise_keeps _ s).trans (cueAdvance_keeps _)
  · exact cueDone_keeps s

theorem cueRun_keeps (n : Nat) : ∀ s : State, Keeps s (cueRun n s) := by
  induction n with
  | zero => exact Keeps.refl
  | succ n ih => exact fun s => .ite ((cueExecute_keeps s).trans (ih _)) (.refl s)

theorem waitFramesExpired_keeps (s : State) : Keeps s (waitFramesExpired s) := by
  unfold waitFramesExpired
  split
  · exact .ite ((cueAdvance_keeps s).trans (cueRun_keeps _ _)) (.refl s)
  · exact .refl s

theorem cueWaiting_keeps (s : State) : Keeps s (cueWaiting s) := by
  unfold cueWaiting
  split
  · exact (setCue_keeps _ s).trans (waitFramesExpired_keeps _)
  · exact (testEnd_keeps _ s).trans (cueRun_keeps _ _)
  · exact (testAt_keeps _ _ s).trans (cueRun_keeps _ _)
  · exact .refl s

theorem cuePublication_keeps (s : State) : Keeps s (cuePublication s) := by
  unfold cuePublication
  split
  case h_1 => exact cueWaiting_keeps s
  case h_2 => exact .ite ((setCue_keeps _ s).trans (cueDone_keeps _)) ((setCue_keeps _ s).trans (cueRun_keeps _ _))
  all_goals exact .refl s

theorem cueStopped_keeps (s : State) : Keeps s (cueStopped s) := .ite (setCue_keeps _ s) (.refl s)

theorem cueGo_keeps (code : Nat) (s : State) : Keeps s (cueGo code s) := by
  have met : Keeps s (cueMet s) := by
    unfold cueMet
    split <;> exact setCue_keeps _ s
  refine .ite ?_ (.refl s)
  split
  · exact .ite met (.refl s)
  · exact .refl s

theorem resumePlayer_keeps (p : PlayerId) (s : State) : Keeps s (resumePlayer p s) := .ite (runEffect_keeps p s) (.refl s)

theorem triggerAct_keeps (a : TriggerAction) (code : Nat) (e : Fin 8) (s : State) : Keeps s (triggerAct a code e s) := by
  cases a with
  | none => exact .refl s
  | cueGo => exact (cueGo_keeps code s).trans (recorderGo_keeps _)
  | pauseAll => exact pausePlayers_keeps s
  | resumePlay =>
    unfold triggerAct
    exact .ite (.refl s) ((resumePlayer_keeps .a s).trans (resumePlayer_keeps .b _))
  | takeOver => exact takeOver_keeps s
  | report => exact raise_keeps _ s

theorem buttonCode_keeps (s : State) (code : Nat) : Keeps s (buttonCode s code) := by
  unfold buttonCode
  split
  · exact triggerAct_keeps _ _ _ s
  · exact .refl s

/-! ### Axis Control and the Drive Line -/

theorem cascade_keeps (s : State) : Keeps s (cascade s) :=
  (mapAxes_keeps _ s).trans ((withClears_keeps s _).trans ((pausePlayers_keeps _).trans (cueStopped_keeps _)))

theorem allHeldIf_keeps (b : Bool) (s : State) : Keeps s (allHeldIf b s) := .ite (raise_keeps _ s) (.refl s)

theorem enterFault_keeps (i : Fin 8) (c : FaultCause) (x : Int) (code : Option Nat) (s : State) :
    Keeps s (enterFault i c x code s) := by
  unfold enterFault
  refine .trans (.trans (.trans (.trans (.trans ?_ (withClears_keeps s _)) (allHeldIf_keeps _ _)) (faultReport_traffic _ _).keeps)
    (raise_keeps _ _)) (cascade_keeps _)
  exact setAxis_keeps i _ s

theorem driveSilent_keeps (i : Fin 8) (s : State) : Keeps s (driveSilent i s) := .ite (enterFault_keeps _ _ _ _ s) (.refl s)

theorem closeWindow_keeps (i : Fin 8) (s : State) : Keeps s (closeWindow i s) := by
  unfold closeWindow
  split
  · exact .ite (.refl s) ((setAxis_keeps i _ s).trans (driveSilent_keeps i _))
  · exact .refl s

theorem driveAxis_keeps (f s : State) (i : Fin 8) : Keeps s (driveAxis f s i) := .ite ((closeWindow_keeps i s).trans .aside) (.refl s)

theorem drivePublication_keeps (f s : State) : Keeps s (drivePublication f s) :=
  .trans (t := { s with exchanges := [] }) .aside (.foldl (driveAxis_keeps f) _ _)

theorem replyAct_keeps (i : Fin 8) (x : Int) (st : DriveStatus) (s : State) : Keeps s (replyAct i x st s) := by
  have recorded := setAxis_keeps i ((s.axis i).answeredBy x st) s
  refine .ite ?_ recorded
  split
  case h_1 => exact recorded.trans (enterFault_keeps _ _ _ _ _)
  all_goals
    split
    · exact recorded.trans (enterFault_keeps _ _ _ _ _)
    · exact recorded

theorem driveReply_keeps (ad sq : Nat) (x : Int) (st co ch : Nat) (s : State) : Keeps s (driveReply ad sq x st co ch s) := by
  unfold driveReply
  split
  · exact .ite (replyAct_keeps _ _ _ s) (.refl s)
  · exact .refl s

/-! ### The Stick Port -/

theorem SameButStick.keeps {s t : State} (h : SameButStick s t) : Keeps s t :=
  .aside h.lib h.port h.txn h.playerA h.playerB h.recorder h.power

theorem handOn_keeps (r : State × List Nat) : Keeps r.1 (handOn r) := .foldl buttonCode_keeps _ _

theorem panelHunt_keeps (s : State) : Keeps s (panelHunt s) := .aside

theorem panelReceive_keeps (b : Byte) (e : Bool) (s : State) : Keeps s (panelReceive b e s) := by
  unfold panelReceive
  split
  · exact .ite .aside (.refl s)
  · refine .ite (panelHunt_keeps s) (.ite (panelHunt_keeps s) (.ite ?_ .aside))
    exact (panelHunt_keeps s).trans ((portComplete_stick _ _ _ _ _).keeps.trans (handOn_keeps _))

/-! ### The output frame -/

theorem limitStage_keeps (c : Fin 8 → Int) (f : Fin 8 → ClampFlags) (s : State) : Keeps s (limitStage c f s) := by
  refine .trans (.trans ?_ (.foldl (fun t i => raise_keeps _ t) _ _)) (allHeldIf_keeps _ _)
  exact .aside

theorem blendAndLimit_keeps (s : State) : Keeps s (blendAndLimit s) :=
  have blended : Keeps s (blendStage s) := (mapAxes_keeps _ s).trans (withClears_keeps s _)
  blended.trans ((limitStage_keeps _ _ _).trans (mapAxes_keeps _ _))

theorem askPlayers_keeps (t : PlayerTurns) (s : State) : Keeps s (askPlayers t s).1 :=
  (frameAccesses_keeps _ s).trans ((positionRequest_keeps _ _).trans ((frameAccesses_keeps _ _).trans
    ((stickEvents_stick _ _).keeps.trans ((positionRequest_keeps _ _).trans ((frameAccesses_keeps _ _).trans
      (stickEvents_stick _ _).keeps)))))

theorem publishTo_keeps (f s : State) (x : Sink) : Keeps s (publishTo f s x) := by
  cases x with
  | driveLine => exact drivePublication_keeps f s
  | recorder => exact recorderPublication_keeps s
  | cue => exact cuePublication_keeps s
  | noticeUnit => exact (dividerCount_traffic f s).keeps

/-- A change of the Recorder's own notes of the publication. -/
theorem setRecorder_keeps {s : State} {r : Recorder} (same : s.recorder.SameTake r) : Keeps s { s with recorder := r } :=
  ⟨setRecorder_owners same.move same.idle, fun h => setRecorder_powered h same⟩

theorem publish_keeps (order : List Sink) (s : State) : Keeps s (publish order s) := by
  have published : Keeps s { s with outputSet := s.publishedOuts } := .aside
  have awaited : ∀ u : State, Keeps u { u with recorder := { u.recorder with awaiting := true } } := fun u => setRecorder_keeps {}
  exact published.trans ((awaited _).trans (.foldl (publishTo_keeps _) _ _))

theorem outputFrame_keeps (order : List Sink) (t : PlayerTurns) (s : State) : Keeps s (outputFrame order t s) :=
  have expired : Keeps s { s with timer := s.timer.expire } := .aside
  expired.trans ((askPlayers_keeps t _).trans ((blendAndLimit_keeps _).trans ((publish_keeps order _).trans
    ((takeFaults_keeps t.faults _).trans (handOn_keeps (_, _))))))

/-! ### A millisecond -/

theorem stickMillisecond_keeps (s : State) : Keeps s (stickMillisecond s) := by
  have counted : Keeps s { s with stick := { s.stick with elapsed := s.stick.elapsed + 1 } } := .aside
  exact .ite (.ite (counted.trans (staleExpire_stick _).keeps) counted) (.refl s)

theorem frameMillisecond_keeps (s : State) : Keeps s (frameMillisecond s) := by
  have counted : Keeps s { s with timer := { s.timer with elapsed := s.timer.elapsed + 1 } } := .aside
  exact .ite (counted.trans (outputFrame_keeps _ _ _)) counted

/-! ### The Console Link -/

theorem framer_keeps (f : Option (List Byte)) (s : State) : Keeps s { s with link := { s.link with framer := f } } := .aside

theorem discardFrame_keeps (c : LinkCause) (s : State) : Keeps s (discardFrame c s) := (framer_keeps none s).trans (raise_keeps _ _)

theorem consoleGap_keeps (s : State) : Keeps s (consoleGap s) := by
  unfold consoleGap
  split
  · exact discardFrame_keeps _ s
  · exact .refl s

theorem millisecond_keeps (s : State) : Keeps s (millisecond s) :=
  (panelHunt_keeps s).trans ((consoleGap_keeps _).trans ((stickMillisecond_keeps _).trans (frameMillisecond_keeps _)))

theorem requestArrival_keeps (kind tag : Nat) (payload : List Byte) (s : State) : Keeps s (requestArrival kind tag payload s) :=
  .ite .aside (.ite .aside (raise_keeps _ s))

theorem completeFrame_keeps (kind tag : Nat) (payload : List Byte) (check : Nat) (s : State) :
    Keeps s (completeFrame kind tag payload check s) :=
  .ite (discardFrame_keeps _ s) (.ite (discardFrame_keeps _ s) ((framer_keeps none s).trans (requestArrival_keeps _ _ _ _)))

theorem consoleReceive_keeps (b : Byte) (e : Bool) (s : State) : Keeps s (consoleReceive b e s) := by
  unfold consoleReceive
  split
  · exact .ite (framer_keeps _ s) (.refl s)
  · exact .ite (discardFrame_keeps _ s) (.ite (discardFrame_keeps _ s)
      (.ite (completeFrame_keeps _ _ _ _ s) (framer_keeps _ s)))

end Sys2Proof.Machine
end

section
/-! Loss of power, power-on and RESTART keep the laws of the Move Library (R98 to R100). -/

namespace Sys2Proof.Machine

/-! ### What the retained tables keep -/

/-- The laws of the retained tables: an entry found WRITING may have kept the block of a key that was not written (R98). -/
structure State.Retained (s : State) : Prop where
  tables : s.TablesLawful
  fits : ∀ m : MoveIx, (s.chain (s.entry m)).length = blocksFor (s.entry m).keys ∨
    ((s.entry m).state = .writing ∧ (s.chain (s.entry m)).length = (s.entry m).keys / Config.slots + 1)

/-- The entry of a write in progress is WRITING. -/
theorem writing_state {s : State} {m : MoveIx} (recorder : s.RecorderAsks) (console : s.ConsoleAsks) (owner : s.recorderLawful = true)
    (writing : s.port.writing? = some m) : (s.entry m).state = .writing := by
  cases served : s.port.serving with
  | none => rw [writing_free served] at writing; cases writing
  | some v =>
    rw [writing_serving served] at writing
    cases access : v.access with
    | fetch | consoleRead => rw [access] at writing; cases writing
    | recorderWrite n k =>
      obtain rfl : n = m := Option.some.inj (by simpa [access, Access.writes?] using writing)
      exact (byRecorder_iff.mp ((recorderLawful_iff.mp owner).2 n (recorder_serves recorder served access).1)).1
    | consoleWrite n k =>
      obtain rfl : n = m := Option.some.inj (by simpa [access, Access.writes?] using writing)
      obtain ⟨⟨x, _, ask⟩, _⟩ := console_serves console served (by rw [access]; rfl)
      rw [access] at ask
      cases ask with
      | write _ mine _ => exact (byConsole_iff.mp mine).1

theorem State.LibraryLawful.retained {s : State} (h : s.LibraryLawful) : s.Retained where
  tables := h.tables
  fits := fun m => by
    by_cases writing : s.port.writing? = some m
    · exact .inr ⟨writing_state h.port.recorder (consoleAsks_of_law h.port.console) h.owner writing,
        (h.keys m).written (writeOn_iff.mpr writing)⟩
    · exact ((h.keys m).length (mt writeOn_iff.mp writing)).imp_right And.right

theorem State.PoweredLawful.retained {s : State} (h : s.PoweredLawful) : s.Retained := h.lawful.retained

/-- The laws of the retained tables are about them alone; the users counts are none of them. -/
theorem State.Retained.congr {s t : State} (h : s.Retained) (tables : s.SameTables t)
    (writing : ∀ m : MoveIx, (s.entry m).state = .writing → (t.entry m).state = .writing) : t.Retained where
  tables := tables.tablesLawful h.tables
  fits := fun m => by
    rw [tables.chain, tables.keys]
    exact (h.fits m).imp_right (And.imp_left (writing m))

theorem State.Retained.of_lib {s t : State} (h : s.Retained) (lib : t.lib = s.lib) : t.Retained :=
  h.congr (.of_lib lib) fun m writing => by rwa [entry_of_dir (congrArg Library.dir lib)]

theorem resetVolatile_sameTables (line : StopLine) (s : State) : s.SameTables (resetVolatile line s) := by
  refine ⟨Library.wf_of_eq rfl rfl, rfl, rfl, fun _ => rfl, fun _ => rfl, fun _ => id, fun _ _ => rfl, fun m => ?_, fun m => ?_,
    fun m => ?_, fun m => ?_, fun m => ?_⟩ <;> rw [resetVolatile_entry]
  exact id

theorem resetVolatile_retained {line : StopLine} {s : State} (h : s.Retained) : (resetVolatile line s).Retained :=
  h.congr (resetVolatile_sameTables line s) fun m writing => by rwa [resetVolatile_entry]

theorem initial_retained {s : State} (lib : s.lib = Library.initial) : s.Retained := reset_libraryLawful.retained.of_lib lib

/-! ### Recovery (R100) -/

/-- The blocks that a recovered entry keeps are those its keys need. -/
theorem kept_length {s : State} (h : s.Retained) (m : MoveIx) :
    ((s.chain (s.entry m)).take (blocksFor (s.entry m).keys)).length = blocksFor (s.entry m).keys := by
  rw [List.length_take, Nat.min_eq_left]
  rcases h.fits m with fits | ⟨_, spare⟩
  · exact fits.ge
  · rw [spare, ← blocksFor_succ]
    unfold blocksFor Config.slots
    omega

theorem trimChain_keeps_record (m : MoveIx) (s : State) (n : MoveIx) : ((trimChain m s).entry n).keys = (s.entry n).keys ∧
    ((trimChain m s).entry n).endTime = (s.entry n).endTime ∧ ((trimChain m s).entry n).state = (s.entry n).state := by
  by_cases here : n = m
  · obtain ⟨first, last, same⟩ := trimChain_entry_same m s
    rw [here, same]
    exact ⟨rfl, rfl, rfl⟩
  · rw [trimChain_entry_other here]
    exact ⟨rfl, rfl, rfl⟩

/-- A trimmed WRITING entry has the blocks its keys need. -/
theorem trimChain_retained {s : State} {m : MoveIx} (h : s.Retained) (writing : (s.entry m).state = .writing) :
    (trimChain m s).Retained := by
  have shortens := trimChain_shortens m h.tables
  have record := trimChain_keeps_record m s
  have room : ∀ i < (s.entry m).keys,
      i / Config.slots < ((s.chain (s.entry m)).take (blocksFor (s.entry m).keys)).length := fun i below =>
    div_slots_lt below (kept_length h m)
  refine ⟨⟨trimChain_lib_wf h.tables.canonical m, shortens.blocksLawful h.tables.blocks fun empty => ?_, fun n empty => ?_,
    fun n => ?_⟩, fun n => ?_⟩
  · rw [(record m).2.2, writing] at empty
    cases empty
  · rw [(record n).1]
    exact h.tables.empty n ((record n).2.2 ▸ empty)
  · by_cases here : n = m
    · subst here
      exact shortens.times_same h.tables.blocks (record n).1 (record n).2.1 room (h.tables.times n)
    · exact shortens.times_other h.tables.blocks here (h.tables.times n)
  · rw [(record n).1, (record n).2.2]
    by_cases here : n = m
    · subst here
      rw [shortens.chain_same h.tables.blocks]
      exact .inl (kept_length h n)
    · rw [shortens.chain_other h.tables.blocks here]
      exact h.fits n

theorem truncate_sameTables (m : MoveIx) (s : State) : s.SameTables (s.setEntry m (s.entry m).truncate) :=
  setEntry_sameTables rfl rfl rfl rfl nofun

/-- A WRITING entry that has the blocks its keys need may be closed, or emptied. -/
theorem closed_retained {s : State} {m : MoveIx} (h : s.Retained)
    (fits : (s.chain (s.entry m)).length = blocksFor (s.entry m).keys) :
    (s.setEntry m (s.entry m).truncate).Retained where
  tables := (truncate_sameTables m s).tablesLawful h.tables
  fits := fun n => by
    rw [(truncate_sameTables m s).chain, (truncate_sameTables m s).keys]
    by_cases here : n = m
    · exact .inl (here ▸ fits)
    · rw [setEntry_entry_other _ _ _ _ here]
      exact h.fits n

theorem emptyEntry_retained {s : State} (h : s.Retained) (m : MoveIx) : (emptyEntry m s).Retained where
  tables := emptyEntry_tablesLawful m h.tables
  fits := fun n => by
    by_cases here : n = m
    · subst here
      rw [(emptyEntry_shortens n h.tables).chain_same h.tables.blocks, emptyEntry_entry_same]
      exact .inl rfl
    · rw [(emptyEntry_shortens m h.tables).chain_other h.tables.blocks here, emptyEntry_entry_other here]
      exact h.fits n

theorem recoverEntry_retained {s : State} (h : s.Retained) (m : MoveIx) : (recoverEntry s m).Retained := by
  unfold recoverEntry
  split
  · next writing =>
    have trimmed := trimChain_retained h writing
    simp only
    split
    · refine closed_retained trimmed ?_
      rw [(trimChain_shortens m h.tables).chain_same h.tables.blocks, kept_length h, (trimChain_keeps_record m s m).1]
    · exact emptyEntry_retained trimmed m
  · exact h

theorem recover_retained {s : State} (h : s.Retained) : (recover s).Retained := by
  have all : ∀ (l : List MoveIx) (u : State), u.Retained → (l.foldl recoverEntry u).Retained := fun l => by
    induction l with
    | nil => exact fun _ => id
    | cons m t ih => exact fun u lawful => ih _ (recoverEntry_retained lawful m)
  exact all allMoves s h

theorem recover_lib_wf {s : State} (rest : s.AtRest) (h : s.lib.wf = true) : (recover s).lib.wf = true := by
  have all : ∀ (l : List MoveIx) (u : State), u.AtRest → u.lib.wf = true → (l.foldl recoverEntry u).lib.wf = true := fun l => by
    induction l with
    | nil => exact fun _ _ => id
    | cons m t ih => exact fun u rest wf => ih _ ((recoverEntry_recovers rest m).atRest rest) (recoverEntry_lib_wf rest wf m)
  exact all allMoves s rest h

/-! ### The laws of a part at rest -/

/-- The retained tables, with nothing at the port and no take, have the laws of the Move Library: an entry with a block to spare
is WRITING, and then without main power. -/
theorem State.Retained.lawful {s : State} (h : s.Retained) (port : s.port = KeyPort.idle) (recorder : s.recorder = Recorder.reset)
    (closed : s.power.on = false ∨ ∀ m : MoveIx, (s.entry m).state ≠ .writing) : s.LibraryLawful where
  canonical := h.tables.canonical
  blocks := h.tables.blocks
  keys := fun m => by
    have idle : ¬ s.writeOn m := by
      rw [writeOn_iff, port]
      exact nofun
    have times := h.tables.times m
    refine ⟨h.tables.empty m, fun writing => absurd writing idle, fun _ => ?_, times.endTime, times.first, times.rising⟩
    refine (h.fits m).imp_right fun ⟨writing, spare⟩ => ⟨closed.resolve_right fun none => none m writing, writing, spare⟩
  owner := by
    rw [recorderLawful_iff, recorder]
    exact ⟨⟨nofun, (absurd rfl ·)⟩, fun _ => nofun⟩
  port := by
    refine ⟨?_, ?_, ?_, ?_⟩ <;> rw [port]
    · exact fun _ => nofun
    · exact fun _ => nofun
    · rw [recorder]
      exact .inl ⟨rfl, rfl⟩
    · exact .inl rfl
  take := fun m held => by
    rw [recorder] at held
    cases held

theorem recover_lawful {s : State} (h : s.Retained) (rest : s.AtRest) (recorder : s.recorder = Recorder.reset) :
    (recover s).LibraryLawful := by
  have recovers := recover_recovers rest
  refine (recover_retained h).lawful (recovers.atRest rest).port ?_ (.inr fun m => foldl_recoverEntry_closes allMoves rest
    (List.mem_finRange m))
  rw [recovers.rest]
  exact recorder

theorem powerLost_lawful {s : State} (h : s.Retained) : (powerLost s).LibraryLawful :=
  (resetVolatile_retained (h.of_lib (t := { s with power := { s.power with on := false } }) rfl)).lawful rfl rfl (.inl rfl)

theorem powerOn_lawful {s : State} (h : s.Retained) (loop : LoopCurrent) : (powerOn loop s).LibraryLawful := by
  refine recover_lawful (s := s.atPowerOn loop) ?_ (atPowerOn_atRest loop s) rfl
  cases lost : s.power.monitorLoss with
  | true => exact initial_retained (atPowerOn_lost_lib lost)
  | false =>
    rw [atPowerOn_kept lost]
    exact resetVolatile_retained (h.of_lib rfl)

/-- The access in progress completes at the library before the reset of a RESTART (R100). -/
theorem finishForReset_retained {s : State} (h : s.PoweredLawful) (c : KeyCheck) : (finishForReset c s).Retained := by
  unfold finishForReset
  split
  · next v serving =>
    obtain ⟨access, w, r⟩ := v
    cases access with
    | recorderWrite m k => exact (recorderCompleted_powered h serving rfl).retained.of_lib rfl
    | consoleWrite m k =>
      have stored := (consoleWriteCompleted_powered h serving rfl).1.retained
      have lib : ∀ u : State, (deliverConsoleWrite u).unserved.lib = u.lib := fun u => by
        unfold deliverConsoleWrite
        split
        · split <;> rfl
        · rfl
      exact stored.of_lib (lib _).symm
    | fetch p m i b n =>
      have finished : s.Edits (finishAccess { access := .fetch p m i b n, wanted := w, released := r } c s) :=
        .ite (.refl s) (finishRead_edits m i b n _ c s)
      exact (finished.powered h).retained
    | consoleRead m i b n =>
      have finished : s.Edits (finishAccess { access := .consoleRead m i b n, wanted := w, released := r } c s) :=
        .ite (.refl s) (finishRead_edits m i b n _ c s)
      exact (finished.powered h).retained
  · exact h.retained

theorem resetVolatile_atRest (line : StopLine) (s : State) : (resetVolatile line s).AtRest := ⟨rfl, rfl⟩

theorem finishForReset_power (c : KeyCheck) (s : State) : (finishForReset c s).power = s.power := by
  unfold finishForReset
  split
  · exact (finishAccess_library _ c s).power
  · rfl

/-- Without players and without a take, with nothing in use, the ownership is lawful (R101). -/
theorem owned_at_reset {s : State} (users : ∀ m : MoveIx, (s.entry m).users = 0) (a : s.playerA = Player.reset)
    (b : s.playerB = Player.reset) (recorder : s.recorder = Recorder.reset) : s.Owned where
  users := fun m => by
    rw [users, State.holders, a, b]
    rfl
  spare := fun m => .inl (users m)
  recorder := by
    rw [recorderLawful_iff, recorder]
    exact ⟨⟨nofun, (absurd rfl ·)⟩, fun _ => nofun⟩
  idle := fun p _ => by
    cases p with
    | a => exact congrArg Player.move a
    | b => exact congrArg Player.move b

theorem resetVolatile_owned (line : StopLine) (s : State) : (resetVolatile line s).Owned :=
  owned_at_reset (fun m => by rw [resetVolatile_entry]) rfl rfl rfl

/-- Recovery takes no user and no take into account (R100). -/
theorem recover_owned {s : State} (rest : s.AtRest) (users : ∀ m : MoveIx, (s.entry m).users = 0) (a : s.playerA = Player.reset)
    (b : s.playerB = Player.reset) (recorder : s.recorder = Recorder.reset) : (recover s).Owned := by
  have recovers := (recover_recovers rest).rest
  refine owned_at_reset (fun m => ?_) (by rw [recovers]; exact a) (by rw [recovers]; exact b) (by rw [recovers]; exact recorder)
  exact Nat.le_zero.mp ((foldl_recoverEntry_users allMoves rest m).trans (users m).le)

theorem finishForReset_owners (c : KeyCheck) (s : State) : KeepsOwners s (finishForReset c s) := by
  unfold finishForReset
  split
  · exact finishAccess_owners _ c s
  · exact .refl s

theorem restartEffect_keeps (loop : LoopCurrent) (c : KeyCheck) (s : State) : Keeps s (restartEffect loop c s) := by
  have rest := resetVolatile_atRest (stopLineRead loop) (finishForReset c s)
  refine ⟨⟨fun wf => ?_, fun _ => ?_⟩, fun h => ?_⟩
  · refine recover_lib_wf rest ((resetVolatile_sameTables _ _).canonical ?_)
    exact (finishForReset_owners c s).canonical wf
  · exact recover_owned rest (fun m => by rw [resetVolatile_entry]) rfl rfl rfl
  · refine (recover_lawful (resetVolatile_retained (finishForReset_retained h c)) rest rfl).powered ?_
    rw [(recover_recovers rest).rest]
    change (finishForReset c s).power.on = true
    rw [finishForReset_power]
    exact h.on

theorem transmitDone_keeps (loop : LoopCurrent) (c : KeyCheck) (s : State) : Keeps s (transmitDone loop c s) := by
  unfold transmitDone
  split
  · exact .refl s
  · exact .ite (restartEffect_keeps loop c s) .aside

end Sys2Proof.Machine
end

section
/-! Obligations O6, O7 and O10: every command, and so every step, keeps the canonical form of the tables, the laws of the Move
Library and the ownership of its entries. -/

namespace Sys2Proof.Machine

/-! ### The requests of the Move Library -/

theorem openMove_keeps {s : State} {m : MoveIx} (empty : (s.entry m).state = .empty) (name : List Nat) (k : Mask) :
    Keeps s (s.setEntry m (Entry.opened name k .console)) := by
  refine ⟨⟨setEntry_lib_wf m _, fun h => opened_owned h empty rfl rfl rfl ?_⟩, fun h =>
    (opened_edits h.core.tables empty name k .console).powered h⟩
  refine recorderLawful_congr (s := s) rfl (fun n _ mine => ?_) h.recorder
  rwa [setEntry_entry_other _ _ _ _ fun here : n = m => byRecorder_open mine (here ▸ empty)]

/-- The entry that a CLOSE_MOVE leaves (R93). -/
def Entry.closed (e : Entry) : Entry := { e with state := .ready, writer := none }

theorem closeMove_keeps {s : State} {m : MoveIx} (mine : (s.entry m).byConsole = true) (free : s.putOn m = false) :
    Keeps s (s.setEntry m (s.entry m).closed) := by
  have writing := (byConsole_iff.mp mine).1
  have others : ∀ n : MoveIx, (s.entry n).byRecorder = true → ((s.setEntry m (s.entry m).closed).entry n).byRecorder = true :=
    fun n recorded => by
      rwa [setEntry_entry_other _ _ _ _ fun here : n = m => byRecorder_not_byConsole recorded (here ▸ mine)]
  refine ⟨⟨setEntry_lib_wf m _, fun h => ?_⟩, fun h => ?_⟩
  · have unused := h.unused (m := m) (by rw [writing]; decide)
    refine h.change (.of_players rfl rfl) (fun n => ?_) (fun n used ready => ?_)
      (recorderLawful_congr (s := s) rfl (fun n _ => others n) h.recorder)
    · by_cases here : n = m
      · rw [here, setEntry_entry_same]
        rfl
      · rw [setEntry_entry_other _ _ _ _ here]
    · rw [setEntry_entry_other _ _ _ _ fun here : n = m => used (here ▸ unused)]
      exact ready
  · exact {
      on := h.on
      core := h.core.congr (setEntry_sameTables rfl rfl rfl rfl nofun) rfl h.core.waitA h.core.waitB
      owner := recorderLawful_congr (s := s) rfl (fun n _ => others n) h.owner
      recorder := h.recorder
      console := by
        rcases h.console with none | ⟨x, a, held, at', ask⟩
        · exact .inl none
        · refine .inr ⟨x, a, held, at', ?_⟩
          cases ask with
          | write work byConsole order =>
            have apart : x.move ≠ m := fun here => by simp [State.putOn, held, work, here] at free
            have same := setEntry_entry_other s m x.move (s.entry m).closed apart
            exact .write work (by rwa [same]) (by rwa [same])
          | read b n work => exact .read b n work
      take := fun n held => by
        have apart : n ≠ m := fun here =>
          byRecorder_not_byConsole ((recorderLawful_iff.mp h.owner).2 n held) (here ▸ mine)
        have same := setEntry_entry_other s m n (s.entry m).closed apart
        exact (h.take n held).congr rfl (by rw [same]) (by rw [same]) }

theorem protect_keeps (s : State) (m : MoveIx) (b : Bool) :
    Keeps s (s.setEntry m { s.entry m with flags := { (s.entry m).flags with isProtected := b } }) := by
  have edits : s.Edits (s.setEntry m { s.entry m with flags := { (s.entry m).flags with isProtected := b } }) :=
    edits_entry rfl rfl rfl rfl (.inl rfl) (.inl rfl)
  exact ⟨setEntry_owners rfl rfl rfl, edits.powered⟩

/-- The checks that a DELETE_MOVE has passed (R95). -/
theorem deleteCheck_ok {m : MoveIx} {s : State} (h : deleteCheck m s = .ok) : (s.entry m).byRecorder = false ∧ s.txnOn m = false ∧
    (s.entry m).users = 0 := by
  unfold deleteCheck at h
  simp only at h
  split at h
  · cases h
  split at h
  · cases h
  split at h
  · cases h
  split at h
  · cases h
  split at h
  · cases h
  next recorder txn _ users => exact ⟨by simpa using recorder, by simpa using txn, not_not.mp users⟩

/-- An entry that nothing holds and nothing writes may be emptied. -/
theorem delete_keeps {s : State} {m : MoveIx} (passed : deleteCheck m s = .ok) : Keeps s (emptyEntry m s) := by
  obtain ⟨recorder, txn, users⟩ := deleteCheck_ok passed
  have unrecorded : ∀ n : MoveIx, (s.entry n).byRecorder = true → n ≠ m := fun n mine here => by
    rw [here, recorder] at mine
    cases mine
  have untouched : ∀ x : Txn, s.txn = some x → x.move ≠ m := fun x held here => by simp [State.txnOn, held, here] at txn
  refine ⟨⟨emptyEntry_lib_wf m, fun h => emptyEntry_owned h users fun held => unrecorded m (h.recorded held) rfl⟩, fun h => ?_⟩
  have owner := recorderLawful_iff.mp h.owner
  have idle : s.port.writing? ≠ some m := fun writing => by
    cases served : s.port.serving with
    | none => rw [writing_free served] at writing; cases writing
    | some v =>
      rw [writing_serving served] at writing
      cases access : v.access with
      | fetch | consoleRead => rw [access] at writing; cases writing
      | recorderWrite n k =>
        obtain rfl : n = m := Option.some.inj (by simpa [access, Access.writes?] using writing)
        exact unrecorded n (owner.2 n (recorder_serves h.recorder served access).1) rfl
      | consoleWrite n k =>
        obtain rfl : n = m := Option.some.inj (by simpa [access, Access.writes?] using writing)
        obtain ⟨⟨x, held, ask⟩, _⟩ := console_serves h.console served (by rw [access]; rfl)
        rw [access] at ask
        cases ask with
        | write => exact untouched x held rfl
  exact {
    on := (emptyEntry_power m s).symm ▸ h.on
    core := emptyEntry_coreLawful h.core idle
    owner := recorderLawful_congr (emptyEntry_recorder m s) (fun n _ mine => by rwa [emptyEntry_entry_other (unrecorded n mine)]) h.owner
    recorder := h.recorder.congr (emptyEntry_recorderAccesses m s) (emptyEntry_recorder m s)
    console := emptyEntry_consoleAsks h.console fun x held _ => untouched x held
    take := fun n held => by
      have held' : s.recorder.move = some n := emptyEntry_recorder m s ▸ held
      have same := emptyEntry_entry_other (unrecorded n (owner.2 n held')) s
      exact (h.take n held').congr (emptyEntry_recorder m s) (by rw [same]) (by rw [same]) }

/-- A transaction begins while none is held, a PUT_KEYS on an entry the console writes (R89). -/
theorem beginTxn_keeps {s : State} (free : s.txn.isSome = false) {m : MoveIx} {w : TxnWork} (v : Via)
    (mine : ∀ (left : List Key) (n : Nat), w = .put left n → (s.entry m).byConsole = true) : Keeps s (beginTxn v m w s) := by
  refine (holdPlace_traffic v s).keeps.trans ⟨.trans .aside (consoleStep_owners _), fun h => ?_⟩
  have none : (holdPlace v s).port.consoleAccesses = [] := by
    rcases h.console with none | ⟨x, _, held, _⟩
    · exact none
    · rw [(holdPlace_traffic v s).txn] at held
      rw [held] at free
      cases free
  refine consoleStep_powered (setTxn_powered h none _) ⟨none, fun x left n held work => ?_⟩
  cases held
  exact (congrArg Entry.byConsole (entry_of_dir (congrArg Library.dir (holdPlace_traffic v s).lib) m)).trans (mine left n work)

/-! ### Commands -/

/-- An outcome whose next state, if there is one, keeps the laws of `s`. -/
def KeepsNext (s : State) (o : Host.Outcome State Fault Refusal) : Prop := ∀ t : State, o = .next t → Keeps s t

theorem KeepsNext.next {s t : State} (h : Keeps s t) : KeepsNext s (.next t) := by
  rintro u ⟨⟩
  exact h

theorem event_keeps {f : State → State} (h : ∀ s : State, Keeps s (f s)) (s : State) : KeepsNext s (event f s) := by
  unfold event
  split
  · exact .next ((h s).trans (pump_traffic _).keeps)
  · exact .next (.refl s)

theorem request_keeps {i : Instr} {act : Via → State → State × Option Reply} {s : State}
    (h : Keeps s (act (s.via i) s).1) : KeepsNext s (request i act s) := by
  unfold request
  split
  · split
    · next acted =>
      rw [acted] at h
      exact .next (h.trans ((readyReply_traffic _ _ _).trans (pump_traffic _)).keeps)
    · next acted =>
      rw [acted] at h
      exact .next (h.trans (pump_traffic _).keeps)
  · exact .next (.refl s)

theorem answered_keeps {i : Instr} {act : State → State × Reply} {s : State} (h : Keeps s (act s).1) :
    KeepsNext s (answered i act s) := request_keeps h

theorem query_keeps (i : Instr) (fields : State → List Byte) (s : State) : KeepsNext s (query i fields s) := answered_keeps (.refl s)

/-! ### Requests at the axes and the players -/

theorem execSetPanel_keeps (n : Nat) (s : State) : KeepsNext s (execSetPanel n s) := by
  refine answered_keeps ?_
  split
  · exact .refl s
  · have set : Keeps s { s with stick := { s.stick with timeout := n } } := .aside
    exact .ite (set.trans (staleExpire_stick _).keeps) set

theorem execSetRate_keeps (c r : Nat) (b : Option (Nat × Nat)) (s : State) : KeepsNext s (execSetRate c r b s) := by
  refine answered_keeps ?_
  split
  · split
    · exact .refl s
    · exact setPlayer_keeps rfl .rfl
  · exact .refl s

theorem execSetAxis_keeps (n : Nat) (w : WireAxis) (s : State) : KeepsNext s (execSetAxis n w s) := by
  have centred : ∀ (ch : Option (Fin 8)) (u : State), Keeps u (centreChannel ch u) := fun ch u => by
    cases ch with
    | none => exact .refl u
    | some j => exact .aside
  refine answered_keeps ?_
  simp only
  split
  · exact .refl s
  · split
    · exact .refl s
    · split
      · exact .refl s
      · exact (setAxis_keeps _ _ s).trans ((centred _ _).trans (withClears_keeps s _))

theorem execReleaseAxis_keeps (n : Nat) (s : State) : KeepsNext s (execReleaseAxis n s) := by
  refine answered_keeps ?_
  split
  · exact .refl s
  · split
    · exact .refl s
    · split
      · exact .refl s
      · exact (setAxis_keeps _ _ s).trans (withClears_keeps s _)

theorem execEnableAxis_keeps (n : Nat) (s : State) : KeepsNext s (execEnableAxis n s) := by
  refine answered_keeps ?_
  simp only
  split
  · exact .refl s
  · split
    · exact .refl s
    · split
      · exact .refl s
      · split
        · exact .refl s
        · exact (mapAxes_keeps _ s).trans (withClears_keeps s _)

theorem execDisableAxis_keeps (n : Nat) (s : State) : KeepsNext s (execDisableAxis n s) := by
  refine answered_keeps ?_
  split
  · exact .refl s
  · split
    · exact .refl s
    · exact (mapAxes_keeps _ s).trans ((withClears_keeps s _).trans (allHeldIf_keeps _ _))

/-! ### Requests at the Move Library -/

theorem execOpenMove_keeps (id : Nat) (name : List Nat) (mask : Nat) (s : State) : KeepsNext s (execOpenMove id name mask s) := by
  refine answered_keeps ?_
  split
  · split
    · exact .refl s
    · split
      · exact .refl s
      · next empty => exact openMove_keeps (not_not.mp empty) name _
  · exact .refl s

theorem execCloseMove_keeps (id : Nat) (s : State) : KeepsNext s (execCloseMove id s) := by
  refine answered_keeps ?_
  split
  · exact .refl s
  · split
    · exact .refl s
    · next mine =>
      split
      · exact .refl s
      · next free =>
        split
        · exact .refl s
        · exact closeMove_keeps (by simpa using mine) (by simpa using free)

theorem execProtectMove_keeps (id on : Nat) (s : State) : KeepsNext s (execProtectMove id on s) := by
  refine answered_keeps ?_
  split
  · simp only
    split
    · exact .refl s
    · exact protect_keeps s _ _
  · exact .refl s

theorem execDeleteMove_keeps (id : Nat) (s : State) : KeepsNext s (execDeleteMove id s) := by
  refine answered_keeps ?_
  split
  · exact .refl s
  · split
    · next passed => exact delete_keeps passed
    · exact .refl s

theorem execPutKeys_keeps (id : Nat) (keys : List WireKey) (s : State) : KeepsNext s (execPutKeys id keys s) := by
  refine request_keeps ?_
  unfold putKeysRequest
  split
  · exact .refl s
  · split
    · exact .refl s
    · next mine =>
      split
      · exact .refl s
      · split
        · exact .refl s
        · next free =>
          split
          · exact .refl s
          · exact beginTxn_keeps (by simpa using free) _ fun _ _ _ => by simpa using mine

theorem execReadKeys_keeps (id first count : Nat) (s : State) : KeepsNext s (execReadKeys id first count s) := by
  refine request_keeps ?_
  unfold readKeysRequest
  simp only
  split
  · exact .refl s
  · split
    · exact .refl s
    · split
      · exact .refl s
      · split
        · exact .refl s
        · next free =>
          split
          · exact .refl s
          · have begun := beginTxn_keeps (m := ‹MoveIx›) (w := .read first count []) (by simpa using free) (s.via (.readKeys id first count))
              fun _ _ => nofun
            exact begun

/-! ### Other commands -/

theorem execStopLineAssert_keeps (s : State) : KeepsNext s (execStopLineAssert s) :=
  event_keeps (fun u => by
    refine .ite (.trans (.trans ?_ (raise_keeps _ _)) (cascade_keeps _)) (.refl u)
    exact .aside) s

theorem execStopLineRelease_keeps (s : State) : KeepsNext s (execStopLineRelease s) :=
  event_keeps (fun u => by
    refine .ite (.trans ?_ (raise_keeps _ _)) (.refl u)
    exact .aside) s

theorem execFadeComplete_keeps (n : Nat) (s : State) : KeepsNext s (execFadeComplete n s) := by
  refine event_keeps (fun u => ?_) s
  split
  · exact (setAxis_keeps _ _ u).trans (withClears_keeps u _)
  · exact .refl u

theorem execDriveSilent_keeps (n : Nat) (s : State) : KeepsNext s (execDriveSilent n s) := by
  refine event_keeps (fun u => ?_) s
  split
  · exact driveSilent_keeps _ u
  · exact .refl u

theorem execStopAll_keeps (s : State) : KeepsNext s (execStopAll s) := by
  refine answered_keeps ?_
  exact (raise_keeps _ s).trans (cascade_keeps _)

theorem execFade_keeps (m t l : Nat) (s : State) : KeepsNext s (execFade m t l s) := by
  refine answered_keeps ?_
  exact fadeRequest_keeps m t l s

theorem execTakeOver_keeps (s : State) : KeepsNext s (execTakeOver s) := by
  refine answered_keeps ?_
  exact takeOver_keeps s

theorem execLoad_keeps (c id r : Nat) (s : State) : KeepsNext s (execLoad c id r s) := by
  refine answered_keeps ?_
  exact loadRequest_keeps c id r s

theorem execRun_keeps (c : Nat) (s : State) : KeepsNext s (execRun c s) := by
  refine answered_keeps ?_
  exact runRequest_keeps c s

theorem execPause_keeps (c : Nat) (s : State) : KeepsNext s (execPause c s) := by
  refine answered_keeps ?_
  exact pauseRequest_keeps c s

theorem execStop_keeps (c : Nat) (s : State) : KeepsNext s (execStop c s) := by
  refine answered_keeps ?_
  exact stopRequest_keeps c s

theorem execGoTo_keeps (c k f : Nat) (s : State) : KeepsNext s (execGoTo c k f s) := by
  refine answered_keeps ?_
  exact goToRequest_keeps c k f s

theorem execRecordStart_keeps (id : Nat) (name : List Nat) (mask d sh tr : Nat) (s : State) : KeepsNext s (execRecordStart id name mask d sh tr s) := by
  refine answered_keeps ?_
  exact recordStartRequest_keeps id name mask d sh tr s

theorem execRecordStop_keeps (s : State) : KeepsNext s (execRecordStop s) := by
  refine answered_keeps ?_
  exact recordStopRequest_keeps s

theorem execRestart_keeps (s : State) : KeepsNext s (execRestart s) := by
  refine answered_keeps ?_
  exact .aside

/-- Every command but those of main power and of the retention supply keeps the laws; the outcomes of the requests not named,
split by their checks, leave the Move Library, the players and the Recorder alone. -/
theorem exec_keeps {c : Instr} (powerOn : ∀ loop, c ≠ .powerOn loop) (mainLoss : c ≠ .mainPowerLoss)
    (supplyLoss : c ≠ .retentionSupplyLoss) (s : State) : KeepsNext s (exec c s) := by
  cases c with
  | powerOn loop => exact absurd rfl (powerOn loop)
  | mainPowerLoss => exact absurd rfl mainLoss
  | retentionSupplyLoss => exact absurd rfl supplyLoss
  | panelFrame => exact event_keeps (fun s => (portFrame_stick _ _ _ _ s).keeps.trans (handOn_keeps _)) s
  | panelByte => exact event_keeps (panelReceive_keeps _ _) s
  | panelGapTimeout => exact event_keeps panelHunt_keeps s
  | staleTimeout => exact event_keeps (fun s => (staleExpire_stick s).keeps) s
  | outputFrame => exact event_keeps (outputFrame_keeps _ _) s
  | recorderTimeLimit => exact event_keeps recorderTimeLimit_keeps s
  | waitFramesExpired => exact event_keeps waitFramesExpired_keeps s
  | statusReportDue => exact event_keeps (fun s => (statusDue_traffic s s).keeps) s
  | keyAccessComplete => exact event_keeps (completeAccess_keeps false _) s
  | driveReply => exact event_keeps (driveReply_keeps _ _ _ _ _ _) s
  | consoleByte => exact event_keeps (consoleReceive_keeps _ _) s
  | consoleGapTimeout => exact event_keeps consoleGap_keeps s
  | requestFrame => exact event_keeps (fun s => .ite (discardFrame_keeps _ s) (completeFrame_keeps _ _ _ _ s)) s
  | transmitDone => exact event_keeps (transmitDone_keeps _ _) s
  | stopLineAssert => exact execStopLineAssert_keeps s
  | stopLineRelease => exact execStopLineRelease_keeps s
  | fadeComplete => exact execFadeComplete_keeps _ s
  | driveSilent => exact execDriveSilent_keeps _ s
  | setPanel => exact execSetPanel_keeps _ s
  | setRate => exact execSetRate_keeps _ _ _ s
  | setAxis => exact execSetAxis_keeps _ _ s
  | releaseAxis => exact execReleaseAxis_keeps _ s
  | enableAxis => exact execEnableAxis_keeps _ s
  | disableAxis => exact execDisableAxis_keeps _ s
  | stopAll => exact execStopAll_keeps s
  | fade => exact execFade_keeps _ _ _ s
  | takeOver => exact execTakeOver_keeps s
  | putKeys => exact execPutKeys_keeps _ _ s
  | readKeys => exact execReadKeys_keeps _ _ _ s
  | openMove => exact execOpenMove_keeps _ _ _ s
  | closeMove => exact execCloseMove_keeps _ s
  | deleteMove => exact execDeleteMove_keeps _ s
  | protectMove => exact execProtectMove_keeps _ _ s
  | load => exact execLoad_keeps _ _ _ s
  | run => exact execRun_keeps _ s
  | pause => exact execPause_keeps _ s
  | stop => exact execStop_keeps _ s
  | goTo => exact execGoTo_keeps _ _ _ s
  | recordStart => exact execRecordStart_keeps _ _ _ _ _ _ s
  | recordStop => exact execRecordStop_keeps s
  | restart => exact execRestart_keeps s
  | ident | getPanel | getFrame | getGeometry | listMoves | getRecorder | getCue | getTriggers | getNotices | readLog
  | getStatus =>
    rw [exec]
    exact query_keeps _ _ s
  | setGeometry | setZone =>
    rw [exec]
    refine answered_keeps ?_
    dsimp only
    (repeat' split) <;> exact .aside
  | _ =>
    rw [exec]
    refine answered_keeps ?_
    (repeat' split) <;> exact .aside

end Sys2Proof.Machine
end

section
/-! The steps, and obligations O6, O7 and O10. -/

namespace Sys2Proof.Machine

/-! ### The laws without main power -/

/-- The laws of the Move Library are about the library, the port, the transaction, the Recorder and the power alone. -/
theorem State.LibraryLawful.congr {s t : State} (h : s.LibraryLawful) (lib : t.lib = s.lib) (port : t.port = s.port)
    (txn : t.txn = s.txn) (recorder : t.recorder = s.recorder) (power : t.power = s.power) : t.LibraryLawful := by
  have tables : s.SameTables t := .of_lib lib
  have entry := fun m : MoveIx => entry_of_dir (congrArg Library.dir lib) m
  have writeOn : ∀ m : MoveIx, t.writeOn m ↔ s.writeOn m := fun m => by rw [writeOn_iff, writeOn_iff, port]
  have lawful := tables.tablesLawful h.tables
  refine ⟨lawful.canonical, lawful.blocks, fun m => ?_, ?_, ?_, fun m held => ?_⟩
  · have times := lawful.times m
    refine ⟨lawful.empty m, fun writing => ?_, fun idle => ?_, times.endTime, times.first, times.rising⟩
    · rw [tables.chain, tables.keys]
      exact (h.keys m).written ((writeOn m).mp writing)
    · rw [tables.chain, entry, power]
      exact (h.keys m).length (mt (writeOn m).mpr idle)
  · exact recorderLawful_congr recorder (fun m _ mine => by rwa [entry]) h.owner
  · refine ⟨?_, ?_, ?_, ?_⟩
    · rw [port]
      exact h.port.waitA
    · rw [port]
      exact h.port.waitB
    · rw [port, recorder]
      exact h.port.recorder
    · simp only [port, txn, entry]
      exact h.port.console
  · exact (h.take m (recorder ▸ held)).congr recorder (tables.keys m) (tables.endTime m)

theorem SameButTraffic.lawful {s t : State} (h : SameButTraffic s t) (k : s.LibraryLawful) : t.LibraryLawful :=
  k.congr h.lib h.port h.txn h.recorder h.power

/-! ### Main power and the retention supply -/

theorem atPowerOn_lib_wf {loop : LoopCurrent} {s : State} (wf : s.lib.wf = true) : (s.atPowerOn loop).lib.wf = true := by
  cases lost : s.power.monitorLoss with
  | true =>
    rw [atPowerOn_lost_lib lost]
    exact Library.initial_wf
  | false =>
    rw [atPowerOn_kept lost]
    exact (resetVolatile_sameTables _ _).canonical wf

theorem powerOn_owners (loop : LoopCurrent) (s : State) : KeepsOwners s (powerOn loop s) :=
  have rest := atPowerOn_atRest loop s
  ⟨fun wf => recover_lib_wf rest (atPowerOn_lib_wf wf), fun _ => recover_owned rest (atPowerOn_entry_users loop s) rfl rfl rfl⟩

theorem powerLost_owners (s : State) : KeepsOwners s (powerLost s) :=
  ⟨(resetVolatile_sameTables s.stopLine { s with power := { s.power with on := false } }).canonical,
    fun _ => resetVolatile_owned _ _⟩

theorem execPowerOn_owners {loop : LoopCurrent} {s t : State} (h : execPowerOn loop s = .next t) : KeepsOwners s t := by
  unfold execPowerOn at h
  split at h <;> obtain rfl := Host.Outcome.next.inj h
  · exact .refl s
  · exact (powerOn_owners loop s).trans (pump_traffic _).owners

theorem execMainPowerLoss_owners {s t : State} (h : execMainPowerLoss s = .next t) : KeepsOwners s t := by
  unfold execMainPowerLoss at h
  split at h <;> obtain rfl := Host.Outcome.next.inj h
  · exact powerLost_owners s
  · exact .refl s

theorem execRetentionSupplyLoss_owners {s t : State} (h : execRetentionSupplyLoss s = .next t) : KeepsOwners s t := by
  cases h
  exact ⟨fun _ => (powerLost_owners (initialiseRetained s)).canonical Library.initial_wf,
    fun _ => (KeepsOwners.aside (s := powerLost (initialiseRetained s))).owned (resetVolatile_owned _ _)⟩

theorem execPowerOn_lawful {loop : LoopCurrent} {s t : State} (h : execPowerOn loop s = .next t) (lawful : s.LibraryLawful) :
    t.LibraryLawful := by
  unfold execPowerOn at h
  split at h <;> obtain rfl := Host.Outcome.next.inj h
  · exact lawful
  · exact (pump_traffic _).lawful (powerOn_lawful lawful.retained loop)

theorem execMainPowerLoss_lawful {s t : State} (h : execMainPowerLoss s = .next t) (lawful : s.LibraryLawful) : t.LibraryLawful := by
  unfold execMainPowerLoss at h
  split at h <;> obtain rfl := Host.Outcome.next.inj h
  · exact powerLost_lawful lawful.retained
  · exact lawful

theorem execRetentionSupplyLoss_lawful {s t : State} (h : execRetentionSupplyLoss s = .next t) : t.LibraryLawful := by
  cases h
  have lost : (powerLost (initialiseRetained s)).LibraryLawful := powerLost_lawful (initial_retained rfl)
  exact State.Retained.lawful (lost.retained.of_lib rfl) rfl rfl (.inl rfl)

/-! ### Every command and every step -/

theorem exec_owners {c : Instr} {s t : State} (h : exec c s = .next t) : KeepsOwners s t := by
  by_cases powerOn : ∃ loop, c = .powerOn loop
  · obtain ⟨loop, rfl⟩ := powerOn
    exact execPowerOn_owners h
  · by_cases mainLoss : c = .mainPowerLoss
    · subst mainLoss
      exact execMainPowerLoss_owners h
    · by_cases supplyLoss : c = .retentionSupplyLoss
      · subst supplyLoss
        exact execRetentionSupplyLoss_owners h
      · exact (exec_keeps (fun loop is => powerOn ⟨loop, is⟩) mainLoss supplyLoss s t h).toKeepsOwners

theorem exec_lawful {c : Instr} {s t : State} (h : exec c s = .next t) (lawful : s.LibraryLawful) : t.LibraryLawful := by
  by_cases powerOn : ∃ loop, c = .powerOn loop
  · obtain ⟨loop, rfl⟩ := powerOn
    exact execPowerOn_lawful h lawful
  · by_cases mainLoss : c = .mainPowerLoss
    · subst mainLoss
      exact execMainPowerLoss_lawful h lawful
    · by_cases supplyLoss : c = .retentionSupplyLoss
      · subst supplyLoss
        exact execRetentionSupplyLoss_lawful h
      · have others : ∀ loop, c ≠ .powerOn loop := fun loop is => powerOn ⟨loop, is⟩
        cases on : s.power.on with
        | true => exact ((exec_keeps others mainLoss supplyLoss s t h).library (lawful.powered on)).lawful
        | false =>
          rw [exec_off on supplyLoss others] at h
          cases h
          exact lawful

/-- Everything of an idle part but the delivery of a request keeps the laws. -/
theorem idle_cases {s t : State} (h : idle s = .next t) : t = s ∨ (∃ i : Instr, exec i s = .next t) ∨ (s.power.on = true ∧ Keeps s t) := by
  unfold idle at h
  split at h
  · next on =>
    split at h
    · exact .inr (.inl ⟨_, h⟩)
    · cases h
      exact .inr (.inr ⟨on, ((readyReply_traffic _ _ s).trans (pump_traffic _)).keeps⟩)
    · cases h
      exact .inr (.inr ⟨on, ((readyReply_traffic _ _ s).trans (pump_traffic _)).keeps⟩)
    · cases h
      exact .inr (.inr ⟨on, (millisecond_keeps s).trans (pump_traffic _).keeps⟩)
  · cases h
    exact .inl rfl

theorem step_owners {s t : State} (h : step s = .next t) : KeepsOwners s t := by
  unfold step at h
  split at h
  · exact KeepsOwners.trans .aside (exec_owners h)
  · rcases idle_cases h with rfl | ⟨i, ran⟩ | ⟨_, keeps⟩
    · exact .refl t
    · exact exec_owners ran
    · exact keeps.toKeepsOwners

theorem step_lawful {s t : State} (h : step s = .next t) (lawful : s.LibraryLawful) : t.LibraryLawful := by
  unfold step at h
  split at h
  · exact exec_lawful h (lawful.congr rfl rfl rfl rfl rfl)
  · rcases idle_cases h with rfl | ⟨i, ran⟩ | ⟨on, keeps⟩
    · exact lawful
    · exact exec_lawful ran lawful
    · exact (keeps.library (lawful.powered on)).lawful

/-- Settles O6: every operation writes the tables by their own canonical writes. -/
theorem stepKeepsLibraryCanonical : Obligations.StepKeepsLibraryCanonical := fun _ _ canonical stepped =>
  (step_owners stepped).canonical canonical

/-- Settles O7: with main power each operation keeps the laws in parts, those of the tables, of the port, of the transaction and of
the take; without it the retained tables keep their own, which recovery makes whole. -/
theorem stepKeepsLibraryLawful : Obligations.StepKeepsLibraryLawful := fun _ _ lawful stepped => step_lawful stepped lawful

/-- Settles O10: a claim is taken at a READY entry and returned as its player becomes IDLE, and the Recorder's entry stays WRITING
until its take ends. -/
theorem stepKeepsOwnersLawful : Obligations.StepKeepsOwnersLawful := fun _ _ lawful stepped =>
  owned_iff.mpr ((step_owners stepped).owned (owned_iff.mp lawful))

end Sys2Proof.Machine
end

section
/-! Recovery and the end of a RESTART (R100, R202): obligations O13 and O15. -/

namespace Sys2Proof.Machine

/-! ### Recovery of one entry, and of all -/

/-- What the recovery makes of the record of a WRITING entry (R100). -/
def Entry.Recovered (e r : Entry) : Prop :=
  (2 ≤ e.keys → ∃ first last : Option Nat, r = { e.truncate with first := first, last := last }) ∧
  (e.keys < 2 → r = Entry.blank)

theorem recoverEntry_recovered {s : State} {m : MoveIx} (writing : (s.entry m).state = .writing) :
    (s.entry m).Recovered ((recoverEntry s m).entry m) := by
  obtain ⟨first, last, trimmed⟩ := trimChain_entry_same m s
  have keys : ((trimChain m s).entry m).keys = (s.entry m).keys := by rw [trimmed]
  unfold recoverEntry
  rw [if_pos writing]
  simp only
  rw [keys]
  refine ⟨fun two => ⟨first, last, ?_⟩, fun few => ?_⟩
  · rw [if_pos two, setEntry_entry_same, trimmed]
    rfl
  · rw [if_neg (Nat.not_le_of_lt few), emptyEntry_entry_same]

theorem recoverEntry_other {m n : MoveIx} (other : n ≠ m) (s : State) : (recoverEntry s m).entry n = s.entry n := by
  unfold recoverEntry
  split
  · simp only
    split
    · rw [setEntry_entry_other _ _ _ _ other, trimChain_entry_other other]
    · rw [emptyEntry_entry_other other, trimChain_entry_other other]
  · rfl

theorem foldl_recoverEntry_other (l : List MoveIx) {n : MoveIx} (out : n ∉ l) (s : State) :
    (l.foldl recoverEntry s).entry n = s.entry n := by
  induction l generalizing s with
  | nil => rfl
  | cons m t ih =>
    obtain ⟨other, out⟩ := List.ne_and_not_mem_of_not_mem_cons out
    exact (ih out _).trans (recoverEntry_other other s)

/-- An entry is recovered in its turn, and the turns of the others leave it alone. -/
theorem foldl_recoverEntry_recovered {l : List MoveIx} (once : l.Nodup) {m : MoveIx} (mem : m ∈ l) {s : State}
    (writing : (s.entry m).state = .writing) : (s.entry m).Recovered ((l.foldl recoverEntry s).entry m) := by
  induction l generalizing s with
  | nil => cases mem
  | cons n t ih =>
    obtain ⟨fresh, once⟩ := List.nodup_cons.mp once
    by_cases here : m = n
    · subst here
      rw [List.foldl_cons, foldl_recoverEntry_other t fresh]
      exact recoverEntry_recovered writing
    · have kept := recoverEntry_other here s
      have later := (List.mem_cons.mp mem).resolve_left here
      exact kept ▸ ih once later (s := recoverEntry s n) (kept ▸ writing)

/-- Settles O13: the entry's own turn closes or empties it. -/
theorem recoveryClosesWritingEntries : Obligations.RecoveryClosesWritingEntries := by
  intro s m writing
  obtain ⟨closed, emptied⟩ := foldl_recoverEntry_recovered (List.nodup_finRange 32) (List.mem_finRange m) writing
  refine ⟨fun two => ?_, emptied⟩
  obtain ⟨first, last, record⟩ := closed two
  change (recover s).entry m = _ at record
  rw [record]
  exact ⟨rfl, rfl, rfl, rfl, rfl, rfl, rfl⟩

/-! ### The reset and the recovery of the library as a RESTART leaves it -/

section
variable (line : StopLine) (u : State)

theorem recover_reset_rest : recover (resetVolatile line u) = { resetVolatile line u with
    lib := (recover (resetVolatile line u)).lib, notices := (recover (resetVolatile line u)).notices } :=
  (recover_recovers (resetVolatile_atRest line u)).rest

theorem recover_reset_zone (i : Fin 8) :
    (recover (resetVolatile line u)).zone i = { u.zone i with enabled := false, holding := false } := by
  rw [State.zone, (recover_library _).zones, ← State.zone, resetVolatile_zone]

theorem recover_reset_closed (m : MoveIx) : ((recover (resetVolatile line u)).entry m).state ≠ .writing ∧
    ((recover (resetVolatile line u)).entry m).users = 0 := by
  have rest := resetVolatile_atRest line u
  refine ⟨foldl_recoverEntry_closes allMoves rest (List.mem_finRange m), Nat.le_zero.mp ?_⟩
  exact (foldl_recoverEntry_users allMoves rest m).trans (by rw [resetVolatile_entry])

theorem recover_reset_kept {m : MoveIx} (idle : (u.entry m).state ≠ .writing) :
    (recover (resetVolatile line u)).entry m = { u.entry m with users := 0 } := by
  rw [← resetVolatile_entry (line := line)]
  exact foldl_recoverEntry_kept allMoves (resetVolatile_atRest line u) (by rwa [resetVolatile_entry])

theorem recover_reset_still (idle : ∀ m : MoveIx, (u.entry m).state ≠ .writing) :
    recover (resetVolatile line u) = resetVolatile line u :=
  recover_still fun m => by
    rw [resetVolatile_entry]
    exact idle m

theorem resetVolatile_noticeSlot (c : NoticeClass) : (resetVolatile line u).noticeSlot c =
    { enabled := decide (c ≠ .button), pending := false, coalesced := false, detail := none } := reset_noticeSlot c

/-- The Notice Unit after the reset: what the recovery reports bears frame number 0 and is pending (R187, R194). -/
theorem recover_reset_notices : (recover (resetVolatile line u)).notices.multi = false ∧
    ((recover (resetVolatile line u)).noticeSlot .store).enabled = true ∧
    (∀ c : NoticeClass, c ≠ .store → (recover (resetVolatile line u)).noticeSlot c =
      { enabled := decide (c ≠ .button), pending := false, coalesced := false, detail := none }) ∧
    ∀ d : Stamped, ((recover (resetVolatile line u)).noticeSlot .store).detail = some d →
      ((recover (resetVolatile line u)).noticeSlot .store).pending = true ∧ d.frame = 0 := by
  have recovers := recover_recovers (resetVolatile_atRest line u)
  refine ⟨recovers.multi, ?_, fun c other => ?_, fun d told => ?_⟩
  · rw [recovers.enabled, resetVolatile_noticeSlot]
    rfl
  · rw [recovers.others c other, resetVolatile_noticeSlot]
  · have quiet : (resetVolatile line u).StoreStamped := fun d told => by
      rw [resetVolatile_noticeSlot] at told
      cases told
    obtain ⟨pending, frame⟩ := recovers.stamped quiet d told
    refine ⟨pending, frame.trans ?_⟩
    rw [recover_reset_rest]
    rfl

end

/-- Where no two chains share a block, an entry that is not WRITING keeps its chain (R100). -/
theorem recover_reset_chain {line : StopLine} {u : State} (h : u.Retained) {m : MoveIx} (idle : (u.entry m).state ≠ .writing) :
    (recover (resetVolatile line u)).chain ((recover (resetVolatile line u)).entry m) = u.chain (u.entry m) ∧
    ∀ b ∈ u.chain (u.entry m), (recover (resetVolatile line u)).block b = u.block b := by
  have same := resetVolatile_sameTables line u
  have reset : (resetVolatile line u).Retained := resetVolatile_retained h
  obtain ⟨chain, blocks⟩ := foldl_recoverEntry_chain (List.nodup_finRange 32) (resetVolatile_atRest line u)
    reset.tables.canonical (n := m) (by rwa [resetVolatile_entry]) fun k _ n _ ne => apart_of_blocksLawful reset.tables.blocks ne
  rw [same.chain] at chain blocks
  exact ⟨chain, blocks⟩

/-! ### The end of a transmission -/

theorem finishForReset_library (c : KeyCheck) (s : State) : SameButLibrary s (finishForReset c s) := by
  unfold finishForReset
  split
  · exact finishAccess_library _ c s
  · exact .refl s

theorem exec_transmitDone {s : State} (on : s.power.on = true) (loop : LoopCurrent) (c : KeyCheck) :
    exec (.transmitDone loop c) s = happened (transmitDone loop c s) := event_on on

/-- The frame that ends a RESTART is known by its kind and its payload (R202; log 23). -/
theorem isRestartReply_iff (f : TxFrame) : f.isRestartReply = true ↔ f.kind = 0x82 ∧ f.payload = [0x00#8] := by
  rw [TxFrame.isRestartReply, Bool.and_eq_true, decide_eq_true_iff, decide_eq_true_iff]
  rfl

theorem transmitDone_frees {s : State} {f : TxFrame} (sending : s.link.sending = some f)
    (other : ¬ (f.kind = 0x82 ∧ f.payload = [0x00#8])) (loop : LoopCurrent) (c : KeyCheck) :
    transmitDone loop c s = { s with link := { s.link with sending := none } } := by
  unfold transmitDone
  rw [sending]
  exact if_neg (mt (isRestartReply_iff f).mp other)

theorem transmitDone_restarts {s : State} {f : TxFrame} (sending : s.link.sending = some f)
    (restart : f.kind = 0x82 ∧ f.payload = [0x00#8]) (loop : LoopCurrent) (c : KeyCheck) :
    transmitDone loop c s = recover (resetVolatile (stopLineRead loop) (finishForReset c s)) := by
  unfold transmitDone
  rw [sending]
  exact if_pos ((isRestartReply_iff f).mpr restart)

/-- Settles O15: a RESTART's reply ends in a reset of the state that the access in progress leaves, then a recovery of it. -/
theorem transmitDoneFreesOrRestarts : Obligations.TransmitDoneFreesOrRestarts := by
  intro loop check s f on sending
  refine ⟨fun other => by rw [exec_transmitDone on, transmitDone_frees sending other], fun restart => ?_⟩
  refine ⟨_, by rw [exec_transmitDone on, transmitDone_restarts sending restart], ?_⟩
  have finished := finishForReset_library check s
  have retained : s.LibraryLawful → (finishForReset check s).Retained := fun lawful =>
    finishForReset_retained (lawful.powered on) check
  have access : (s.port.serving = none → finishForReset check s = s) ∧
      ∀ v : Serving, s.port.serving = some v → finishForReset check s = finishAccess v check s :=
    ⟨fun served => by rw [finishForReset, served], fun v served => by rw [finishForReset, served]⟩
  generalize finishForReset check s = u at finished retained access ⊢
  have recovers := recover_recovers (resetVolatile_atRest (stopLineRead loop) u)
  have rest := recover_reset_rest (stopLineRead loop) u
  obtain ⟨multi, enabled, others, stamped⟩ := recover_reset_notices (stopLineRead loop) u
  refine ⟨?power, ?marks, ?cueList, ?triggers, ?stopLine, ?stick, ?timer, ?geometry, ?axes, ?zones, ?port, ?txn, ?playerA,
    ?playerB, ?recorder, ?cue, ?log, ?status, ?link, recover_reset_closed _ u, access.1, access.2,
    fun m => recover_reset_kept _ u, recovers.keyStore, recovers.freeList, recovers.badSet, fun idle => ?_,
    ⟨multi, enabled, others, stamped, fun idle => ?_⟩, fun lawful m => recover_reset_chain (retained lawful)⟩
  case power => rw [rest]; exact finished.power
  case marks => rw [rest]; exact finished.marks
  case cueList => rw [rest]; exact finished.cueList
  case triggers => rw [rest]; exact finished.triggers
  case zones => exact fun i => by rw [recover_reset_zone, State.zone, finished.zones, ← State.zone]
  case refine_1 =>
    rw [recover_reset_still _ u idle]
    exact ⟨rfl, rfl, rfl⟩
  case refine_2 =>
    rw [recover_reset_still _ u idle]
    rfl
  all_goals
    rw [rest]
    rfl

end Sys2Proof.Machine
end

section
/-! OPEN_MOVE, CLOSE_MOVE, PROTECT_MOVE, GET_MOVE and LIST_MOVES (R90, R93, R96, R97): obligation O40. -/

namespace Sys2Proof.Machine

/-- A name that OPEN_MOVE takes is 1 to 12 printable characters (R90). -/
theorem nameOk_one_iff {name : List Nat} : nameOk 1 name = true ↔
    1 ≤ name.length ∧ name.length ≤ 12 ∧ ∀ c ∈ name, 32 ≤ c ∧ c ≤ 126 := by
  simp [nameOk, within_iff, printable, and_assoc]

theorem nameOk_one_false {name : List Nat} (bad : name = [] ∨ 12 < name.length ∨ ∃ c ∈ name, c < 32 ∨ 126 < c) :
    nameOk 1 name = false := by
  rw [← Bool.not_eq_true, nameOk_one_iff]
  rintro ⟨some, short, printable⟩
  rcases bad with rfl | long | ⟨c, mem, out⟩
  · cases some
  · omega
  · have := printable c mem
    omega

/-- An id outside 1 to 32 names no entry (Note 2 to Table 4-3). -/
theorem move_requests_badId {s : State} (h : s.delivers = true) {n : Nat} (out : n = 0 ∨ 32 < n) :
    (∀ (name : List Nat) (k : Nat), exec (.openMove n name k) s = turnedAway (.openMove n name k) s .badValue) ∧
    exec (.closeMove n) s = turnedAway (.closeMove n) s .badValue ∧
    (∀ b : Nat, exec (.protectMove n b) s = turnedAway (.protectMove n b) s .badValue) ∧
    exec (.getMove n) s = turnedAway (.getMove n) s .badValue := by
  refine ⟨fun name k => ?_, ?_, fun b => ?_, ?_⟩ <;> rw [exec]
  · exact answered_refuse h (by rw [moveOf?_none out])
  · exact answered_refuse h (by rw [moveOf?_none out])
  · exact answered_refuse h (by rw [moveOf?_none out])
  · exact answered_refuse h (by rw [moveOf?_none out])

section
variable {s : State} (h : s.delivers = true) (m : MoveIx)
include h

/-- OPEN_MOVE with an id and a mask in range (R90). -/
theorem exec_openMove (name : List Nat) {k : Mask} (mask : k ≠ 0#8) : exec (.openMove (m.val + 1) name k.toNat) s =
    if nameOk 1 name = false then turnedAway (.openMove (m.val + 1) name k.toNat) s .badValue
    else if (s.entry m).state ≠ .empty then turnedAway (.openMove (m.val + 1) name k.toNat) s .wrongState
    else accepted (.openMove (m.val + 1) name k.toNat) s (s.setEntry m (Entry.opened name k .console)) := by
  rw [exec, execOpenMove, answered_delivers h]
  simp only [moveOf?_id, maskOf?_toNat mask]
  split_ifs <;> rfl

theorem exec_openMove_noAxis (name : List Nat) :
    exec (.openMove (m.val + 1) name 0) s = turnedAway (.openMove (m.val + 1) name 0) s .badValue := by
  rw [exec]
  exact answered_refuse h (by rw [maskOf?_zero, moveOf?_id])

/-- The checks of CLOSE_MOVE in order (R93). -/
theorem exec_closeMove : exec (.closeMove (m.val + 1)) s =
    if (s.entry m).byConsole = false then turnedAway (.closeMove (m.val + 1)) s .wrongState
    else if s.putOn m = true then turnedAway (.closeMove (m.val + 1)) s .busy
    else if (s.entry m).keys < 2 then turnedAway (.closeMove (m.val + 1)) s .wrongState
    else accepted (.closeMove (m.val + 1)) s (s.setEntry m { s.entry m with state := .ready, writer := none }) := by
  rw [exec, execCloseMove, answered_delivers h]
  simp only [moveOf?_id]
  split_ifs <;> rfl

theorem exec_protectMove (b : Bool) : exec (.protectMove (m.val + 1) b.toNat) s =
    if (s.entry m).state = .empty then turnedAway (.protectMove (m.val + 1) b.toNat) s .notFound
    else accepted (.protectMove (m.val + 1) b.toNat) s
      (s.setEntry m { s.entry m with flags := { (s.entry m).flags with isProtected := b } }) := by
  rw [exec, execProtectMove, answered_delivers h]
  simp only [moveOf?_id, boolOf?_toNat]
  split_ifs <;> rfl

theorem exec_getMove : exec (.getMove (m.val + 1)) s = told (.getMove (m.val + 1)) s (moveFields s (s.entry m)) := by
  rw [exec]
  exact answered_eq h (by rw [moveOf?_id])

end

/-- Settles O40, request by request. -/
theorem moveRequestsComplete : Obligations.MoveRequestsComplete := by
  intro s m k name h mask
  refine ⟨fun some short good empty => ?_, fun bad => ?_, fun good taken => ?_, exec_openMove_noAxis h m name,
    fun writing console free two => ?_, fun foreign => ?_, fun writing console put => ?_, fun writing console free few => ?_,
    fun b held => ?_, fun b empty => ?_, exec_getMove h m, ?_, fun n out => ?_⟩
  · rw [exec_openMove h m name mask, if_neg (by simp [nameOk_one_iff.mpr ⟨some, short, good⟩]), if_neg (not_not.mpr empty)]
    rfl
  · rw [exec_openMove h m name mask, if_pos (nameOk_one_false bad)]
  · rw [exec_openMove h m name mask, if_neg (by simp [good]), if_pos taken]
  · rw [exec_closeMove h m, if_neg (by simp [byConsole_iff.mpr ⟨writing, console⟩]), if_neg (by simp [free]),
      if_neg (Nat.not_lt.mpr two)]
  · rw [exec_closeMove h m, if_pos]
    rw [← Bool.not_eq_true, byConsole_iff]
    exact fun mine => foreign.elim (· mine.1) (· mine.2)
  · rw [exec_closeMove h m, if_neg (by simp [byConsole_iff.mpr ⟨writing, console⟩]), if_pos put]
  · rw [exec_closeMove h m, if_neg (by simp [byConsole_iff.mpr ⟨writing, console⟩]), if_neg (by simp [free]), if_pos few]
  · rw [exec_protectMove h m, if_neg held]
  · rw [exec_protectMove h m, if_pos empty]
  · rw [exec]
    exact query_delivers h
  · obtain ⟨opened, closed, protect, got⟩ := move_requests_badId h out
    exact ⟨opened name k.toNat, closed, protect, got⟩

end Sys2Proof.Machine
end

section
/-! DELETE_MOVE (R81, R95): obligation O41. -/

namespace Sys2Proof.Machine

/-! ### The emptied entry's notices and its transaction -/

theorem foldl_releaseBlock_only (bs : List Nat) (s : State) : bs.foldl releaseBlock s = { s with lib := (bs.foldl releaseBlock s).lib } := by
  induction bs generalizing s with
  | nil => rfl
  | cons b t ih =>
    rw [List.foldl_cons, ih (releaseBlock s b), releaseBlock_only]

/-- A release that retires a block raises one STORE notice (R81). -/
theorem releaseBlocks_noticeSlot_store (m : MoveIx) (bs : List Nat) (s : State) : (releaseBlocks m bs s).noticeSlot .store =
    if retiredOf s bs = [] then s.noticeSlot .store
    else (s.noticeSlot .store).raised { frame := s.timer.number, detail := .storeRetired m (retiredOf s bs).length } := by
  have released := foldl_releaseBlock_only bs s
  unfold releaseBlocks
  simp only [List.length_eq_zero_iff]
  split
  · rw [released]
    rfl
  · have told := raise_noticeSlot_same (.storeRetired m (retiredOf s bs).length) (bs.foldl releaseBlock s)
    rw [released] at told ⊢
    exact told

/-- With no transaction held on the entry, its emptying ends none. -/
theorem abandonTxn_apart {m : MoveIx} {s : State} (apart : s.txnOn m = false) : abandonTxn m s = s := by
  unfold abandonTxn
  split
  · next x a held waiting => exact if_neg fun here => by simp [State.txnOn, held, here] at apart
  · rfl

theorem emptyEntry_apart {m : MoveIx} {s : State} (apart : s.txnOn m = false) :
    emptyEntry m s = releaseServing m (s.cleared m) := by
  rw [emptyEntry_eq]
  refine abandonTxn_apart ?_
  obtain ⟨v, marked, _⟩ := releaseServing_marks m (s.cleared m)
  have txn : (s.cleared m).txn = s.txn := by rw [cleared_only]
  rw [marked, State.txnOn, txn]
  exact apart

theorem emptyEntry_noticeSlot_store {m : MoveIx} {s : State} (apart : s.txnOn m = false) :
    (emptyEntry m s).noticeSlot .store = (releaseBlocks m (s.chain (s.entry m)) s).noticeSlot .store := by
  obtain ⟨v, marked, _⟩ := releaseServing_marks m (s.cleared m)
  rw [emptyEntry_apart apart, marked]
  rfl

theorem length_sound_blocks (s : State) (bs : List Nat) :
    bs.length - (retiredOf s bs).length = (bs.filter fun b => !(s.block b).suspect).length := by
  have whole := List.length_eq_length_filter_add (l := bs) fun b => (s.block b).suspect
  rw [whole, retiredOf, Nat.add_sub_cancel_left]

/-! ### The checks in order -/

theorem txnOn_false_iff {s : State} {m : MoveIx} : s.txnOn m = false ↔ ∀ x : Txn, s.txn = some x → x.move ≠ m := by
  cases held : s.txn with
  | none => simp [State.txnOn, held]
  | some x => simp [State.txnOn, held]

theorem byRecorder_false_iff {e : Entry} : e.byRecorder = false ↔ ¬ (e.state = .writing ∧ e.writer = some .recorder) := by
  rw [← Bool.not_eq_true, byRecorder_iff]

section
variable {s : State} (h : s.delivers = true) {m : MoveIx}
include h

theorem exec_deleteMove_refused {c : Result} (check : deleteCheck m s = c) (bad : c ≠ .ok) :
    exec (.deleteMove (m.val + 1)) s = turnedAway (.deleteMove (m.val + 1)) s c := by
  rw [exec]
  exact answered_refuse h (by rw [moveOf?_id]; simp only; rw [check, if_neg bad])

theorem exec_deleteMove_badId {n : Nat} (out : n = 0 ∨ 32 < n) :
    exec (.deleteMove n) s = turnedAway (.deleteMove n) s .badValue := by
  rw [exec]
  exact answered_refuse h (by rw [moveOf?_none out])

theorem exec_deleteMove (check : deleteCheck m s = .ok) :
    exec (.deleteMove (m.val + 1)) s = delivered (.deleteMove (m.val + 1)) s (emptyEntry m s) {
      code := .ok,
      fields := u16 ((s.chain (s.entry m)).filter fun b => !(s.block b).suspect).length ++
        u16 ((s.chain (s.entry m)).filter fun b => (s.block b).suspect).length } := by
  rw [exec]
  refine answered_eq h ?_
  rw [moveOf?_id]
  simp only
  rw [if_pos check, length_sound_blocks]
  rfl

end

/-- Settles O41: each check in its turn, then the release of the chain as the emptied entry's. -/
theorem deleteMoveReleasesTheChain : Obligations.DeleteMoveReleasesTheChain := by
  intro s m h cmd ours quiet
  have recorder (our : ours) : (s.entry m).byRecorder = false := byRecorder_false_iff.mpr our.2
  refine ⟨fun n => exec_deleteMove_badId h, fun empty => ?empty, fun writing recorded => ?recorded, fun x our held here => ?busy,
    fun our still guarded => ?guarded, fun our still bare users => ?used, fun wf once held foreign free bare users => ?deleted⟩
  case empty => exact exec_deleteMove_refused h (by simp [deleteCheck, empty]) (by decide)
  case recorded =>
    have mine := byRecorder_iff.mpr ⟨writing, recorded⟩
    exact exec_deleteMove_refused h (by simp [deleteCheck, writing, mine]) (by decide)
  case busy =>
    have on : s.txnOn m = true := by simp [State.txnOn, held, here]
    exact exec_deleteMove_refused h (by simp [deleteCheck, our.1, recorder our, on]) (by decide)
  case guarded =>
    exact exec_deleteMove_refused h (by simp [deleteCheck, our.1, recorder our, txnOn_false_iff.mpr still, guarded]) (by decide)
  case used =>
    exact exec_deleteMove_refused h (by simp [deleteCheck, our.1, recorder our, txnOn_false_iff.mpr still, bare, users]) (by decide)
  case deleted =>
    have check : deleteCheck m s = .ok := by simp [deleteCheck, held, byRecorder_false_iff.mpr foreign, free, bare, users]
    have block := emptyEntry_block m wf once
    have library := emptyEntry_library m s
    refine ⟨emptyEntry m s, exec_deleteMove h check, emptyEntry_entry_same m s, fun n other => emptyEntry_entry_other other s,
      emptyEntry_freeList m wf once, fun b mem suspect => ?_, fun b => ?_, ?_, fun b mem sound => ?_, fun b out => ?_, ?_,
      library.playerA, library.playerB, emptyEntry_recorder m s⟩
    · rw [block, if_pos mem, BlockEntry.released, if_pos suspect]
    · rw [emptyEntry_lib]
      exact mem_releaseBlocks_badSet m once wf
    · rw [emptyEntry_noticeSlot_store free, releaseBlocks_noticeSlot_store]
      rfl
    · rw [block, if_pos mem, BlockEntry.released, if_neg (by simp [sound])]
    · rw [block, if_neg out]
    · rw [emptyEntry_lib]
      exact releaseBlocks_keyStore m

end Sys2Proof.Machine
end

section
/-! The arbiter (R80, R83): obligation O44. -/

namespace Sys2Proof.Machine

/-! ### What the arbiter does -/

theorem arbitrate_busy {s : State} {v : Serving} (serving : s.port.serving = some v) (n : Nat) : arbitrate n s = s := by
  cases n with
  | zero => rfl
  | succ n => rw [arbitrate, serving]

theorem arbitrate_idle {s : State} (idle : s.port = KeyPort.idle) (n : Nat) : arbitrate n s = s := by
  cases n with
  | zero => rfl
  | succ n =>
    rw [arbitrate, idle]
    rfl

theorem arbitrate_grants {s : State} {a : Access} {q : KeyPort} (free : s.port.serving = none)
    (taken : s.port.next? = some (a, q)) (n : Nat) : arbitrate (n + 1) s = arbitrate n (grant a { s with port := q }) := by
  rw [arbitrate, free]
  simp only
  rw [taken]

/-- The access that the port serves as it begins. -/
def Access.begun (a : Access) : Serving := { access := a, wanted := true, released := false }

theorem serve_eq (a : Access) (s : State) : serve a s = { s with port := { s.port with serving := some a.begun } } := rfl

theorem arbitrate_serves {s u : State} {a : Access} {q : KeyPort} (free : s.port.serving = none)
    (taken : s.port.next? = some (a, q)) (granted : grant a { s with port := q } = serve a u) : arbitrate 5 s = serve a u := by
  rw [arbitrate_grants free taken, granted]
  exact arbitrate_busy (v := a.begun) rfl 4

/-! ### The grant of a write -/

theorem allocate_inBlock {m : MoveIx} {s : State} (inBlock : (s.entry m).keys % 16 ≠ 0) : allocate? m s = some s := if_neg inBlock

theorem allocate_block {m : MoveIx} {s : State} {b : Nat} {rest : List Nat} (needs : (s.entry m).keys % 16 = 0)
    (free : s.lib.freeList = b :: rest) :
    allocate? m s = some (appendBlock m b { s with lib := { s.lib with freeList := rest } }) := by
  rw [allocate?, if_pos (c := (s.entry m).keys % Config.slots = 0) needs, free]

theorem allocate_empty {m : MoveIx} {s : State} (needs : (s.entry m).keys % 16 = 0) (empty : s.lib.freeList = []) :
    allocate? m s = none := by
  rw [allocate?, if_pos (c := (s.entry m).keys % Config.slots = 0) needs, empty]

theorem allocate_some {m : MoveIx} {s : State} (room : (s.entry m).keys % 16 ≠ 0 ∨ s.lib.freeList ≠ []) :
    ∃ t : State, allocate? m s = some t := by
  by_cases needs : (s.entry m).keys % 16 = 0
  · obtain ⟨b, rest, free⟩ := List.exists_cons_of_ne_nil (room.resolve_left (not_not.mpr needs))
    exact ⟨_, allocate_block needs free⟩
  · exact ⟨s, allocate_inBlock needs⟩

/-- The request to write key `k` of entry `m`, of either writer. -/
def Access.WritesKey (a : Access) (m : MoveIx) (k : Key) : Prop := a = .consoleWrite m k ∨ a = .recorderWrite m k

theorem grant_write {a : Access} {m : MoveIx} {k : Key} (write : a.WritesKey m k) {s t : State} (granted : allocate? m s = some t) :
    grant a s = serve a t := by
  rcases write with rfl | rfl <;> rw [grant, granted]

/-- A read is always granted, and a write while a block is free. -/
theorem grant_serves {a : Access} {s : State} (room : (∀ m k, a ≠ .consoleWrite m k ∧ a ≠ .recorderWrite m k) ∨ s.lib.freeList ≠ []) :
    ∃ u : State, grant a s = serve a u ∧ u.port = s.port := by
  have writes : ∀ (m : MoveIx) (k : Key), a.WritesKey m k → ∃ u : State, grant a s = serve a u ∧ u.port = s.port :=
    fun m k write => by
      have free := room.resolve_left fun reads => write.elim (reads m k).1 (reads m k).2
      obtain ⟨t, granted⟩ := allocate_some (m := m) (.inr free)
      exact ⟨t, grant_write write granted, by rw [allocate_only granted]⟩
  cases a with
  | fetch | consoleRead => exact ⟨s, rfl, rfl⟩
  | consoleWrite m k => exact writes m k (.inl rfl)
  | recorderWrite m k => exact writes m k (.inr rfl)

/-! ### Priority (Table 4-5) -/

theorem arbitrate_takes {s : State} {a : Access} {q : KeyPort} (free : s.port.serving = none)
    (room : (∀ m k, a ≠ .consoleWrite m k ∧ a ≠ .recorderWrite m k) ∨ s.lib.freeList ≠ [])
    (taken : s.port.next? = some (a, q)) : (arbitrate 5 s).port = { q with serving := some a.begun } := by
  obtain ⟨u, granted, port⟩ := grant_serves (s := { s with port := q }) room
  rw [arbitrate_serves free taken granted, serve_eq, port]

section
variable {q : KeyPort} {a : Access}

theorem next_a (h : q.waitA = some a) : q.next? = some (a, { q with waitA := none }) := by simp [KeyPort.next?, h]

theorem next_b (noA : q.waitA = none) (h : q.waitB = some a) : q.next? = some (a, { q with waitB := none }) := by
  simp [KeyPort.next?, noA, h]

theorem next_recorder (noA : q.waitA = none) (noB : q.waitB = none) (h : q.waitRecorder = some a) :
    q.next? = some (a, { q with waitRecorder := none }) := by
  simp [KeyPort.next?, noA, noB, h]

theorem next_console (noA : q.waitA = none) (noB : q.waitB = none) (noRecorder : q.waitRecorder = none)
    (h : q.waitConsole = some a) : q.next? = some (a, { q with waitConsole := none }) := by
  simp [KeyPort.next?, noA, noB, noRecorder, h]

end

/-! ### A write that waits alone -/

/-- The waiting set that holds one request, of a writer. -/
theorem arbitrate_write {s : State} {a : Access} {m : MoveIx} {k : Key}
    (alone : (a = .consoleWrite m k ∧ s.port = { KeyPort.idle with waitConsole := some a }) ∨
      (a = .recorderWrite m k ∧ s.port = { KeyPort.idle with waitRecorder := some a }))
    {t : State} (granted : allocate? m { s with port := KeyPort.idle } = some t) : arbitrate 5 s = serve a t := by
  rcases alone with ⟨is, port⟩ | ⟨is, port⟩
  · exact arbitrate_serves (by rw [port]; rfl) (q := KeyPort.idle) (by rw [port]; rfl) (grant_write (.inl is) granted)
  · exact arbitrate_serves (by rw [port]; rfl) (q := KeyPort.idle) (by rw [port]; rfl) (grant_write (.inr is) granted)

theorem endTxn_held {s : State} {x : Txn} (held : s.txn = some x) (c : Result) :
    endTxn c s = readyReply x.via (u8 c.code ++ x.work.fields) { s with txn := none } := by
  rw [endTxn, held]
  rfl

/-- A console write that waits alone for a block while none is free ends its transaction (R83, R92). -/
theorem arbitrate_storeFull {s : State} {m : MoveIx} {k : Key} (port : s.port = { KeyPort.idle with waitConsole := some (.consoleWrite m k) })
    (needs : (s.entry m).keys % 16 = 0) (empty : s.lib.freeList = []) :
    arbitrate 5 s = endTxn .storeFull { s with port := KeyPort.idle } := by
  have failed : grant (.consoleWrite m k) { s with port := KeyPort.idle } = endTxn .storeFull { s with port := KeyPort.idle } := by
    rw [grant, allocate_empty (s := { s with port := KeyPort.idle }) needs empty]
  rw [arbitrate_grants (by rw [port]; rfl) (q := KeyPort.idle) (by rw [port]; rfl), failed]
  exact arbitrate_idle (endTxn_traffic _ _).port 4

theorem appendBlock_keyStore (m : MoveIx) (b : Nat) (s : State) : (appendBlock m b s).lib.keyStore = s.lib.keyStore := by
  unfold appendBlock
  simp only
  split <;> rfl

theorem State.Prolongs.first_block {m : MoveIx} {b : Nat} {s t : State} (h : s.Prolongs m b t) (none : (s.entry m).last = none) :
    t.entry m = { s.entry m with first := some b, last := some b } := by rw [h.same, if_pos none]

theorem State.Prolongs.later_block {m : MoveIx} {b l : Nat} {s t : State} (h : s.Prolongs m b t) (last : (s.entry m).last = some l) :
    t.entry m = { s.entry m with last := some b } := by rw [h.same, if_neg (by simp [last])]

/-- Settles O44: the waiting set is searched in the order of Table 4-5, and the one request taken is served unless it is a write
without a block. -/
theorem arbiterGrantsInPriority : Obligations.ArbiterGrantsInPriority := by
  intro s a
  refine ⟨fun busy => ?busy, fun free room => ⟨fun waits => ?a, fun noA waits => ?b, fun noA noB waits => ?recorder,
    fun noA noB noRecorder waits => ?console⟩, fun m k port needs empty held => ?full, fun m k wf alone => ⟨fun inBlock => ?inBlock,
    fun b rest needs free fresh => ?block⟩⟩
  case busy =>
    obtain ⟨v, serving⟩ := Option.ne_none_iff_exists'.mp busy
    exact arbitrate_busy serving 5
  case a =>
    have port := arbitrate_takes free room (next_a waits)
    exact ⟨congrArg KeyPort.serving port, by rw [port], by rw [port]⟩
  case b =>
    have port := arbitrate_takes free room (next_b noA waits)
    exact ⟨congrArg KeyPort.serving port, by rw [port], by rw [port]⟩
  case recorder =>
    have port := arbitrate_takes free room (next_recorder noA noB waits)
    exact ⟨congrArg KeyPort.serving port, by rw [port], by rw [port]⟩
  case console =>
    have port := arbitrate_takes free room (next_console noA noB noRecorder waits)
    exact ⟨congrArg KeyPort.serving port, by rw [port]⟩
  case full =>
    rw [arbitrate_storeFull port needs empty]
    have ended := endTxn_traffic .storeFull { s with port := KeyPort.idle }
    exact ⟨ended.port, ended.txn, ended.lib, fun v left n held => endTxn_held (s := { s with port := KeyPort.idle }) held _⟩
  case inBlock =>
    rw [arbitrate_write alone (allocate_inBlock (s := { s with port := KeyPort.idle }) inBlock)]
    exact ⟨rfl, rfl⟩
  case block =>
    have prolongs : ({ s with port := KeyPort.idle } : State).Prolongs m b _ := appendBlock_prolongs wf free fresh
    have keyStore := appendBlock_keyStore m b { s with port := KeyPort.idle, lib := { s.lib with freeList := rest } }
    rw [arbitrate_write alone (allocate_block (s := { s with port := KeyPort.idle }) needs free)]
    refine ⟨by rw [serve_eq]; rfl, (List.cons.inj (free.symm.trans prolongs.freeList)).2.symm, prolongs.badSet, keyStore, prolongs.fresh,
      prolongs.first_block, fun l last => ⟨prolongs.later_block last, prolongs.linked l last⟩, prolongs.others, prolongs.entries⟩

end Sys2Proof.Machine
end

section
/-! The completion of a key access (R75, R80, R82, R85): obligation O43. -/

namespace Sys2Proof.Machine

/-! ### What the port does to an entry that it does not complete a write of -/

/-- A change that stores no key, and that writes no more of entry `m` than the ends of its chain while `m` is not the Recorder's. -/
structure State.Spares (m : MoveIx) (s t : State) : Prop where
  keyStore : t.lib.keyStore = s.lib.keyStore
  record : s.recorder.move ≠ some m → ∃ first last : Option Nat, t.entry m = { s.entry m with first := first, last := last }
  apart : s.recorder.move ≠ some m → t.recorder.move ≠ some m

theorem State.Spares.of_eq {m : MoveIx} {s t : State} (lib : t.lib = s.lib) (recorder : t.recorder = s.recorder) : s.Spares m t where
  keyStore := by rw [lib]
  record := fun _ => ⟨(s.entry m).first, (s.entry m).last, by rw [State.entry, lib, ← State.entry]⟩
  apart := by rw [recorder]; exact id

theorem setPort_spares (m : MoveIx) (q : KeyPort) (s : State) : s.Spares m { s with port := q } := .of_eq rfl rfl

theorem State.Spares.trans {m : MoveIx} {s t u : State} (h : s.Spares m t) (k : t.Spares m u) : s.Spares m u where
  keyStore := k.keyStore.trans h.keyStore
  record := fun apart => by
    obtain ⟨_, _, first⟩ := h.record apart
    obtain ⟨first', last', second⟩ := k.record (h.apart apart)
    exact ⟨first', last', by rw [second, first]⟩
  apart := fun apart => k.apart (h.apart apart)

section
variable (m : MoveIx)

theorem endTxn_spares (c : Result) (s : State) : s.Spares m (endTxn c s) :=
  .of_eq (endTxn_traffic c s).lib (endTxn_traffic c s).recorder

theorem allocate_spares {n : MoveIx} {s t : State} (granted : allocate? n s = some t) : s.Spares m t where
  keyStore := by
    unfold allocate? at granted
    split at granted
    · split at granted
      · cases granted
      · cases granted
        exact appendBlock_keyStore n _ _
    · cases granted
      rfl
  record := fun _ => allocate_entry granted m
  apart := by rw [allocate_only granted]; exact id

theorem closeEntry_keyStore (n : MoveIx) (b : Bool) (s : State) : (closeEntry n b s).lib.keyStore = s.lib.keyStore := by
  by_cases enough : 2 ≤ (s.entry n).keys
  · rw [closeEntry_ready enough]
    rfl
  · rw [closeEntry_empty enough, emptyEntry_lib]
    exact releaseBlocks_keyStore n

/-- The close of a take reaches the take's own entry. -/
theorem closeTake_spares (c : CloseCause) (s : State) : s.Spares m (closeTake c s) := by
  cases held : s.recorder.move with
  | none =>
    have still : closeTake c s = s := by rw [closeTake, held]
    rw [still]
    exact .of_eq rfl rfl
  | some n =>
    rw [closeTake_eq held]
    refine ⟨?_, fun apart => ?_, fun _ => ?_⟩
    · rw [(raise_traffic _ _).lib]
      exact closeEntry_keyStore n _ s
    · have other : m ≠ n := fun here => apart (here ▸ held)
      rw [entry_of_dir (congrArg Library.dir (raise_traffic _ _).lib)]
      exact ⟨_, _, closeEntry_entry_other other _ s⟩
    · rw [(raise_traffic _ _).recorder]
      nofun

theorem grant_spares (a : Access) (s : State) : s.Spares m (grant a s) := by
  cases a with
  | fetch | consoleRead => exact .of_eq rfl rfl
  | recorderWrite n k =>
    rw [grant]
    split
    · next granted => exact (allocate_spares m granted).trans (.of_eq rfl rfl)
    · exact closeTake_spares m _ s
  | consoleWrite n k =>
    rw [grant]
    split
    · next granted => exact (allocate_spares m granted).trans (.of_eq rfl rfl)
    · exact endTxn_spares m _ s

theorem arbitrate_spares (n : Nat) (s : State) : s.Spares m (arbitrate n s) :=
  arbitrate_keeps (P := s.Spares m) (fun _ a _ spares _ _ => spares.trans ((setPort_spares m _ _).trans (grant_spares m a _))) n s
    (.of_eq rfl rfl)

theorem freePort_spares (s : State) : s.Spares m (freePort s) := (setPort_spares m _ s).trans (arbitrate_spares m 5 _)

theorem requestPort_spares (a : Access) (s : State) : s.Spares m (requestPort a s) := by
  unfold requestPort
  split
  · exact (setPort_spares m _ s).trans (arbitrate_spares m 5 _)
  · exact .of_eq rfl rfl

theorem consoleStep_spares (s : State) : s.Spares m (consoleStep s) := by
  unfold consoleStep
  split
  · exact .of_eq rfl rfl
  · split
    · exact endTxn_spares m _ s
    · split
      · exact requestPort_spares m _ s
      · exact endTxn_spares m _ s
    · split
      · exact endTxn_spares m _ s
      · split
        · exact endTxn_spares m _ s
        · exact requestPort_spares m _ s

theorem deliverConsoleWrite_spares (s : State) : s.Spares m (deliverConsoleWrite s) := by
  unfold deliverConsoleWrite
  split
  · split
    · exact .of_eq rfl rfl
    · exact .of_eq rfl rfl
  · exact .of_eq rfl rfl

end

/-! ### The completion of a write -/

theorem exec_keyAccessComplete {s : State} (on : s.power.on = true) (c : KeyCheck) :
    exec (.keyAccessComplete c) s = happened (completeAccess false c s) := event_on on

theorem completeAccess_free {s : State} (free : s.port.serving = none) (f : Bool) (c : KeyCheck) : completeAccess f c s = s := by
  rw [completeAccess, free]

/-- The completion of a console write: the key is stored, the port acts, and the transaction goes on (R82, R92). -/
theorem completeAccess_consoleWrite {s : State} {m : MoveIx} {k : Key} {w r : Bool}
    (serving : s.port.serving = some { access := .consoleWrite m k, wanted := w, released := r }) (f : Bool) (c : KeyCheck) :
    completeAccess f c s = consoleStep (freePort (deliverConsoleWrite (storeKey m k s))) := by
  rw [completeAccess, serving]
  rfl

theorem completeAccess_consoleWrite_spares {s : State} {m : MoveIx} {k : Key} {w r : Bool}
    (serving : s.port.serving = some { access := .consoleWrite m k, wanted := w, released := r }) (n : MoveIx) (f : Bool) (c : KeyCheck) :
    (storeKey m k s).Spares n (completeAccess f c s) := by
  rw [completeAccess_consoleWrite serving]
  exact (deliverConsoleWrite_spares n _).trans ((freePort_spares n _).trans (consoleStep_spares n _))

/-- The key stored stands in the entry's last block, found good (R80). -/
theorem storeKey_slot {s : State} (wf : s.lib.wf = true) {m : MoveIx} {b : Nat} (last : (s.entry m).last = some b) (k : Key) :
    (storeKey m k s).slot b ((s.entry m).keys % 16) = { key := k, health := .good } := by
  unfold storeKey
  simp only [last]
  exact slot_setSlot_same wf b _ _

theorem storeKey_slot_other {s : State} (wf : s.lib.wf = true) {m : MoveIx} {b : Nat} (last : (s.entry m).last = some b) (k : Key)
    {a x : Nat} (inBlock : x < 16) (other : a ≠ b ∨ x ≠ (s.entry m).keys % 16) : (storeKey m k s).slot a x = s.slot a x :=
  (storeKey_stores m k wf).slots a x inBlock (other.imp_left fun ne same => ne (Option.some.inj (same.symm.trans last)))

/-! ### The completion of a read -/

theorem faultReport_log (r : FaultRecord) (s : State) : (faultReport r s).log = s.log.report r := by
  unfold faultReport
  simp only
  split
  · split <;> rfl
  · rfl

/-- A read error is told by a fault report and a STORE notice (R85). -/
theorem raise_storeRead (x : KeyCheck) (m : MoveIx) (i b : Nat) (r : FaultRecord) (s : State) :
    (raise (.storeRead x m i b) (faultReport r s)).log = s.log.report r ∧
    ((raise (.storeRead x m i b) (faultReport r s)).noticeSlot .store).detail =
      some { frame := s.timer.number, detail := .storeRead x m i b } := by
  have slot : (raise (.storeRead x m i b) (faultReport r s)).noticeSlot .store = _ := raise_noticeSlot_same (.storeRead x m i b) _
  refine ⟨faultReport_log r s, ?_⟩
  rw [slot, (faultReport_traffic r s).timer]
  rfl

theorem finishRead_slot {s : State} (wf : s.lib.wf = true) (m : MoveIx) (i b n : Nat) (p : Option PlayerId) (c : KeyCheck) :
    (finishRead m i b n p c s).slot b n = { s.slot b n with health := s.readOutcome b n c } := by
  refine Eq.trans ?_ (slot_setSlot_same wf b n _)
  exact (reportRead_kept (setSlot_lib_wf b n _ wf) m i b n p _).1

/-- A corrected read leaves the entry and the block alone (R85). -/
theorem reportRead_corrected_kept (m : MoveIx) (i b : Nat) (p : Option PlayerId) (s : State) :
    (reportRead m i b p .corrected s).entry m = s.entry m ∧ (reportRead m i b p .corrected s).block b = s.block b := by
  constructor
  · rw [reportRead, entry_of_dir (congrArg Library.dir (raise_faultReport_lib _ _ _))]
  · rw [reportRead, State.block, raise_faultReport_lib, ← State.block]

/-- A damaged read flags the entry and the block (R85). -/
theorem reportRead_flags {s : State} (wf : s.lib.wf = true) (m : MoveIx) (i b : Nat) (p : Option PlayerId) :
    (reportRead m i b p .damaged s).entry m = { s.entry m with flags := { (s.entry m).flags with damaged := true } } ∧
    (reportRead m i b p .damaged s).block b = { s.block b with suspect := true } := by
  have flagged : (s.setEntry m { s.entry m with flags := { (s.entry m).flags with damaged := true } }).lib.wf = true :=
    setEntry_lib_wf m _ wf
  constructor
  · rw [reportRead, entry_of_dir (congrArg Library.dir (raise_faultReport_lib _ _ _))]
    exact setEntry_entry_same s m _
  · rw [reportRead, State.block, raise_faultReport_lib, ← State.block, block_setBlock_same flagged]
    rfl

/-- Settles O43: what the port does after the write reaches no key and no record of the entry, and a read's outcome is the worse of
what its slot held and what its check found. -/
theorem keyAccessCompletes : Obligations.KeyAccessCompletes := by
  refine ⟨fun s m k b check w r on => ⟨fun free => ?_, fun serving _ wf apart last => ?_⟩, fun s m i b n p c wf => ?_⟩
  · rw [exec_keyAccessComplete on, completeAccess_free free]
  · have spares := completeAccess_consoleWrite_spares serving m false check
    have stored := storeKey_entry_same (m := m) (x := k) wf
    have slot (a x : Nat) : (completeAccess false check s).slot a x = (storeKey m k s).slot a x :=
      congrArg (sparseGet Slot.blank · (slotAddr a x)) spares.keyStore
    obtain ⟨first, last', record⟩ := spares.record (by rwa [storeKey_only])
    refine ⟨completeAccess false check s, exec_keyAccessComplete on check, ?_, fun a x inBlock other => ?_, ?_⟩
    · rw [slot, storeKey_slot wf last]
    · rw [slot, storeKey_slot_other wf last k inBlock other]
    · rw [record, stored]
      exact ⟨rfl, rfl, rfl, rfl⟩
  · intro t found
    have slot : t.slot b n = { s.slot b n with health := found } := finishRead_slot wf m i b n p c
    have wf' := setSlot_lib_wf b n { s.slot b n with health := found } wf
    refine ⟨by rw [slot], by rw [slot], fun good => ?_, fun damaged => ?_, fun corrected => ?_, fun good => ?_, fun corrected => ?_,
      fun damaged => ?_⟩
    · exact (congrArg (worse · c) good).trans (by cases c <;> rfl)
    · exact congrArg (worse · c) damaged
    · exact (congrArg (worse · c) corrected).trans (by cases c <;> rfl)
    · have quiet : t = reportRead m i b p .good _ := congrArg (reportRead m i b p · _) good
      rw [quiet]
      exact ⟨rfl, rfl, rfl, rfl⟩
    · have told : t = reportRead m i b p .corrected _ := congrArg (reportRead m i b p · _) corrected
      obtain ⟨entry, block⟩ := reportRead_corrected_kept m i b p (s.setSlot b n { s.slot b n with health := found })
      obtain ⟨log, notice⟩ := raise_storeRead .corrected m i b (keyFault .keyCorrected m i p s)
        (s.setSlot b n { s.slot b n with health := found })
      rw [told]
      exact ⟨log, notice, entry, block⟩
    · have told : t = reportRead m i b p .damaged _ := congrArg (reportRead m i b p · _) damaged
      obtain ⟨entry, block⟩ := reportRead_flags wf' m i b p
      obtain ⟨log, notice⟩ := raise_storeRead .damaged m i b (keyFault .keyDamaged m i p s)
        (((s.setSlot b n { s.slot b n with health := found }).setEntry m { s.entry m with
          flags := { (s.entry m).flags with damaged := true } }).setBlock b { s.block b with suspect := true })
      rw [told]
      exact ⟨log, notice, entry, block⟩

end Sys2Proof.Machine
end

section
/-! PUT_KEYS and READ_KEYS, as they begin (R89, R91, R92, R94): obligation O42. -/

namespace Sys2Proof.Machine

/-! ### A request at the port -/

section
variable {s : State} (idle : s.port = KeyPort.idle)
include idle

/-- A FREE port with nothing waiting serves a read at once (R83). -/
theorem requestPort_consoleRead (m : MoveIx) (i b n : Nat) :
    requestPort (.consoleRead m i b n) s = serve (.consoleRead m i b n) s := by
  have same : s = { s with port := KeyPort.idle } := by rw [← idle]
  rw [same]
  rfl

/-- A FREE port with nothing waiting serves a write at once when its block can be had (R80, R83). -/
theorem requestPort_write {a : Access} {m : MoveIx} {k : Key} (write : a.WritesKey m k) {t : State}
    (granted : allocate? m s = some t) : requestPort a s = serve a t := by
  have same : s = { s with port := KeyPort.idle } := by rw [← idle]
  rw [same] at granted ⊢
  rcases write with is | is
  · exact arbitrate_write (s := { s with port := KeyPort.idle.await a }) (.inl ⟨is, by rw [is]; rfl⟩) granted
  · exact arbitrate_write (s := { s with port := KeyPort.idle.await a }) (.inr ⟨is, by rw [is]; rfl⟩) granted

theorem requestPort_storeFull {m : MoveIx} {k : Key} (needs : (s.entry m).keys % 16 = 0) (empty : s.lib.freeList = []) :
    requestPort (.consoleWrite m k) s = endTxn .storeFull s := by
  have same : s = { s with port := KeyPort.idle } := by rw [← idle]
  rw [same]
  exact arbitrate_storeFull (s := { s with port := { KeyPort.idle with waitConsole := some (.consoleWrite m k) } }) rfl needs empty

end

theorem requestPort_busy {s : State} {v : Serving} (serving : s.port.serving = some v) (a : Access) :
    requestPort a s = { s with port := s.port.await a } := by
  rw [requestPort, serving]

/-! ### The next access of the transaction, by what it works at -/

section
variable {s : State} {x : Txn} (held : s.txn = some x)
include held

theorem consoleStep_stored {n : Nat} (work : x.work = .put [] n) : consoleStep s = endTxn .ok s := by
  simp only [consoleStep, held, work]

theorem consoleStep_writes {k : Key} {left : List Key} {n : Nat} (work : x.work = .put (k :: left) n)
    (order : keyInOrder (s.entry x.move) k = true) : consoleStep s = requestPort (.consoleWrite x.move k) s := by
  simp only [consoleStep, held, work, order, if_true]

theorem consoleStep_badOrder {k : Key} {left : List Key} {n : Nat} (work : x.work = .put (k :: left) n)
    (order : keyInOrder (s.entry x.move) k = false) : consoleStep s = endTxn .badOrder s := by
  simp [consoleStep, held, work, order]

theorem consoleStep_read {i : Nat} {got : List Key} (work : x.work = .read i 0 got) : consoleStep s = endTxn .ok s := by
  simp [consoleStep, held, work]

theorem consoleStep_reads {i left : Nat} {got : List Key} (work : x.work = .read i left got) (more : left ≠ 0)
    (open' : (s.entry x.move).state ≠ .empty) : consoleStep s =
      requestPort (.consoleRead x.move i ((s.chain (s.entry x.move)).getD (i / 16) 0) (i % 16)) s := by
  simp only [consoleStep, held, work, more, open', if_false]
  rfl

end

/-! ### The delivery of a request whose reply comes later -/

section
variable {i : Instr} {act : Via → State → State × Option Reply} {s t : State} (h : s.delivers = true)
include h

theorem request_answers {r : Reply} (acted : act (s.via i) s = (t, some r)) : request i act s = delivered i s t r := by
  rw [request, if_pos h, acted]
  rfl

theorem request_holds (acted : act (s.via i) s = (t, none)) : request i act s = happened t := by
  rw [request, if_pos h, acted]
  rfl

end

/-- A place that was HELD is answered as one that was not. -/
theorem readyReply_holdPlace (v : Via) (l : List Byte) (s : State) : readyReply v l (holdPlace v s) = readyReply v l s := by
  cases v with
  | direct kind => rfl
  | place k =>
    have answered : ∀ p : Place, (if (if p.slot = k then { p with state := .held } else p).slot = k then
        { (if p.slot = k then { p with state := .held } else p) with state := .answered l }
        else if p.slot = k then { p with state := .held } else p) = if p.slot = k then { p with state := .answered l } else p :=
      fun p => by by_cases here : p.slot = k <;> simp [here]
    simp only [readyReply, holdPlace, List.map_map]
    congr 3
    exact funext answered

/-- The state in which a transaction has begun (R89). -/
def State.begun (s : State) (v : Via) (m : MoveIx) (w : TxnWork) : State :=
  { holdPlace v s with txn := some { via := v, move := m, work := w } }

/-- A transaction that ends as it begins leaves the state as it was, with its reply (R89). -/
theorem endTxn_begun {s : State} (free : s.txn = none) (v : Via) (m : MoveIx) (w : TxnWork) (c : Result) :
    endTxn c (s.begun v m w) = readyReply v (u8 c.code ++ w.fields) s := by
  have same : { s.begun v m w with txn := none } = holdPlace v s := by
    rw [← (holdPlace_traffic v s).txn.trans free]
    rfl
  rw [endTxn_held (x := { via := v, move := m, work := w }) rfl, same]
  exact readyReply_holdPlace v _ s

section
variable (s : State) (v : Via) (m : MoveIx) (w : TxnWork)

theorem begun_lib : (s.begun v m w).lib = s.lib := (holdPlace_traffic v s).lib

theorem begun_port : (s.begun v m w).port = s.port := (holdPlace_traffic v s).port

@[simp] theorem begun_entry (n : MoveIx) : (s.begun v m w).entry n = s.entry n := entry_of_dir (congrArg Library.dir (begun_lib s v m w)) n

theorem begun_chain (e : Entry) : (s.begun v m w).chain e = s.chain e := by rw [State.chain, begun_lib, ← State.chain]

end

/-! ### The checks of PUT_KEYS (R91) -/

theorem byConsole_false_iff {e : Entry} : e.byConsole = false ↔ e.state ≠ .writing ∨ e.writer ≠ some .console := by
  rw [← Bool.not_eq_true, byConsole_iff, not_and_or]

theorem keysFit_iff {a : Nat} {keys : List WireKey} :
    keysFit a keys = true ↔ 1 ≤ keys.length ∧ keys.length ≤ 8 ∧ ∀ w ∈ keys, w.positions.length = a := by
  simp [keysFit, within_iff, and_assoc]

theorem keyOf_none {w : WireKey} (out : 16777215 < w.time ∨ 2 < w.shape) : keyOf? w = none := by
  unfold keyOf?
  split
  · rfl
  · next shape =>
    refine if_neg fun inTime => ?_
    rcases out with late | unknown
    · exact absurd inTime (Nat.not_le.mpr late)
    · unfold shapeOf? at shape
      split at shape <;> simp_all

theorem keysOf_none {keys : List WireKey} (out : ∃ w ∈ keys, 16777215 < w.time ∨ 2 < w.shape) : keysOf? keys = none := by
  obtain ⟨w, mem, out⟩ := out
  induction keys with
  | nil => cases mem
  | cons x t ih =>
    rw [keysOf?]
    rcases List.mem_cons.mp mem with rfl | later
    · rw [keyOf_none out]
    · rw [ih later]
      cases keyOf? x <;> rfl

section
variable {s : State} (h : s.delivers = true) (m : MoveIx) {keys : List WireKey}
include h

theorem exec_putKeys_refused {id : Nat} {c : Result}
    (refused : putKeysRequest id keys (s.via (.putKeys id keys)) s = (s, some { code := c, fields := u8 0 })) :
    exec (.putKeys id keys) s = delivered (.putKeys id keys) s s { code := c, fields := [0#8] } := request_answers h refused

theorem exec_putKeys_begins (mine : (s.entry m).byConsole = true) (fit : keysFit (s.axesOf (m.val + 1)) keys = true)
    (free : s.txn = none) {ks : List Key} (good : keysOf? keys = some ks) : exec (.putKeys (m.val + 1) keys) s =
      happened (consoleStep (s.begun (s.via (.putKeys (m.val + 1) keys)) m (.put ks 0))) :=
  request_holds h (by simp [putKeysRequest, mine, fit, free, good, beginTxn, State.begun])

end

/-! ### The checks of READ_KEYS (R94) -/

theorem exec_readKeys_refused {s : State} (h : s.delivers = true) {id first count : Nat} {c : Result}
    (refused : readKeysRequest id first count (s.via (.readKeys id first count)) s = (s, some { code := c, fields := u8 0 })) :
    exec (.readKeys id first count) s = delivered (.readKeys id first count) s s { code := c, fields := [0#8] } :=
  request_answers h refused

theorem exec_readKeys_begins {s : State} (h : s.delivers = true) (m : MoveIx) {first count : Nat} (inRange : within 1 8 count = true)
    (open' : (s.entry m).state ≠ .empty) (free : s.txn = none) (inMove : first + count ≤ (s.entry m).keys) :
    exec (.readKeys (m.val + 1) first count) s =
      happened (consoleStep (s.begun (s.via (.readKeys (m.val + 1) first count)) m (.read first count []))) :=
  request_holds h (by simp [readKeysRequest, inRange, open', free, Nat.not_lt.mpr inMove, beginTxn, State.begun])

/-! ### The statement -/

theorem writeGranted_kept {s t : State} {m : MoveIx} (granted : allocate? m s = some t) :
    (t.entry m).keys = (s.entry m).keys ∧ t.lib.keyStore = s.lib.keyStore := by
  obtain ⟨first, last, record⟩ := allocate_entry granted m
  exact ⟨by rw [record], (allocate_spares m granted).keyStore⟩

/-- Settles O42: a request that passes its checks is held, and the transaction's first step serves its access or ends it. -/
theorem keyTransactionsBegin : Obligations.KeyTransactionsBegin := by
  intro s m h
  refine ⟨fun keys k ks writing console some' short fits free good order port room => ?accepted, fun keys foreign => ?foreign,
    fun keys writing console some' short fits => ⟨fun taken => ?busy, fun free out => ?badValue, fun k ks free good =>
    ⟨fun bad => ?badOrder, fun order port needs empty => ?storeFull⟩⟩, fun n keys first count => ⟨fun out => ?badId, fun out => ?badRead⟩,
    fun first count open' one eight inMove free port => ?read, fun first count ⟨empty, one, eight⟩ => ?notFound,
    fun first count open' one eight taken => ?readBusy, fun first count open' one eight free beyond => ?beyond⟩
  case accepted =>
    have mine := byConsole_iff.mpr ⟨writing, console⟩
    obtain ⟨t, granted⟩ := allocate_some (s := s.begun (s.via (.putKeys (m.val + 1) keys)) m (.put (k :: ks) 0)) (m := m)
      (by rw [begun_entry, begun_lib]; exact room)
    obtain ⟨keyCount, keyStore⟩ := writeGranted_kept granted
    have only := allocate_only granted
    refine ⟨serve (.consoleWrite m k) t, ?_, ?_, ?_, ?_, ?_⟩
    · rw [exec_putKeys_begins h m mine (keysFit_iff.mpr ⟨some', short, fits⟩) free good,
        consoleStep_writes (x := { via := _, move := m, work := _ }) rfl rfl (by rwa [begun_entry]),
        requestPort_write ((begun_port s _ m _).trans port) (.inl rfl) granted]
    · rw [only]
      rfl
    · rw [serve_eq, only, begun_port, port]
      rfl
    · exact keyCount.trans (congrArg Entry.keys (begun_entry s _ m _ m))
    · exact keyStore.trans (congrArg Library.keyStore (begun_lib s _ m _))
  case foreign => exact exec_putKeys_refused h (by simp [putKeysRequest, byConsole_false_iff.mpr foreign])
  case busy =>
    have held := Option.isSome_iff_ne_none.mpr taken
    exact exec_putKeys_refused h (by simp [putKeysRequest, byConsole_iff.mpr ⟨writing, console⟩,
      keysFit_iff.mpr ⟨some', short, fits⟩, held])
  case badValue =>
    exact exec_putKeys_refused h (by simp [putKeysRequest, byConsole_iff.mpr ⟨writing, console⟩,
      keysFit_iff.mpr ⟨some', short, fits⟩, free, keysOf_none out])
  case badOrder =>
    have order : keyInOrder (s.entry m) k = false := by
      rw [← Bool.not_eq_true, keyInOrder_iff]
      rcases bad with ⟨first, late⟩ | ⟨later, early⟩
      · exact fun order => late (order.1 first)
      · exact fun order => absurd (order.2 later) (Nat.not_lt.mpr early)
    rw [exec_putKeys_begins h m (byConsole_iff.mpr ⟨writing, console⟩) (keysFit_iff.mpr ⟨some', short, fits⟩) free good,
      consoleStep_badOrder (x := { via := _, move := m, work := _ }) rfl rfl (by rwa [begun_entry]), endTxn_begun free]
    rfl
  case storeFull =>
    have order : keyInOrder (s.entry m) k = true := keyInOrder_iff.mpr (by omega)
    rw [exec_putKeys_begins h m (byConsole_iff.mpr ⟨writing, console⟩) (keysFit_iff.mpr ⟨some', short, fits⟩) free good,
      consoleStep_writes (x := { via := _, move := m, work := _ }) rfl rfl (by rwa [begun_entry]),
      requestPort_storeFull ((begun_port s _ m _).trans port) (by rwa [begun_entry]) (by rwa [begun_lib]), endTxn_begun free]
    rfl
  case badId => exact exec_putKeys_refused h (by simp [putKeysRequest, moveOf?_none out])
  case badRead =>
    refine exec_readKeys_refused h ?_
    unfold readKeysRequest
    cases move : moveOf? n with
    | none => rfl
    | some j =>
      have outside : within 1 8 count = false := by
        rw [← Bool.not_eq_true, within_iff]
        intro inRange
        rcases out with zero | large | few | many
        · rw [moveOf?_none (.inl zero)] at move
          cases move
        · rw [moveOf?_none (.inr large)] at move
          cases move
        · omega
        · omega
      simp [outside]
  case read =>
    rw [exec_readKeys_begins h m (within_iff.mpr ⟨one, eight⟩) open' free inMove,
      consoleStep_reads (x := { via := _, move := m, work := _ }) rfl rfl (by omega) (by rwa [begun_entry]),
      requestPort_consoleRead ((begun_port s _ m _).trans port), begun_entry, begun_chain]
    refine ⟨_, rfl, rfl, ?_, begun_lib s _ m (.read first count [])⟩
    rw [serve_eq, begun_port, port]
    rfl
  case notFound => exact exec_readKeys_refused h (by simp [readKeysRequest, within_iff.mpr ⟨one, eight⟩, empty])
  case readBusy =>
    have held := Option.isSome_iff_ne_none.mpr taken
    exact exec_readKeys_refused h (by simp [readKeysRequest, within_iff.mpr ⟨one, eight⟩, open', held])
  case beyond =>
    exact exec_readKeys_refused h (by simp [readKeysRequest, within_iff.mpr ⟨one, eight⟩, open', free, beyond])

end Sys2Proof.Machine
end

section
/-! PUT_KEYS and READ_KEYS go on, key by key (R89, R92, R94): obligation O45. -/

namespace Sys2Proof.Machine

/-! ### What a completion may touch -/

/-- A change of the library, the log and the notices alone. -/
def State.Reports (s t : State) : Prop := t = { s with lib := t.lib, log := t.log, notices := t.notices }

theorem State.Reports.trans {s t u : State} (h : s.Reports t) (k : t.Reports u) : s.Reports u := by
  rw [State.Reports] at h k ⊢
  rw [h] at k
  rw [k]

theorem storeKey_reports (m : MoveIx) (k : Key) (s : State) : s.Reports (storeKey m k s) := by rw [State.Reports, storeKey_only]

theorem faultReport_reports (r : FaultRecord) (s : State) : s.Reports (faultReport r s) := by
  unfold faultReport State.Reports
  simp only
  split
  · split <;> rfl
  · rfl

theorem raise_reports (d : Detail) (s : State) : s.Reports (raise d s) := rfl

theorem reportRead_reports (m : MoveIx) (i b : Nat) (p : Option PlayerId) (c : KeyCheck) (s : State) :
    s.Reports (reportRead m i b p c s) := by
  have told (x : KeyCheck) (r : FaultRecord) (u : State) : u.Reports (raise (.storeRead x m i b) (faultReport r u)) :=
    (faultReport_reports r u).trans (raise_reports _ _)
  have flagged : s.Reports ((s.setEntry m { s.entry m with flags := { (s.entry m).flags with damaged := true } }).setBlock b
      { s.block b with suspect := true }) := rfl
  cases c with
  | good => rfl
  | corrected => exact told _ _ s
  | damaged => exact flagged.trans (told _ _ _)

theorem finishRead_reports (m : MoveIx) (i b n : Nat) (p : Option PlayerId) (c : KeyCheck) (s : State) :
    s.Reports (finishRead m i b n p c s) := by
  have found : s.Reports (s.setSlot b n { s.slot b n with health := s.readOutcome b n c }) := rfl
  exact found.trans (reportRead_reports m i b p _ _)

/-! ### The transaction ends on a completion -/

/-- The completion ends the transaction with this reply: the port is FREE and the library's state alone has changed (R89). -/
def State.EndsWith (s : State) (check : KeyCheck) (v : Via) (c : Result) (f : List Byte) (t : State) : Prop :=
  exec (.keyAccessComplete check) s = happened (readyReply v (u8 c.code ++ f) t) ∧ t.port = KeyPort.idle ∧ t.txn = none ∧
    t = { s with lib := t.lib, log := t.log, notices := t.notices, port := t.port, txn := t.txn }

/-- What the transaction goes on from: `u` with the port FREE and the transaction at work `w`. -/
def State.goesOn (u : State) (v : Via) (m : MoveIx) (w : TxnWork) : State :=
  { u with port := KeyPort.idle, txn := some { via := v, move := m, work := w } }

theorem ends_with {s u : State} {check : KeyCheck} {v : Via} {m : MoveIx} {w : TxnWork} {c : Result} (on : s.power.on = true)
    (reports : s.Reports u) (completed : completeAccess false check s = endTxn c (u.goesOn v m w)) :
    s.EndsWith check v c w.fields { u with port := KeyPort.idle, txn := none } := by
  refine ⟨?_, rfl, rfl, ?_⟩
  · rw [exec_keyAccessComplete on, completed, endTxn_held (x := { via := v, move := m, work := w }) rfl]
    rfl
  · rw [reports]

/-! ### A write completes with nothing waiting (R92) -/

/-- The state in which the transaction goes on, once the write of its key has completed. -/
def State.afterWrite (s : State) (m : MoveIx) (k : Key) (v : Via) (rest : List Key) (n : Nat) : State :=
  (storeKey m k s).goesOn v m (.put rest n)

section
variable {s : State} {m : MoveIx} {v : Via} {k : Key} {rest : List Key} {n : Nat} {w r : Bool}

theorem afterWrite_entry (wf : s.lib.wf = true) :
    (s.afterWrite m k v rest n).entry m = { s.entry m with keys := (s.entry m).keys + 1, endTime := some k.time } :=
  storeKey_entry_same wf

theorem afterWrite_freeList (wf : s.lib.wf = true) : (s.afterWrite m k v rest n).lib.freeList = s.lib.freeList :=
  (storeKey_stores m k wf).freeList

/-- The next key follows the one just stored (R80). -/
theorem afterWrite_order (wf : s.lib.wf = true) (x : Key) :
    keyInOrder ((s.afterWrite m k v rest n).entry m) x = decide (k.time < x.time) := by
  rw [afterWrite_entry wf, keyInOrder, if_neg (Nat.succ_ne_zero _)]
  rfl

variable (port : s.port = { KeyPort.idle with serving := some { access := .consoleWrite m k, wanted := w, released := r } })
  (held : s.txn = some { via := v, move := m, work := .put (k :: rest) n })
include port held

theorem completeAccess_put (c : KeyCheck) : completeAccess false c s = consoleStep (s.afterWrite m k v rest (n + 1)) := by
  have held' : (storeKey m k s).txn = some { via := v, move := m, work := .put (k :: rest) n } := by
    rw [storeKey_only]
    exact held
  have port' : (storeKey m k s).port = s.port := by rw [storeKey_only]
  rw [completeAccess_consoleWrite (by rw [port]), deliverConsoleWrite_put held' rfl, freePort_unserved]
  · refine congrArg consoleStep ?_
    simp only [State.unserved, port', port]
    rfl
  · simp only [State.unserved, port', port]
    rfl

/-- A put that ends when its key is stored: the reply counts the keys (R92). -/
theorem put_ends (on : s.power.on = true) {check : KeyCheck} {c : Result}
    (ends : consoleStep (s.afterWrite m k v rest (n + 1)) = endTxn c (s.afterWrite m k v rest (n + 1))) :
    ∃ t : State, s.EndsWith check v c (u8 (n + 1)) t ∧ t.lib = (storeKey m k s).lib :=
  ⟨_, ends_with on (storeKey_reports m k s) ((completeAccess_put port held check).trans ends), rfl⟩

end

/-! ### A read completes with nothing waiting (R94) -/

section
variable {s : State} {m : MoveIx} {v : Via} {i b n at' left : Nat} {got : List Key} {w r : Bool}
variable (port : s.port = { KeyPort.idle with serving := some { access := .consoleRead m i b n, wanted := w, released := r } })
  (held : s.txn = some { via := v, move := m, work := .read at' left got })
include port held

theorem completeAccess_released (released : r = true) (c : KeyCheck) :
    completeAccess false c s = endTxn .notFound (s.goesOn v m (.read at' left got)) := by
  subst released
  have unserved : s.unserved = s.goesOn v m (.read at' left got) := by
    rw [State.unserved, port, State.goesOn, ← held]
    rfl
  have completed : completeAccess false c s = consoleStep (freePort (deliverConsoleRead true (s.readOutcome b n c) (s.slot b n).key s)) := by
    rw [completeAccess, port]
    rfl
  have delivered : deliverConsoleRead true (s.readOutcome b n c) (s.slot b n).key s = endTxn .notFound s := by
    simp [deliverConsoleRead, held]
  have ended := endTxn_traffic .notFound (s.goesOn v m (.read at' left got))
  rw [completed, delivered, freePort_unserved, unserved_endTxn, unserved]
  · simp [consoleStep, ended.txn]
  · rw [unserved_endTxn, unserved]
    exact ended.port

/-- The outcome of a read reaches the transaction with the port FREE, and the transaction goes on. -/
theorem completeAccess_read (wf : s.lib.wf = true) (wanted : r = false) (c : KeyCheck) : completeAccess false c s =
    consoleStep (deliverConsoleRead false (s.readOutcome b n c) (s.slot b n).key
      ((finishRead m i b n none c s).goesOn v m (.read at' left got))) := by
  subst wanted
  obtain ⟨outcome, key, _⟩ := finishRead_reads wf m i b n none c
  have reports := finishRead_reports m i b n none c s
  have completed : completeAccess false c s = consoleStep (freePort (deliverConsoleRead false
      ((finishRead m i b n none c s).readOutcome b n c) ((finishRead m i b n none c s).slot b n).key (finishRead m i b n none c s))) := by
    rw [completeAccess, port]
    rfl
  have unserved : (finishRead m i b n none c s).unserved = (finishRead m i b n none c s).goesOn v m (.read at' left got) := by
    rw [State.unserved, State.goesOn, ← held, reports, port]
    rfl
  have idle : (deliverConsoleRead false (s.readOutcome b n c) (s.slot b n).key
      ((finishRead m i b n none c s).goesOn v m (.read at' left got))).port = KeyPort.idle := by
    simp only [deliverConsoleRead, State.goesOn, Bool.false_eq_true, if_false]
    split
    · exact (endTxn_traffic _ _).port
    · rfl
  rw [completed, outcome, key, freePort_unserved, unserved_deliverConsoleRead, unserved]
  rw [unserved_deliverConsoleRead, unserved]
  exact idle

/-- A damaged key ends the transaction before it is listed (R94). -/
theorem completeAccess_damaged (wf : s.lib.wf = true) (wanted : r = false) {c : KeyCheck} (found : s.readOutcome b n c = .damaged) :
    completeAccess false c s = endTxn .damaged ((finishRead m i b n none c s).goesOn v m (.read at' left got)) := by
  rw [completeAccess_read port held wf wanted, found]
  have ended := endTxn_traffic .damaged ((finishRead m i b n none c s).goesOn v m (.read at' left got))
  have delivered : deliverConsoleRead false .damaged (s.slot b n).key ((finishRead m i b n none c s).goesOn v m (.read at' left got)) =
      endTxn .damaged ((finishRead m i b n none c s).goesOn v m (.read at' left got)) := by
    simp [deliverConsoleRead, State.goesOn]
  rw [delivered]
  simp [consoleStep, ended.txn]

/-- A key that is not damaged is listed, and the transaction goes on (R94). -/
theorem completeAccess_listed (wf : s.lib.wf = true) (wanted : r = false) {c : KeyCheck} (found : s.readOutcome b n c ≠ .damaged) :
    completeAccess false c s = consoleStep ((finishRead m i b n none c s).goesOn v m
      (.read (at' + 1) (left - 1) (got ++ [(s.slot b n).key]))) := by
  rw [completeAccess_read port held wf wanted]
  simp [deliverConsoleRead, State.goesOn, found]

/-- The next key is read from the chain as it stands (R94). -/
theorem completeAccess_nextRead (wf : s.lib.wf = true) (wanted : r = false) {c : KeyCheck} (found : s.readOutcome b n c ≠ .damaged)
    (more : left - 1 ≠ 0) (open' : (s.entry m).state ≠ .empty) : completeAccess false c s =
      serve (.consoleRead m (at' + 1) ((s.chain (s.entry m)).getD ((at' + 1) / 16) 0) ((at' + 1) % 16))
        ((finishRead m i b n none c s).goesOn v m (.read (at' + 1) (left - 1) (got ++ [(s.slot b n).key]))) := by
  have same := finishRead_sameTables wf m i b n none c
  have chain := same.chain m
  have reads := consoleStep_reads
    (s := (finishRead m i b n none c s).goesOn v m (.read (at' + 1) (left - 1) (got ++ [(s.slot b n).key]))) rfl rfl more
    (mt (same.empty m) open')
  rw [completeAccess_listed port held wf wanted found, reads, requestPort_consoleRead rfl, ← chain]
  rfl

end

/-- Settles O45: with nothing else waiting the grantee goes on at once, and each ending is the reply of the transaction as it stands. -/
theorem consoleTransactionGoesOn : Obligations.ConsoleTransactionGoesOn := by
  intro s m v check w r on wf reply
  refine ⟨fun k rest n port held => ⟨fun done => ?stored, fun k2 more left => ⟨fun early => ?badOrder, fun late needs empty => ?storeFull,
    fun late room => ?next⟩⟩, fun i b n at' left got port held => ?read⟩
  case stored => exact put_ends port held on (consoleStep_stored rfl (by rw [done]))
  case badOrder =>
    subst left
    refine put_ends port held on (consoleStep_badOrder rfl rfl ?_)
    rw [afterWrite_order wf]
    exact decide_eq_false (Nat.not_lt.mpr early)
  case storeFull =>
    subst left
    refine put_ends port held on ?_
    rw [consoleStep_writes (x := { via := v, move := m, work := .put (k2 :: more) (n + 1) }) rfl rfl
      ((afterWrite_order wf k2).trans (decide_eq_true late))]
    exact requestPort_storeFull rfl (by rw [afterWrite_entry wf]; exact needs) (by rw [afterWrite_freeList wf, empty])
  case next =>
    subst left
    obtain ⟨t, granted⟩ := allocate_some (s := s.afterWrite m k v (k2 :: more) (n + 1)) (m := m)
      (by rw [afterWrite_entry wf, afterWrite_freeList wf]; exact room)
    have only := allocate_only granted
    obtain ⟨first, last, record⟩ := allocate_entry granted m
    rw [afterWrite_entry wf] at record
    refine ⟨serve (.consoleWrite m k2) t, ?_, ?_, ?_, ?_, ?_, (writeGranted_kept granted).2⟩
    · rw [exec_keyAccessComplete on, completeAccess_put port held,
        consoleStep_writes (x := { via := v, move := m, work := .put (k2 :: more) (n + 1) }) rfl rfl
          ((afterWrite_order wf k2).trans (decide_eq_true late)), requestPort_write rfl (.inl rfl) granted]
    · rw [serve_eq, only]
      rfl
    · rw [serve_eq, only]
      rfl
    · exact congrArg Entry.keys record
    · exact congrArg Entry.endTime record
  case read =>
    have reports := finishRead_reports m i b n none check s
    refine ⟨fun released => ?_, fun wanted found => ?_, fun wanted found last => ?_, fun wanted found more open' => ?_⟩
    · exact ⟨_, ends_with on (u := s) rfl (completeAccess_released port held released check), rfl, rfl, rfl⟩
    · exact ⟨_, ends_with on reports (completeAccess_damaged port held wf wanted found)⟩
    · subst last
      exact ⟨_, ends_with on reports ((completeAccess_listed port held wf wanted found).trans (consoleStep_read rfl rfl))⟩
    · have completed := completeAccess_nextRead port held wf wanted found (by omega) open'
      exact ⟨_, (exec_keyAccessComplete on check).trans (congrArg happened completed), rfl, rfl⟩

end Sys2Proof.Machine
end

section
/-! The Recorder's writes and closes (R146, R148, R149): obligation O54. -/

namespace Sys2Proof.Machine

/-! ### The close of a take -/

/-- What a close writes into the entry's record when it holds 2 keys or more (R87). -/
def Entry.closedTake (e : Entry) (storeFull : Bool) : Entry :=
  { e with state := .ready, writer := none, flags := { e.flags with storeFull := e.flags.storeFull || storeFull } }

section
variable {c : CloseCause} {s : State} {m : MoveIx} (held : s.recorder.move = some m)
include held

theorem closeTake_recorder : (closeTake c s).recorder = s.recorder.toIdle := by
  have kept : (closeEntry m (decide (c = .storeFull)) s).recorder = s.recorder := by
    by_cases enough : 2 ≤ (s.entry m).keys
    · rw [closeEntry_ready enough]
      rfl
    · rw [closeEntry_empty enough, emptyEntry_recorder]
  rw [closeTake_eq held, (raise_traffic _ _).recorder]
  exact congrArg Recorder.toIdle kept

theorem closeTake_lib : (closeTake c s).lib = (closeEntry m (decide (c = .storeFull)) s).lib := by
  rw [closeTake_eq held, (raise_traffic _ _).lib]

/-- The RECORD notice of a close tells the entry as it was found and the state it took (R151). -/
theorem closeTake_notice : ((closeTake c s).noticeSlot .record).detail = some {
    frame := s.timer.number,
    detail := .recordClosed m c ((closeTake c s).entry m).state (s.entry m).keys (s.entry m).endTime s.recorder.skipped } := by
  have entry : (closeTake c s).entry m = (closeEntry m (decide (c = .storeFull)) s).entry m :=
    entry_of_dir (congrArg Library.dir (closeTake_lib held)) m
  have timer := (closeEntry_library m (decide (c = .storeFull)) s).timer
  rw [entry, closeTake_eq held, ← timer]
  exact congrArg NoticeSlot.detail (raise_noticeSlot_same (.recordClosed ..) _)

theorem closeTake_ready_lib (enough : 2 ≤ (s.entry m).keys) :
    (closeTake c s).lib = (s.setEntry m ((s.entry m).closedTake (decide (c = .storeFull)))).lib := by
  rw [closeTake_lib held, closeEntry_ready enough]
  rfl

theorem closeTake_ready_entry (enough : 2 ≤ (s.entry m).keys) :
    (closeTake c s).entry m = (s.entry m).closedTake (decide (c = .storeFull)) := by
  rw [entry_of_dir (congrArg Library.dir (closeTake_ready_lib held enough)), setEntry_entry_same]

theorem closeTake_ready_port (enough : 2 ≤ (s.entry m).keys) : (closeTake c s).port = s.port := by
  rw [closeTake_eq held, (raise_traffic _ _).port, closeEntry_ready enough]
  rfl

theorem closeTake_empty_entry (few : (s.entry m).keys < 2) : (closeTake c s).entry m = Entry.blank := by
  rw [entry_of_dir (congrArg Library.dir (closeTake_lib held)), closeEntry_empty (Nat.not_le.mpr few), emptyEntry_entry_same]

theorem closeTake_empty_freeList (few : (s.entry m).keys < 2) (wf : s.lib.wf = true) (once : (s.chain (s.entry m)).Nodup) :
    (closeTake c s).lib.freeList = s.lib.freeList ++ (s.chain (s.entry m)).filter fun b => !(s.block b).suspect := by
  rw [closeTake_lib held, closeEntry_empty (Nat.not_le.mpr few), emptyEntry_freeList m wf once]

/-- A close at a port where nothing is served and nothing waits reaches the library, the notices and the Recorder alone. -/
theorem closeTake_idle (idle : s.port = KeyPort.idle) : closeTake c s =
    { s with lib := (closeTake c s).lib, notices := (closeTake c s).notices, recorder := s.recorder.toIdle } := by
  have emptied : emptyEntry m s = s.cleared m := by
    have port : (s.cleared m).port = KeyPort.idle := by rw [cleared_only, idle]
    have unserved : releaseServing m (s.cleared m) = s.cleared m := releaseServing_idle port m
    rw [emptyEntry_eq, unserved, abandonTxn, port]
    split
    · next none => cases none
    · rfl
  have recorder := closeTake_recorder (c := c) held
  have closed : closeEntry m (decide (c = .storeFull)) s = { s with
      lib := (closeEntry m (decide (c = .storeFull)) s).lib, notices := (closeEntry m (decide (c = .storeFull)) s).notices } := by
    by_cases enough : 2 ≤ (s.entry m).keys
    · rw [closeEntry_ready enough]
      rfl
    · rw [closeEntry_empty enough, emptied]
      exact cleared_only s m
  rw [← recorder, closeTake_eq held, closed]
  rfl

end

/-- The close of a take as a console sees it: the entry READY with 2 keys or more, and EMPTY with fewer (R148). -/
theorem closeTake_told {s u : State} {m : MoveIx} {c : CloseCause} (lib : u.lib = s.lib) (timer : u.timer = s.timer)
    (skipped : u.recorder.skipped = s.recorder.skipped) (held : u.recorder.move = some m) (cause : c ≠ .storeFull) :
    (2 ≤ (s.entry m).keys → (closeTake c u).entry m = { s.entry m with state := .ready, writer := none } ∧
      (closeTake c u).lib.freeList = s.lib.freeList ∧ (closeTake c u).lib.blockMap = s.lib.blockMap ∧
      ((closeTake c u).noticeSlot .record).detail = some {
        frame := s.timer.number,
        detail := .recordClosed m c .ready (s.entry m).keys (s.entry m).endTime s.recorder.skipped }) ∧
    ((s.entry m).keys < 2 → s.lib.wf = true → (s.chain (s.entry m)).Nodup → (closeTake c u).entry m = Entry.blank ∧
      (closeTake c u).lib.freeList = s.lib.freeList ++ (s.chain (s.entry m)).filter (fun b => !(s.block b).suspect) ∧
      ((closeTake c u).noticeSlot .record).detail = some {
        frame := s.timer.number,
        detail := .recordClosed m c .empty (s.entry m).keys (s.entry m).endTime s.recorder.skipped }) := by
  have entry : u.entry m = s.entry m := entry_of_dir (congrArg Library.dir lib) m
  have notice := closeTake_notice (c := c) held
  rw [timer, skipped, entry] at notice
  refine ⟨fun enough => ?_, fun few wf once => ?_⟩
  · rw [← entry] at enough
    have ready := closeTake_ready_entry (c := c) held enough
    have closed := closeTake_ready_lib (c := c) held enough
    rw [ready, entry] at notice
    refine ⟨?_, by rw [closed, ← lib]; rfl, by rw [closed, ← lib]; rfl, notice⟩
    rw [ready, entry, Entry.closedTake, decide_eq_false cause, Bool.or_false]
  · have chain : u.chain (u.entry m) = s.chain (s.entry m) := by rw [State.chain, lib, entry, ← State.chain]
    have block : ∀ b : Nat, u.block b = s.block b := fun b => by rw [State.block, lib, ← State.block]
    rw [← entry] at few
    have blank := closeTake_empty_entry (c := c) held few
    have released := closeTake_empty_freeList (c := c) held few (lib ▸ wf) (chain ▸ once)
    rw [blank] at notice
    refine ⟨blank, ?_, notice⟩
    rw [released, chain, lib]
    simp only [block]

/-! ### The Recorder's next request -/

section
variable {s : State}

theorem recorderNext_closes (closing : s.recorder.state = .closing) (fifo : s.recorder.fifo = []) :
    recorderNext s = closeTake s.recorder.cause s := if_pos ⟨closing, fifo⟩

theorem recorderNext_records (recording : s.recorder.state = .recording) (fifo : s.recorder.fifo = []) : recorderNext s = s := by
  rw [recorderNext, if_neg (by simp [recording]), recorderWrite, fifo]
  cases s.recorder.move <;> rfl

theorem recorderNext_outstanding (fifo : s.recorder.fifo ≠ []) (outstanding : s.recorder.outstanding = true) : recorderNext s = s := by
  rw [recorderNext, if_neg fun ends => fifo ends.2, recorderWrite]
  split
  · exact if_neg (by simp [outstanding])
  · rfl

theorem recorderNext_writes {m : MoveIx} {k : Key} {rest : List Key} (held : s.recorder.move = some m) (fifo : s.recorder.fifo = k :: rest)
    (taking : s.recorder.state = .recording ∨ s.recorder.state = .closing) (outstanding : s.recorder.outstanding = false) :
    recorderNext s = requestPort (.recorderWrite m k) { s with recorder := { s.recorder with outstanding := true } } := by
  rw [recorderNext, if_neg (by simp [fifo]), recorderWrite, held, fifo]
  exact if_pos ⟨taking, outstanding⟩

end

/-! ### A write of the Recorder completes -/

theorem storeKey_blockMap (m : MoveIx) (k : Key) (s : State) : (storeKey m k s).lib.blockMap = s.lib.blockMap := by
  unfold storeKey
  simp only
  split <;> rfl

/-- The state in which the Recorder goes on, once the write of its key has completed and the arbiter has acted at a port where
nothing waits (R82, R146). -/
def State.afterRecorded (s : State) (m : MoveIx) (k : Key) (rest : List Key) : State :=
  { s with
    lib := (storeKey m k s).lib, port := KeyPort.idle, recorder := { s.recorder with outstanding := false, fifo := rest } }

theorem completeAccess_recorderWrite {s : State} {m : MoveIx} {k : Key} {w r : Bool}
    (serving : s.port.serving = some { access := .recorderWrite m k, wanted := w, released := r }) (f : Bool) (c : KeyCheck) :
    completeAccess f c s = recorderNext (freePort (deliverRecorder (storeKey m k s))) := by
  rw [completeAccess, serving]
  rfl

section
variable {s : State} {m : MoveIx} {k : Key} {rest : List Key}

theorem afterRecorded_entry (wf : s.lib.wf = true) :
    (s.afterRecorded m k rest).entry m = { s.entry m with keys := (s.entry m).keys + 1, endTime := some k.time } :=
  storeKey_entry_same wf

theorem afterRecorded_freeList (wf : s.lib.wf = true) : (s.afterRecorded m k rest).lib.freeList = s.lib.freeList :=
  (storeKey_stores m k wf).freeList

theorem completeAccess_recorded {w r : Bool} (c : KeyCheck)
    (port : s.port = { KeyPort.idle with serving := some { access := .recorderWrite m k, wanted := w, released := r } })
    (fifo : s.recorder.fifo = k :: rest) : completeAccess false c s = recorderNext (s.afterRecorded m k rest) := by
  have unserved : (deliverRecorder (storeKey m k s)).unserved = s.afterRecorded m k rest := by
    rw [State.afterRecorded, storeKey_only]
    simp only [deliverRecorder, State.unserved, port, fifo]
    rfl
  rw [completeAccess_recorderWrite (by rw [port]), freePort_unserved (by rw [unserved]; rfl), unserved]

end

/-- The write of the next key begins at once, when its block can be had (R146). -/
theorem recorded_writes_next {s : State} {m : MoveIx} {k k2 : Key} {more : List Key} (wf : s.lib.wf = true)
    (held : s.recorder.move = some m) (taking : s.recorder.state = .recording ∨ s.recorder.state = .closing)
    (room : ((s.entry m).keys + 1) % 16 ≠ 0 ∨ s.lib.freeList ≠ []) :
    let t := recorderNext (s.afterRecorded m k (k2 :: more))
    t.recorder = { s.recorder with fifo := k2 :: more, outstanding := true } ∧
    t.port = { KeyPort.idle with serving := some { access := .recorderWrite m k2, wanted := true, released := false } } ∧
    (t.entry m).keys = (s.entry m).keys + 1 ∧ (t.entry m).endTime = some k.time ∧ (t.entry m).state = (s.entry m).state := by
  let u := s.afterRecorded m k (k2 :: more)
  have entry : u.entry m = _ := afterRecorded_entry wf
  obtain ⟨t, granted⟩ := allocate_some (m := m) (s := { u with recorder := { u.recorder with outstanding := true } }) (by
    change (u.entry m).keys % 16 ≠ 0 ∨ u.lib.freeList ≠ []
    rw [entry, afterRecorded_freeList wf]
    exact room)
  obtain ⟨first, last, record⟩ := allocate_entry granted m
  have record' : t.entry m = { u.entry m with first := first, last := last } := record
  rw [entry] at record'
  have next := recorderNext_writes (s := u) held rfl taking rfl
  rw [next, requestPort_write rfl (.inr rfl) granted, serve_eq, allocate_only granted]
  exact ⟨rfl, rfl, congrArg Entry.keys record', congrArg Entry.endTime record', (congrArg Entry.state record' :)⟩

/-- The take of a Recorder whose first key has just been stored is closed EMPTY: its chain is released (R148). -/
theorem recorded_closes_empty {s u : State} {m : MoveIx} {k : Key} (wf : s.lib.wf = true) (none : (s.entry m).keys = 0)
    (once : (s.chain (s.entry m)).Nodup) (lib : u.lib = (storeKey m k s).lib) (held : u.recorder.move = some m) (c : CloseCause) :
    (u.entry m).keys = 1 ∧ (u.entry m).endTime = some k.time ∧ (closeTake c u).entry m = Entry.blank ∧
    (closeTake c u).lib.freeList = s.lib.freeList ++ (s.chain (s.entry m)).filter fun b => !(s.block b).suspect := by
  have stores := storeKey_stores m k wf
  have entry : u.entry m = { s.entry m with keys := (s.entry m).keys + 1, endTime := some k.time } :=
    (entry_of_dir (congrArg Library.dir lib) m).trans stores.same
  have keys : (u.entry m).keys = 1 := by rw [entry, none]
  have few : (u.entry m).keys < 2 := by omega
  have chain : u.chain (u.entry m) = s.chain (s.entry m) := by
    rw [State.chain, lib, entry_of_dir (congrArg Library.dir lib) m]
    exact stores.chain m
  have block : ∀ b : Nat, u.block b = s.block b := fun b => by
    rw [State.block, lib]
    exact stores.blocks b
  refine ⟨keys, by rw [entry], closeTake_empty_entry held few, ?_⟩
  rw [closeTake_empty_freeList held few (lib ▸ stores.canonical wf) (by rwa [chain]), chain, lib, stores.freeList]
  simp only [block]

/-! ### A write that fails at its grant (R149) -/

theorem grant_storeFull {s : State} {m : MoveIx} (needs : (s.entry m).keys % 16 = 0) (empty : s.lib.freeList = []) (k : Key) :
    grant (.recorderWrite m k) s = closeTake .storeFull s := by rw [grant, allocate_empty needs empty]

/-- The take is closed, and the port serves what waits behind the write (R149). -/
theorem arbitrate_recorderFails {s : State} {m : MoveIx} {k : Key} {q : KeyPort} (free : s.port.serving = none)
    (taken : s.port.next? = some (.recorderWrite m k, q)) (needs : (s.entry m).keys % 16 = 0) (empty : s.lib.freeList = []) :
    arbitrate 5 s = arbitrate 4 (closeTake .storeFull { s with port := q }) := by
  rw [arbitrate_grants free taken]
  exact congrArg (arbitrate 4) (grant_storeFull (s := { s with port := q }) needs empty k)

theorem arbitrate_consoleRead {s : State} {m : MoveIx} {i b n : Nat}
    (port : s.port = { KeyPort.idle with waitConsole := some (.consoleRead m i b n) }) (j : Nat) :
    arbitrate (j + 1) s = serve (.consoleRead m i b n) { s with port := KeyPort.idle } := by
  rw [arbitrate_grants (by rw [port]; rfl) (q := KeyPort.idle) (by rw [port]; rfl)]
  exact arbitrate_busy (v := (Access.consoleRead m i b n).begun) rfl j

/-- A console write that waits for a block while the Recorder's write completes, with none free, ends with STORE_FULL before the
Recorder's next request (R82, R87). -/
theorem freePort_consoleFull {s : State} {m n : MoveIx} {k x : Key} {v : Via} {left : List Key} {count : Nat} {w r : Bool}
    (wf : s.lib.wf = true) (other : n ≠ m) (fifo : s.recorder.fifo = [k]) (needs : (s.entry n).keys % 16 = 0)
    (empty : s.lib.freeList = []) (txn : s.txn = some { via := v, move := n, work := .put left count })
    (port : s.port = { KeyPort.idle with
      serving := some { access := .recorderWrite m k, wanted := w, released := r }, waitConsole := some (.consoleWrite n x) }) :
    freePort (deliverRecorder (storeKey m k s)) =
      readyReply v (u8 Result.storeFull.code ++ u8 count) { s.afterRecorded m k [] with txn := none } := by
  have stores := storeKey_stores m k wf
  have unserved : (deliverRecorder (storeKey m k s)).unserved =
      { s.afterRecorded m k [] with port := { KeyPort.idle with waitConsole := some (.consoleWrite n x) } } := by
    rw [State.afterRecorded, storeKey_only]
    simp only [deliverRecorder, State.unserved, port, fifo]
    rfl
  have full := arbitrate_storeFull (m := n) (k := x) (s := { s.afterRecorded m k [] with
    port := { KeyPort.idle with waitConsole := some (.consoleWrite n x) } }) rfl
    ((congrArg (fun e : Entry => e.keys % 16) (stores.entries n other)).trans needs) (stores.freeList.trans empty)
  rw [freePort_eq, unserved, full]
  exact endTxn_held (s := s.afterRecorded m k []) txn .storeFull

/-! ### The statement -/

/-- Settles O54: each completion and each failed grant comes down to the next write or to the close of the take. -/
theorem recorderStoresAndCloses : Obligations.RecorderStoresAndCloses := by
  intro s m k on wf held idle tells
  refine ⟨fun rest check w r port fifo => ?completes, fun _ needs empty => ⟨fun port => ?fails, fun m2 i b n two port => ?behind⟩,
    fun m2 k2 v left n check w r closing fifo none once empty other needs txn port => ?late⟩
  case completes =>
    have completed := completeAccess_recorded check port fifo
    have entry := afterRecorded_entry (k := k) (rest := rest) (m := m) wf
    have freeList := afterRecorded_freeList (m := m) (k := k) (rest := rest) wf
    refine ⟨_, exec_keyAccessComplete on check, ?_, ?_, ?_⟩ <;> rw [completed]
    · rintro k2 more rfl taking room
      exact recorded_writes_next wf held taking room
    · rintro rfl recording
      have next := recorderNext_records (s := s.afterRecorded m k []) recording rfl
      rw [next]
      exact ⟨rfl, rfl, rfl⟩
    · rintro rfl closing cause
      have next : recorderNext (s.afterRecorded m k []) = closeTake s.recorder.cause _ := recorderNext_closes closing rfl
      have taken : (s.afterRecorded m k []).recorder.move = some m := held
      obtain ⟨ready, _⟩ := closeTake_told (u := s.afterRecorded m k []) rfl rfl rfl taken cause
      have notice := closeTake_notice (c := s.recorder.cause) taken
      rw [entry] at ready notice
      rw [next]
      refine ⟨closeTake_recorder taken, by rw [closeTake_idle taken rfl]; rfl, fun one => ?_, fun none once => ?_⟩
      · obtain ⟨record, free, map, told⟩ := ready (Nat.succ_le_succ one)
        exact ⟨record, free.trans freeList, map.trans (storeKey_blockMap m k s), told⟩
      · obtain ⟨_, _, blank, released⟩ := recorded_closes_empty wf none once (u := s.afterRecorded m k []) rfl held s.recorder.cause
        rw [blank, none] at notice
        exact ⟨blank, notice, released⟩
  case fails =>
    have failed : arbitrate 5 s = arbitrate 4 (closeTake .storeFull { s with port := KeyPort.idle }) :=
      arbitrate_recorderFails (by rw [port]; rfl) (by rw [port]; rfl) needs empty
    have taken : ({ s with port := KeyPort.idle } : State).recorder.move = some m := held
    have closed := closeTake_idle (c := .storeFull) taken rfl
    have notice := closeTake_notice (c := .storeFull) taken
    rw [failed, arbitrate_idle (by rw [closed])]
    refine ⟨closeTake_recorder taken, by rw [closed], (closeTake_spares m _ _).keyStore, fun two => ?_, fun none => ?_⟩
    · have ready := closeTake_ready_entry (c := .storeFull) taken two
      rw [ready] at notice
      refine ⟨?_, notice⟩
      rw [ready, Entry.closedTake, Bool.or_comm]
      rfl
    · have few : (s.entry m).keys < 2 := by omega
      have blank := closeTake_empty_entry (c := .storeFull) taken few
      rw [blank] at notice
      refine ⟨blank, ?_⟩
      rw [← none]
      exact notice
  case behind =>
    have failed : arbitrate 5 s = arbitrate 4 (closeTake .storeFull
        { s with port := { KeyPort.idle with waitConsole := some (.consoleRead m2 i b n) } }) :=
      arbitrate_recorderFails (by rw [port]; rfl) (by rw [port]; rfl) needs empty
    have taken : ({ s with port := { KeyPort.idle with waitConsole := some (.consoleRead m2 i b n) } } : State).recorder.move = some m :=
      held
    rw [failed, arbitrate_consoleRead (closeTake_ready_port taken two) 3]
    exact ⟨closeTake_recorder (c := .storeFull) taken, rfl⟩
  case late =>
    have full := freePort_consoleFull wf other fifo needs empty txn port
    have traffic := readyReply_traffic v (u8 Result.storeFull.code ++ u8 n) { s.afterRecorded m k [] with txn := Option.none }
    have link : (readyReply v (u8 Result.storeFull.code ++ u8 n) { s.afterRecorded m k [] with txn := Option.none }).link =
        (readyReply v (u8 Result.storeFull.code ++ u8 n) s).link := by cases v <;> rfl
    have completed := completeAccess_recorderWrite (s := s) (by rw [port]) false check
    rw [full] at completed
    generalize readyReply v (u8 Result.storeFull.code ++ u8 n) { s.afterRecorded m k [] with txn := Option.none } = u
      at traffic link completed
    have taken : u.recorder.move = some m := by rw [traffic.recorder]; exact held
    obtain ⟨_, _, blank, released⟩ := recorded_closes_empty wf none once (u := u) traffic.lib taken s.recorder.cause
    have cause : u.recorder.cause = s.recorder.cause := by rw [traffic.recorder]; rfl
    rw [recorderNext_closes (by rw [traffic.recorder]; exact closing) (by rw [traffic.recorder]; rfl), cause] at completed
    have closed := closeTake_idle (c := s.recorder.cause) taken traffic.port
    refine ⟨_, (exec_keyAccessComplete on check).trans (congrArg happened completed), ?_, ?_, ?_, ?_, blank, ?_, ?_⟩
    · rw [closed]
      exact traffic.txn
    · rw [closed]
      exact traffic.port
    · rw [closed]
      exact link
    · rw [closeTake_recorder taken, traffic.recorder]
      rfl
    · rw [entry_of_dir (congrArg Library.dir (closeTake_lib taken)), closeEntry_entry_other other,
        entry_of_dir (congrArg Library.dir traffic.lib)]
      exact storeKey_entry_other wf other
    · rw [released, empty, List.nil_append]

end Sys2Proof.Machine
end

section
/-! The Recorder's requests (R142, R147, R150, R152): obligation O52. -/

namespace Sys2Proof.Machine

/-! ### RECORD_START (R142) -/

theorem maskOf_none {k : Nat} (out : k = 0 ∨ 256 ≤ k) : maskOf? k = none := if_neg (by omega)

theorem shapeOf_none {x : Nat} (out : 3 ≤ x) : shapeOf? x = none := by
  unfold shapeOf?
  split
  · omega
  · omega
  · omega
  · rfl

theorem boolOf_none {x : Nat} (out : 2 ≤ x) : boolOf? x = none := by
  unfold boolOf?
  split
  · omega
  · omega
  · rfl

/-- An operand out of its range is refused ahead of every other check (R142; log 31). -/
theorem recordStartRequest_outOfRange {id mask d shape trig : Nat} {name : List Nat} (out : id = 0 ∨ 32 < id ∨ nameOk 1 name = false ∨
    mask = 0 ∨ 256 ≤ mask ∨ d = 0 ∨ 64 < d ∨ 3 ≤ shape ∨ 2 ≤ trig) (s : State) :
    recordStartRequest id name mask d shape trig s = (s, .badValue) := by
  unfold recordStartRequest
  split
  · next m k sh armed move axes curve trigger =>
    refine if_pos ?_
    rcases out with zero | large | bad | none | wide | zero | large | unknown | other
    · rw [moveOf?_none (.inl zero)] at move; cases move
    · rw [moveOf?_none (.inr large)] at move; cases move
    · exact .inl bad
    · rw [maskOf_none (.inl none)] at axes; cases axes
    · rw [maskOf_none (.inr wide)] at axes; cases axes
    · exact .inr (by simp [within, zero])
    · exact .inr (by simp [within, Nat.not_le.mpr large])
    · rw [shapeOf_none unknown] at curve; cases curve
    · rw [boolOf_none other] at trigger; cases trigger
  · rfl

/-- The recorder record as a take begins (R142). -/
def Recorder.begin (r : Recorder) (m : MoveIx) (k : Mask) (d : Nat) (sh : Shape) (armed : Bool) : Recorder :=
  { r with
    state := if armed then .armed else .recording, move := some m, mask := some k, decimation := d, shape := sh, frames := none,
    lastQueued := none, fifo := [], outstanding := false, skipped := 0, cause := .stopped }

theorem recordStartRequest_inRange {m : MoveIx} {k : Mask} {name : List Nat} {d : Nat} (sh : Shape) (trig : Bool) (mask : k ≠ 0#8)
    (named : nameOk 1 name = true) (low : 1 ≤ d) (high : d ≤ 64) (s : State) :
    recordStartRequest (m.val + 1) name k.toNat d sh.code trig.toNat s =
      if s.recorder.state ≠ .idle then (s, .busy)
      else if (s.entry m).state ≠ .empty then (s, .wrongState)
      else ({ s.setEntry m (Entry.opened name k .recorder) with recorder := s.recorder.begin m k d sh trig }, .ok) := by
  have good : ¬ (nameOk 1 name = false ∨ within 1 64 d = false) := by simp [named, within, low, high]
  simp only [recordStartRequest, moveOf?_id, maskOf?_toNat mask, shapeOf?_code, boolOf?_toNat, if_neg good]
  rfl

theorem exec_recordStart {s : State} (h : s.delivers = true) (id mask d shape trig : Nat) (name : List Nat) {t : State} {c : Result}
    (acted : recordStartRequest id name mask d shape trig s = (t, c)) : exec (.recordStart id name mask d shape trig) s =
      delivered (.recordStart id name mask d shape trig) s t { code := c, fields := u8 t.recorder.state.code } := by
  rw [exec]
  exact answered_eq h (by rw [acted]; rfl)

/-! ### RECORD_STOP and the time limit (R147, R150) -/

theorem exec_recordStop {s : State} (h : s.delivers = true) {t : State} {c : Result} (acted : recordStopRequest s = (t, c)) :
    exec .recordStop s = delivered .recordStop s t { code := c, fields := u8 t.recorder.state.code } := by
  rw [exec]
  exact answered_eq h (by rw [acted]; rfl)

theorem exec_recorderTimeLimit {s : State} (on : s.power.on = true) :
    exec .recorderTimeLimit s = happened (recorderTimeLimit s) := event_on on

section
variable {s : State} {f : Nat} (recording : s.recorder.state = .recording) (frames : s.recorder.frames = some f)
include recording frames

theorem recordStopRequest_ends : recordStopRequest s = (endTake .stopped s, .ok) := by
  simp [recordStopRequest, recording, frames]

theorem recorderTimeLimit_eq : recorderTimeLimit s = if f = 16777215 then endTake .timeLimit s else s := by
  simp only [recorderTimeLimit, recording, frames, Option.some.injEq, true_and]
  rfl

end

theorem recordStopRequest_aborts {s : State} {m : MoveIx} (held : s.recorder.move = some m)
    (starting : s.recorder.state = .armed ∨ (s.recorder.state = .recording ∧ s.recorder.frames = none)) :
    recordStopRequest s = ({ emptyEntry m s with recorder := (emptyEntry m s).recorder.toIdle }, .ok) := by
  rcases starting with armed | ⟨recording, frames⟩
  · simp [recordStopRequest, armed, abortTake, held]
  · simp [recordStopRequest, recording, frames, abortTake, held]

/-! ### The final key (R147) -/

/-- The final key is due and the FIFO has room for it (R145). -/
def Recorder.queues (r : Recorder) (q f : Nat) : Bool := decide (q < f) && decide (r.fifo.length < 8)

/-- The final key is due and the FIFO is full (R145). -/
def Recorder.skips (r : Recorder) (q f : Nat) : Bool := decide (q < f) && decide (8 ≤ r.fifo.length)

/-- The recorder record as a take ends: its last key of time `q`, its last publication `f` frames since start (R145, R147). -/
def Recorder.ending (r : Recorder) (k : Mask) (q f : Nat) (c : CloseCause) : Recorder :=
  { r with
    state := .closing, cause := c, lastQueued := if r.queues q f then some f else some q,
    fifo := if r.queues q f then r.fifo ++ [{ time := f, shape := r.shape, positions := r.capture k }] else r.fifo,
    skipped := if r.skips q f then min (r.skipped + 1) 65535 else r.skipped }

/-- The state with GAPPED set at the entry of the take, if its final key is skipped (R145). -/
def State.gapIf (s : State) (m : MoveIx) (skipped : Bool) : State := if skipped then s.setEntry m (s.entry m).gap else s

section
variable (s : State) (m : MoveIx) (b : Bool)

theorem gapIf_port : (s.gapIf m b).port = s.port := by cases b <;> rfl

theorem gapIf_freeList : (s.gapIf m b).lib.freeList = s.lib.freeList := by cases b <;> rfl

theorem gapIf_keyStore : (s.gapIf m b).lib.keyStore = s.lib.keyStore := by cases b <;> rfl

theorem gapIf_keys : ((s.gapIf m b).entry m).keys = (s.entry m).keys := by
  cases b
  · rfl
  · exact (congrArg Entry.keys (setEntry_entry_same s m (s.entry m).gap) :)

end

/-- The state in which the Recorder takes its next request as a take ends (R147, R150). -/
def State.ending (s : State) (m : MoveIx) (k : Mask) (q f : Nat) (c : CloseCause) : State :=
  { s.gapIf m (s.recorder.skips q f) with recorder := s.recorder.ending k q f c }

theorem endTake_eq {s : State} {m : MoveIx} {k : Mask} {f q : Nat} (frames : s.recorder.frames = some f)
    (lastQueued : s.recorder.lastQueued = some q) (le : q ≤ f) (held : s.recorder.move = some m) (mask : s.recorder.mask = some k)
    (c : CloseCause) : endTake c s = recorderNext (s.ending m k q f c) := by
  have due : f = s.recorder.frames.getD 0 := by rw [frames]; rfl
  rcases Nat.lt_or_eq_of_le le with later | same
  · have fresh : ¬ s.recorder.lastQueued = some (s.recorder.frames.getD 0) := by
      rw [lastQueued, ← due]
      exact fun same => absurd (Option.some.inj same) (Nat.ne_of_lt later)
    rw [endTake, if_neg fresh, ← due]
    by_cases room : s.recorder.fifo.length < 8
    · have queues : s.recorder.queues q f = true := by simp [Recorder.queues, later, room]
      have skips : s.recorder.skips q f = false := by simp [Recorder.skips, room]
      rw [dueKey_room f held mask room, State.ending, Recorder.ending, queues, skips]
      rfl
    · have queues : s.recorder.queues q f = false := by simp [Recorder.queues, Nat.not_lt.mp room]
      have skips : s.recorder.skips q f = true := by simp [Recorder.skips, later, Nat.not_lt.mp room]
      rw [dueKey_full f held mask room, State.ending, Recorder.ending, queues, skips, ← lastQueued]
      rfl
  · have queues : s.recorder.queues q f = false := by simp [Recorder.queues, same]
    have skips : s.recorder.skips q f = false := by simp [Recorder.skips, same]
    rw [endTake, if_pos (by rw [lastQueued, ← due, same]), State.ending, Recorder.ending, queues, skips, ← lastQueued]
    rfl

/-- A take that ends with an empty FIFO has skipped no key. -/
theorem ending_done {r : Recorder} {k : Mask} {q f : Nat} {c : CloseCause} (empty : (r.ending k q f c).fifo = []) :
    r.skips q f = false ∧ (r.ending k q f c).skipped = r.skipped := by
  have queues : r.queues q f = false := Bool.eq_false_iff.mpr fun is =>
    List.append_ne_nil_of_right_ne_nil _ (List.cons_ne_nil _ []) ((if_pos is).symm.trans empty)
  have fifo : r.fifo = [] := (if_neg (by simp [queues])).symm.trans empty
  have skips : r.skips q f = false := by simp [Recorder.skips, fifo]
  exact ⟨skips, if_neg (by simp [skips])⟩

/-- The take ends with its final key queued before (R147, R150). -/
def State.atEnd (s : State) (c : CloseCause) : State := { s with recorder := { s.recorder with state := .closing, cause := c } }

theorem endTake_queuedBefore {s : State} {f : Nat} (frames : s.recorder.frames = some f) (lastQueued : s.recorder.lastQueued = some f)
    (c : CloseCause) : endTake c s = recorderNext (s.atEnd c) := by
  rw [endTake, if_pos (by rw [lastQueued, frames]; rfl)]
  rfl

/-! ### A take in CLOSING (R146, R148) -/

section
variable {s : State} {m : MoveIx} (held : s.recorder.move = some m) (closing : s.recorder.state = .closing)
include held closing

/-- The write of the FIFO's head waits at a BUSY port. -/
theorem closing_waits {head : Key} (first : s.recorder.fifo.head? = some head) (outstanding : s.recorder.outstanding = false)
    (busy : s.port.serving ≠ none) : recorderNext s = { s with
      recorder := { s.recorder with outstanding := true }, port := { s.port with waitRecorder := some (.recorderWrite m head) } } := by
  obtain ⟨rest, fifo⟩ := List.head?_eq_some_iff.mp first
  obtain ⟨v, serving⟩ := Option.ne_none_iff_exists'.mp busy
  rw [recorderNext_writes held fifo (.inr closing) outstanding]
  exact requestPort_busy (s := { s with recorder := { s.recorder with outstanding := true } }) serving _

/-- The write of the FIFO's head begins at a FREE port, and no key is stored yet. -/
theorem closing_writes {head : Key} (first : s.recorder.fifo.head? = some head) (outstanding : s.recorder.outstanding = false)
    (idle : s.port = KeyPort.idle) (room : (s.entry m).keys % 16 ≠ 0 ∨ s.lib.freeList ≠ []) :
    recorderNext s = { s with
      recorder := { s.recorder with outstanding := true }, lib := (recorderNext s).lib,
      port := { KeyPort.idle with serving := some { access := .recorderWrite m head, wanted := true, released := false } } } ∧
    ((recorderNext s).entry m).keys = (s.entry m).keys ∧ (recorderNext s).lib.keyStore = s.lib.keyStore ∧
    ((s.entry m).keys % 16 ≠ 0 → (recorderNext s).lib = s.lib) := by
  obtain ⟨rest, fifo⟩ := List.head?_eq_some_iff.mp first
  obtain ⟨t, granted⟩ := allocate_some (m := m) (s := { s with recorder := { s.recorder with outstanding := true } }) room
  have next : recorderNext s = serve (.recorderWrite m head) t := by
    rw [recorderNext_writes held fifo (.inr closing) outstanding]
    exact requestPort_write (s := { s with recorder := { s.recorder with outstanding := true } }) idle (.inr rfl) granted
  obtain ⟨keys, keyStore⟩ := writeGranted_kept granted
  rw [next]
  refine ⟨?_, keys, keyStore, fun inBlock => ?_⟩
  · rw [serve_eq, allocate_only granted, idle]
    rfl
  · have same := Option.some.inj (granted.symm.trans (allocate_inBlock (s := { s with
      recorder := { s.recorder with outstanding := true } }) inBlock))
    rw [same]
    rfl

end

/-! ### The statement -/

/-- Settles O52: RECORD_STOP and the time limit queue or skip the final key, then take the Recorder's next request in CLOSING. -/
theorem recorderRequestsComplete : Obligations.RecorderRequestsComplete := by
  refine ⟨fun id mask d shape trig name s h out => exec_recordStart h _ _ _ _ _ _ (recordStartRequest_outOfRange out s),
    fun s m k name d sh trig h mask named low high => ?_⟩
  have on : s.power.on = true := ((delivers_iff s).mp h).1
  have started := recordStartRequest_inRange (m := m) sh trig mask named low high s
  refine ⟨fun idle empty => ?start, fun busy => ?busy, fun idle taken => ?taken, fun idle => ?stopIdle, fun closing => ?stopClosing,
    fun held starting => ?aborts, fun f recording frames lastQueued outstanding fifo => ?waiting,
    fun f q k2 recording frames lastQueued le held mask => ?final,
    fun f recording frames lastQueued held fifo two => ?closes, ?get⟩
  case start =>
    rw [if_neg (not_not.mpr idle), if_neg (not_not.mpr empty)] at started
    refine ⟨_, exec_recordStart h _ _ _ _ _ _ started, ?_, rfl, rfl, fun j other => ?_⟩
    · exact setEntry_entry_same s m _
    · exact setEntry_entry_other s m j _ other
  case busy =>
    rw [if_pos busy] at started
    exact exec_recordStart h _ _ _ _ _ _ started
  case taken =>
    rw [if_neg (not_not.mpr idle), if_pos taken] at started
    rw [exec_recordStart h _ _ _ _ _ _ started, idle]
    rfl
  case stopIdle =>
    rw [exec_recordStop h (t := s) (c := .wrongState) (by rw [recordStopRequest, idle]), idle]
    rfl
  case stopClosing =>
    rw [exec_recordStop h (t := s) (c := .ok) (by rw [recordStopRequest, closing]), closing]
    rfl
  case aborts =>
    exact ⟨_, exec_recordStop h (recordStopRequest_aborts held starting), emptyEntry_entry_same m s, rfl, rfl, rfl⟩
  case waiting =>
    have ends (c : CloseCause) : endTake c s = s.atEnd c := by
      rw [endTake_queuedBefore frames lastQueued]
      exact recorderNext_outstanding fifo outstanding
    refine ⟨?_, ?_⟩
    · rw [exec_recordStop h (recordStopRequest_ends recording frames), ends]
      rfl
    · rw [exec_recorderTimeLimit on, recorderTimeLimit_eq recording frames, ends]
      rfl
  case final =>
    intro final queued skipped fifo gap left idle ends
    have ended (c : CloseCause) (cause : c ≠ .storeFull) : ends c (endTake c s) := by
      have port : (s.ending m k2 q f c).port = s.port := gapIf_port s m _
      have keys : ((s.ending m k2 q f c).entry m).keys = (s.entry m).keys := gapIf_keys s m _
      have freeList : (s.ending m k2 q f c).lib.freeList = s.lib.freeList := gapIf_freeList s m _
      have keyStore : (s.ending m k2 q f c).lib.keyStore = s.lib.keyStore := gapIf_keyStore s m _
      have taken : (s.ending m k2 q f c).recorder.move = some m := held
      rw [endTake_eq frames lastQueued le held mask]
      refine ⟨recorderNext_outstanding (s := s.ending m k2 q f c),
        fun head first outstanding => ⟨fun busy => ?busy, fun free room => ?writes⟩, fun none => ?done⟩
      case busy =>
        rw [closing_waits taken rfl first outstanding (port ▸ busy), port]
        rfl
      case writes =>
        rw [← keys, ← freeList] at room
        rw [← keys, ← keyStore]
        exact closing_writes taken rfl first outstanding (port.trans free) room
      case done =>
        obtain ⟨skips, skipped'⟩ := ending_done (k := k2) (c := c) none
        have same : s.gapIf m (s.recorder.skips q f) = s := by rw [skips]; rfl
        have lib : (s.ending m k2 q f c).lib = s.lib := (congrArg State.lib same :)
        have timer : (s.ending m k2 q f c).timer = s.timer := (congrArg State.timer same :)
        rw [recorderNext_closes (s := s.ending m k2 q f c) rfl none]
        refine ⟨(closeTake_recorder taken).trans ?_, closeTake_told lib timer skipped' taken cause⟩
        change ({ (s.recorder.ending k2 q f c).toIdle with skipped := (s.recorder.ending k2 q f c).skipped } : Recorder) = _
        rw [skipped']
        rfl
    refine ⟨⟨_, ended .stopped (by decide), exec_recordStop h (recordStopRequest_ends recording frames)⟩, fun reached => ?_, fun below => ?_⟩
    · refine ⟨_, ended .timeLimit (by decide), ?_⟩
      rw [exec_recorderTimeLimit on, recorderTimeLimit_eq recording frames, if_pos reached]
    · rw [exec_recorderTimeLimit on, recorderTimeLimit_eq recording frames, if_neg below]
  case closes =>
    have taken : (s.atEnd .stopped).recorder.move = some m := held
    have closed : recorderNext (s.atEnd .stopped) = closeTake .stopped (s.atEnd .stopped) := recorderNext_closes rfl fifo
    obtain ⟨ready, _, _, notice⟩ := (closeTake_told (s := s) (u := s.atEnd .stopped) (c := .stopped) rfl rfl rfl taken (by decide)).1 two
    have recorder := closeTake_recorder (c := .stopped) taken
    have ended : recordStopRequest s = (closeTake .stopped (s.atEnd .stopped), .ok) := by
      rw [recordStopRequest_ends recording frames, endTake_queuedBefore frames lastQueued, closed]
    refine ⟨_, ?_, ready, congrArg Recorder.state recorder, congrArg Recorder.move recorder, notice⟩
    rw [exec_recordStop h ended, recorder]
    rfl
  case get =>
    rw [exec]
    exact query_delivers h

end Sys2Proof.Machine
end
